-- ==== Sys2Proof/Word.lean ====
section
/-! DEFINITION. The two base types of the LQ-4's links: a byte, and a text of one-byte characters.
The unit reckons every other quantity in exact integers (R96), so no machine word appears here. -/

namespace Sys2Proof

/-- One character of a link: 8 data bits (R173). -/
abbrev Byte := BitVec 8

/-- A text field: die or serial characters, one byte each (R175). -/
abbrev Text := List Byte

end Sys2Proof
end

