-- ==== Sys2Proof/Config.lean ====
section
/-! DEFINITION. The fixed figures of the unit, each as the spec states it. The spec leaves no value of
this block undefined, so there is no free value (no `opaque`) here: notes/assumptions/1.md. -/

namespace Sys2Proof.Config

/-- The start byte of a frame (R173). -/
abbrev startByte : Byte := 0xC3

/-- The greatest length byte of a frame (R173). -/
abbrev maxLength : Nat := 250

/-- A converter saturates at this reading (0.5, R63). -/
abbrev saturation : Nat := 65000

/-- A findings list stores at most 8 findings (R6). -/
abbrev findingsCapacity : Nat := 8

/-- An archive page holds at most 8 records (R162). -/
abbrev pageCapacity : Nat := 8

/-- The greatest record number (R42). -/
abbrev maxRecord : Nat := 99999999

/-- The unit clock stops at this count (R122). -/
abbrev clockMax : Nat := 4294967295

/-- The ZEROING limit in pairs (R64). -/
abbrev zeroLimit : Nat := 600

/-- The RELEASE limit in pairs (R64). -/
abbrev releaseLimit : Nat := 1200

/-- A run of this many pairs starts the hold or the settle (R73, R79). -/
abbrev runLength : Nat := 3

/-- A low run of this many pairs ends the test (R75). -/
abbrev lowRunLength : Nat := 5

/-- Reading pairs to the second (0.5, R64). -/
abbrev pairsPerSecond : Nat := 10

/-- The grants count stops here (R2). -/
abbrev grantsMax : Nat := 253

/-- A live statistic saturates here (R127). -/
abbrev counterMax : Nat := 65535

/-- A link's fault count stays here (R179). -/
abbrev faultCountMax : Nat := 255

/-- The largest accepted Po_max (R27). -/
abbrev headroomMax : Nat := 64999

end Sys2Proof.Config
end

