-- ==== Sys2Proof/Syntax.lean ====
section
/-! DEFINITION. The commands of the unit: one constructor of `Instr` per row of spec/opcode_table.json.

A request is the arrival of one complete frame of that request on a link: its link, and its body, which is
either the fields of R175's body table or a body of another length (R174 answers that one LENGTH). Fields
hold what the wire carries, so a value out of its rule's range is a command too, and the rule refuses it.
The other rows are events: a reading pair at a head, a character fault on a link, a second of the unit
clock, the pushbutton, power. -/

namespace Sys2Proof

/-- The six station links (0.2). -/
inductive LinkId where
  | L0 | L1 | L2 | L3 | L4 | L5
  deriving DecidableEq, Repr

/-- The four test heads (0.2). -/
inductive HeadId where
  | H0 | H1 | H2 | H3
  deriving DecidableEq, Repr

/-- The severities of a finding, in rank order, above the NONE of a slot without findings (R5). -/
inductive Severity where
  | none | note | refer | condemn
  deriving DecidableEq, Repr

/-- The rulings of RULE (R139). -/
inductive Ruling where
  | retest | condemn | withdraw
  deriving DecidableEq, Repr

/-- The methods of SCRAPPED (R152). -/
inductive ScrapMethod where
  | cut | crush | punch
  deriving DecidableEq, Repr

/-- The statistics snapshot modes (R37). -/
inductive SnapMode where
  | manual | onDate
  deriving DecidableEq, Repr

/-- How LOOKUP names its slot (R175, R186). -/
inductive Selector where
  | carrier | slot
  deriving DecidableEq, Repr

/-- The notice kinds, in the order of the table of R182. -/
inductive NoticeKind where
  | holdDone | testDone | headUnproved | stampReady | scrapReady | pageFinished | linkLost
  | referralWaiting | registerFull | exportBlocked
  deriving DecidableEq, Repr

/-- A reading as a converter delivers it (0.5, R63): the physical quantity in its unit, or FAULT.
The converter saturates: `readingLevel` of Machine/Operands.lean gives 65,000 for anything higher. -/
inductive Reading where
  | value (n : Nat)
  | fault
  deriving DecidableEq, Repr

/-- The requests of R172, in the order that numbers their codes from 1. -/
inductive Request where
  | status | notices | noticeSetup | clearErrors | lookup
  | nextReferral | rule | withdraw | breakClaim | stopLink | startLink | lineReset | setDate | forceNotice | readStats
  | admitOrdinary | claim | finding | weigh | inspected | release
  | admitProving | mount | begin | abort | dismount | headSetup | headStatus
  | claimStamp | stamped | claimScrap | scrapped
  | loadType | dropType | readType | setMark | setLimits | readPage | turnPage | finishPage | snapshot
  deriving DecidableEq, Repr

/-- The body of a request frame: its fields, or a count of bytes that is not the request's own (R174). -/
inductive Body (α : Type) where
  | fields (a : α)
  | wrongLength
  deriving DecidableEq, Repr

/-- NOTICE_SETUP: enable names and values (bit k is kind k of R182), edge names and values (R175). -/
structure NoticeSetupArgs where
  enableNames : BitVec 16
  enableValues : BitVec 16
  edgeNames : BitVec 8
  edgeValues : BitVec 8
  deriving DecidableEq, Repr

/-- LOOKUP: `selector` is `none` for a byte outside the list CARRIER, SLOT. -/
structure LookupArgs where
  selector : Option Selector
  number : Nat
  deriving DecidableEq, Repr

/-- RULE: `ruling` is `none` for a byte outside the list RETEST, CONDEMN, WITHDRAW. -/
structure RuleArgs where
  slot : Nat
  ruling : Option Ruling
  deriving DecidableEq, Repr

/-- SET_DATE. -/
structure DateArgs where
  year : Nat
  month : Nat
  day : Nat
  deriving DecidableEq, Repr

/-- FORCE_NOTICE: `kind` is `none` for a byte outside the kinds of R182. -/
structure ForceNoticeArgs where
  link : Nat
  kind : Option NoticeKind
  number : Nat
  deriving DecidableEq, Repr

/-- ADMIT: the serial is the 16 characters of the field, padding and all. -/
structure AdmitArgs where
  carrier : Nat
  serial : Text
  type : Nat
  year : Nat
  month : Nat
  tare : Nat
  ree : Nat
  deriving DecidableEq, Repr

/-- FINDING: `severity` is `none` for a byte outside 0 to 3; `value` is `none` when the value mark is 0. -/
structure FindingArgs where
  carrier : Nat
  code : Nat
  severity : Option Severity
  value : Option Nat
  deriving DecidableEq, Repr

/-- WEIGH. -/
structure WeighArgs where
  carrier : Nat
  tare : Nat
  deriving DecidableEq, Repr

/-- ADMIT_PROVING: the serial is the 16 characters of the field. -/
structure AdmitProvingArgs where
  carrier : Nat
  serial : Text
  type : Nat
  deriving DecidableEq, Repr

/-- MOUNT. -/
structure MountArgs where
  head : Nat
  carrier : Nat
  deriving DecidableEq, Repr

/-- HEAD_SETUP. -/
structure HeadSetupArgs where
  head : Nat
  lag : Nat
  band : Nat
  deriving DecidableEq, Repr

/-- SCRAPPED: `method` is `none` for a byte outside the list CUT, CRUSH, PUNCH. -/
structure ScrappedArgs where
  carrier : Nat
  method : Option ScrapMethod
  deriving DecidableEq, Repr

/-- LOAD_TYPE: the name is the 8 characters of the field; `proving` is `none` for a byte that is neither
0 nor 1. -/
structure LoadTypeArgs where
  index : Nat
  name : Text
  proving : Option Bool
  pt : Nat
  holdSeconds : Nat
  w : Nat
  lp : Nat
  ree : Nat
  lo : Nat
  ld : Nat
  lr : Nat
  lw : Nat
  lifeYears : Nat
  interval : Nat
  ls : Nat
  starInterval : Nat
  rampLimit : Nat
  settleLimit : Nat
  tn : Nat
  lt : Nat
  deriving DecidableEq, Repr

/-- SET_LIMITS: `mode` is `none` for a byte outside the list MANUAL, ON_DATE. -/
structure LimitsArgs where
  validity : Nat
  testLimit : Nat
  silence : Nat
  mode : Option SnapMode
  deriving DecidableEq, Repr

/-- The commands of spec/opcode_table.json. -/
inductive Instr where
  -- requests of every link
  | status (l : LinkId) (b : Body Unit)
  | notices (l : LinkId) (b : Body Unit)
  | noticeSetup (l : LinkId) (b : Body NoticeSetupArgs)
  | clearErrors (l : LinkId) (b : Body (BitVec 8))
  | lookup (l : LinkId) (b : Body LookupArgs)
  -- the supervisor panel
  | nextReferral (l : LinkId) (b : Body Unit)
  | rule (l : LinkId) (b : Body RuleArgs)
  | withdraw (l : LinkId) (b : Body Nat)
  | breakClaim (l : LinkId) (b : Body Nat)
  | stopLink (l : LinkId) (b : Body Nat)
  | startLink (l : LinkId) (b : Body Nat)
  | lineReset (l : LinkId) (b : Body Unit)
  | resetPushbutton
  | setDate (l : LinkId) (b : Body DateArgs)
  | forceNotice (l : LinkId) (b : Body ForceNoticeArgs)
  | readStats (l : LinkId) (b : Body Unit)
  -- the inspection station
  | admitOrdinary (l : LinkId) (b : Body AdmitArgs)
  | claim (l : LinkId) (b : Body Nat)
  | finding (l : LinkId) (b : Body FindingArgs)
  | weigh (l : LinkId) (b : Body WeighArgs)
  | inspected (l : LinkId) (b : Body Nat)
  | release (l : LinkId) (b : Body Nat)
  -- the bench controller
  | admitProving (l : LinkId) (b : Body AdmitProvingArgs)
  | mount (l : LinkId) (b : Body MountArgs)
  | begin (l : LinkId) (b : Body Nat)
  | abort (l : LinkId) (b : Body Nat)
  | dismount (l : LinkId) (b : Body Nat)
  | headSetup (l : LinkId) (b : Body HeadSetupArgs)
  | headStatus (l : LinkId) (b : Body Nat)
  -- the stamp and scrap stations
  | claimStamp (l : LinkId) (b : Body Nat)
  | stamped (l : LinkId) (b : Body Nat)
  | claimScrap (l : LinkId) (b : Body Nat)
  | scrapped (l : LinkId) (b : Body ScrappedArgs)
  -- the archive computer
  | loadType (l : LinkId) (b : Body LoadTypeArgs)
  | dropType (l : LinkId) (b : Body Nat)
  | readType (l : LinkId) (b : Body Nat)
  | setMark (l : LinkId) (b : Body Text)
  | setLimits (l : LinkId) (b : Body LimitsArgs)
  | readPage (l : LinkId) (b : Body Nat)
  | turnPage (l : LinkId) (b : Body Nat)
  | finishPage (l : LinkId) (b : Body Unit)
  | snapshot (l : LinkId) (b : Body Unit)
  /-- A good frame whose request code names no request (R174). -/
  | unknownCode (l : LinkId) (code : Nat)
  -- the heads: every row but the first is a reading pair that brings its event about
  | readingPair (h : HeadId) (pressure jacket : Reading)
  | zeroTimeout (h : HeadId) (pressure jacket : Reading)
  | rampTimeout (h : HeadId) (pressure jacket : Reading)
  | holdComplete (h : HeadId) (pressure jacket : Reading)
  | tailEnd (h : HeadId) (pressure jacket : Reading)
  | releaseTimeout (h : HeadId) (pressure jacket : Reading)
  | settleTimeout (h : HeadId) (pressure jacket : Reading)
  -- the clock
  | silenceTimeout (l : LinkId)
  | lapseByTime (h : HeadId)
  -- the archive pages
  | moveRecords
  -- power
  | powerOn
  -- characters and frames that are not good; `inFrame` says whether the character lies inside a frame
  | parity (l : LinkId) (inFrame : Bool)
  | framing (l : LinkId) (inFrame : Bool)
  /-- A gap over 20 ms inside a frame; `next` is the character that ended the gap (R177). -/
  | fragment (l : LinkId) (next : Byte)
  | check (l : LinkId)
  | overrun (l : LinkId)
  | lengthByteFault (l : LinkId) (length : Nat)
  | powerLoss
  | unitClockAdvance
  | answerSent (l : LinkId)
  | gapOver20ms (l : LinkId)
  deriving DecidableEq, Repr

end Sys2Proof
end

