-- ==== Sys2Proof/WellFormed.lean ====
section
/-! DEFINITION. Which commands a link can carry: each number within its field's bytes, each text of its
field's length, and the two event rows that name a byte within the bytes that make the event (R172 to R177).
A value outside its RULE's range is well formed here; the rule refuses it. -/

namespace Sys2Proof

/-- A one-byte number. -/
def fitsByte (n : Nat) : Bool := decide (n < 256)

/-- A two-byte number. -/
def fitsWord (n : Nat) : Bool := decide (n < 65536)

/-- A four-byte number. -/
def fitsLong (n : Nat) : Bool := decide (n < 4294967296)

/-- A body of another length is well formed; fields are when `p` says so. -/
def Body.wf {α : Type} (p : α → Bool) : Body α → Bool
  | .fields a => p a
  | .wrongLength => true

/-- ADMIT fits its 25 bytes. -/
def AdmitArgs.wf (a : AdmitArgs) : Bool :=
  fitsByte a.carrier && decide (a.serial.length = 16) && fitsByte a.type && fitsWord a.year && fitsByte a.month &&
    fitsWord a.tare && fitsWord a.ree

/-- LOAD_TYPE fits its 32 bytes. -/
def LoadTypeArgs.wf (a : LoadTypeArgs) : Bool :=
  fitsByte a.index && decide (a.name.length = 8) && fitsWord a.pt && fitsByte a.holdSeconds && fitsByte a.w &&
    fitsByte a.lp && fitsWord a.ree && fitsByte a.lo && fitsByte a.ld && fitsByte a.lr && fitsByte a.lw &&
    fitsByte a.lifeYears && fitsByte a.interval && fitsByte a.ls && fitsByte a.starInterval && fitsWord a.rampLimit &&
    fitsWord a.settleLimit && fitsWord a.tn && fitsByte a.lt

/-- The command can occur. -/
def wellFormed : Instr → Bool
  | .status _ _ => true
  | .notices _ _ => true
  | .noticeSetup _ _ => true
  | .clearErrors _ _ => true
  | .lookup _ b => b.wf fun a => fitsWord a.number
  | .nextReferral _ _ => true
  | .rule _ b => b.wf fun a => fitsByte a.slot
  | .withdraw _ b => b.wf fitsByte
  | .breakClaim _ b => b.wf fitsByte
  | .stopLink _ b => b.wf fitsByte
  | .startLink _ b => b.wf fitsByte
  | .lineReset _ _ => true
  | .resetPushbutton => true
  | .setDate _ b => b.wf fun a => fitsWord a.year && fitsByte a.month && fitsByte a.day
  | .forceNotice _ b => b.wf fun a => fitsByte a.link && fitsByte a.number
  | .readStats _ _ => true
  | .admitOrdinary _ b => b.wf AdmitArgs.wf
  | .claim _ b => b.wf fitsByte
  | .finding _ b => b.wf fun a => fitsByte a.carrier && fitsByte a.code && (a.value.map fitsWord).getD true
  | .weigh _ b => b.wf fun a => fitsByte a.carrier && fitsWord a.tare
  | .inspected _ b => b.wf fitsByte
  | .release _ b => b.wf fitsByte
  | .admitProving _ b => b.wf fun a => fitsByte a.carrier && decide (a.serial.length = 16) && fitsByte a.type
  | .mount _ b => b.wf fun a => fitsByte a.head && fitsByte a.carrier
  | .begin _ b => b.wf fitsByte
  | .abort _ b => b.wf fitsByte
  | .dismount _ b => b.wf fitsByte
  | .headSetup _ b => b.wf fun a => fitsByte a.head && fitsByte a.lag && fitsWord a.band
  | .headStatus _ b => b.wf fitsByte
  | .claimStamp _ b => b.wf fitsByte
  | .stamped _ b => b.wf fitsByte
  | .claimScrap _ b => b.wf fitsByte
  | .scrapped _ b => b.wf fun a => fitsByte a.carrier
  | .loadType _ b => b.wf LoadTypeArgs.wf
  | .dropType _ b => b.wf fitsByte
  | .readType _ b => b.wf fitsByte
  | .setMark _ b => b.wf fun t => decide (t.length ≤ 248)
  | .setLimits _ b => b.wf fun a => fitsWord a.validity && fitsWord a.testLimit && fitsByte a.silence
  | .readPage _ b => b.wf fitsByte
  | .turnPage _ b => b.wf fitsLong
  | .finishPage _ _ => true
  | .snapshot _ _ => true
  | .unknownCode _ code => decide (code = 0 ∨ (41 < code ∧ code < 256))
  | .readingPair _ _ _ => true
  | .zeroTimeout _ _ _ => true
  | .rampTimeout _ _ _ => true
  | .holdComplete _ _ _ => true
  | .tailEnd _ _ _ => true
  | .releaseTimeout _ _ _ => true
  | .settleTimeout _ _ _ => true
  | .silenceTimeout _ => true
  | .lapseByTime _ => true
  | .moveRecords => true
  | .powerOn => true
  | .parity _ _ => true
  | .framing _ _ => true
  | .fragment _ _ => true
  | .check _ => true
  | .overrun _ => true
  | .lengthByteFault _ n => decide (n = 0 ∨ (250 < n ∧ n < 256))
  | .powerLoss => true
  | .unitClockAdvance => true
  | .answerSent _ => true
  | .gapOver20ms _ => true

end Sys2Proof
end

