-- ==== Sys2Proof/Decode.lean ====
section
/-! DEFINITION. The frames of the links (R172 to R175): which request a code names, the body of each request
byte by byte, a whole frame read and written. `decodeFrame` is total: bytes that are no complete frame give
none, a bad byte sum gives CHECK, a length byte outside 1 to 250 gives LENGTH_BYTE_FAULT, a code of no
request gives UNKNOWN_CODE, a body of another length gives the request with `wrongLength`.

spec/opcode_table.json gives no row any bits, so `decodeTableWord` answers none for every word. -/

namespace Sys2Proof

/-! ### Numbers and lists as bytes -/

/-- One byte. -/
def u8 (n : Nat) : List Byte := [BitVec.ofNat 8 n]

/-- Two bytes, most significant first (R175). -/
def u16 (n : Nat) : List Byte := [BitVec.ofNat 8 (n / 256), BitVec.ofNat 8 n]

/-- Four bytes, most significant first. -/
def u32 (n : Nat) : List Byte :=
  [BitVec.ofNat 8 (n / 16777216), BitVec.ofNat 8 (n / 65536), BitVec.ofNat 8 (n / 256), BitVec.ofNat 8 n]

/-- The byte at position i of a body, as a number. -/
def byteAt (b : List Byte) (i : Nat) : Nat := (b.getD i 0).toNat

/-- The two-byte number at position i. -/
def wordAt (b : List Byte) (i : Nat) : Nat := byteAt b i * 256 + byteAt b (i + 1)

/-- The four-byte number at position i. -/
def longAt (b : List Byte) (i : Nat) : Nat := wordAt b i * 65536 + wordAt b (i + 2)

/-- The n characters from position i. -/
def textAt (b : List Byte) (i n : Nat) : Text := (b.drop i).take n

/-- The value at a position of an enumeration, counted from 1 (R175). -/
def fromList {α : Type} (xs : List α) (n : Nat) : Option α := if n = 0 then none else xs[n - 1]?

/-- The position of a value, counted from 1; 0 for none (R175). -/
def toPosition {α : Type} [DecidableEq α] (xs : List α) : Option α → Nat
  | some x => xs.idxOf x + 1
  | none => 0

/-! ### Request codes (R172) -/

/-- The requests in the order of their codes. -/
def Request.all : List Request :=
  [.status, .notices, .noticeSetup, .clearErrors, .lookup,
   .nextReferral, .rule, .withdraw, .breakClaim, .stopLink, .startLink, .lineReset, .setDate, .forceNotice, .readStats,
   .admitOrdinary, .claim, .finding, .weigh, .inspected, .release,
   .admitProving, .mount, .begin, .abort, .dismount, .headSetup, .headStatus,
   .claimStamp, .stamped, .claimScrap, .scrapped,
   .loadType, .dropType, .readType, .setMark, .setLimits, .readPage, .turnPage, .finishPage, .snapshot]

/-- The code of a request: STATUS is 1, SNAPSHOT is 41. -/
def Request.code (r : Request) : Nat := Request.all.idxOf r + 1

/-- The request of a code, if the code names one. -/
def Request.ofCode (n : Nat) : Option Request := fromList Request.all n

/-! ### Enumerated fields (R175) -/

/-- The selectors of LOOKUP. -/
def Selector.list : List Selector := [.carrier, .slot]

/-- The rulings of RULE. -/
def Ruling.list : List Ruling := [.retest, .condemn, .withdraw]

/-- The methods of SCRAPPED. -/
def ScrapMethod.list : List ScrapMethod := [.cut, .crush, .punch]

/-- The snapshot modes of SET_LIMITS. -/
def SnapMode.list : List SnapMode := [.manual, .onDate]

/-- The notice kinds of FORCE_NOTICE and NOTICE_SETUP. -/
def NoticeKind.list : List NoticeKind :=
  [.holdDone, .testDone, .headUnproved, .stampReady, .scrapReady, .pageFinished, .linkLost, .referralWaiting,
   .registerFull, .exportBlocked]

/-- The severity byte of FINDING: NOTE, REFER, CONDEMN from 1, with 0 for NONE. -/
def Severity.ofByte : Nat → Option Severity
  | 0 => some .none
  | 1 => some .note
  | 2 => some .refer
  | 3 => some .condemn
  | _ => Option.none

/-- The byte of a severity; 4 stands for a byte that is no severity. -/
def Severity.toByte : Option Severity → Nat
  | some .none => 0
  | some .note => 1
  | some .refer => 2
  | some .condemn => 3
  | Option.none => 4

/-- A yes-or-no byte: 0 for no, 1 for yes, nothing else (R175). -/
def yesNoOfByte : Nat → Option Bool
  | 0 => some false
  | 1 => some true
  | _ => none

/-- The byte of a yes-or-no field; 2 stands for a byte that is neither. -/
def yesNoToByte : Option Bool → Nat
  | some false => 0
  | some true => 1
  | none => 2

/-! ### Bodies read (R175) -/

/-- A body of exactly n bytes, read by `f`. -/
def readExactly {α : Type} (n : Nat) (f : List Byte → α) (b : List Byte) : Body α :=
  if b.length = n then .fields (f b) else .wrongLength

/-- A body with no fields. -/
def readNothing : List Byte → Body Unit := readExactly 0 fun _ => ()

/-- A body of one byte. -/
def readOne : List Byte → Body Nat := readExactly 1 fun b => byteAt b 0

/-- The body of SET_MARK: a count c, then c characters. -/
def readMark : List Byte → Body Text
  | [] => .wrongLength
  | c :: t => if t.length = c.toNat then .fields t else .wrongLength

/-- The body of LOAD_TYPE. -/
def readLoadType (b : List Byte) : LoadTypeArgs :=
  { index := byteAt b 0, name := textAt b 1 8, proving := yesNoOfByte (byteAt b 9), pt := wordAt b 10,
    holdSeconds := byteAt b 12, w := byteAt b 13, lp := byteAt b 14, ree := wordAt b 15, lo := byteAt b 17,
    ld := byteAt b 18, lr := byteAt b 19, lw := byteAt b 20, lifeYears := byteAt b 21, interval := byteAt b 22,
    ls := byteAt b 23, starInterval := byteAt b 24, rampLimit := wordAt b 25, settleLimit := wordAt b 27,
    tn := wordAt b 29, lt := byteAt b 31 }

/-- The body of ADMIT. -/
def readAdmit (b : List Byte) : AdmitArgs :=
  { carrier := byteAt b 0, serial := textAt b 1 16, type := byteAt b 17, year := wordAt b 18, month := byteAt b 20,
    tare := wordAt b 21, ree := wordAt b 23 }

/-- The command that a good frame with this code and body gives on link l. -/
def decodeRequest (l : LinkId) (code : Nat) (b : List Byte) : Instr :=
  match Request.ofCode code with
  | none => .unknownCode l code
  | some .status => .status l (readNothing b)
  | some .notices => .notices l (readNothing b)
  | some .noticeSetup =>
    .noticeSetup l (readExactly 6
      (fun b => ⟨BitVec.ofNat 16 (wordAt b 0), BitVec.ofNat 16 (wordAt b 2), b.getD 4 0, b.getD 5 0⟩) b)
  | some .clearErrors => .clearErrors l (readExactly 1 (fun b => b.getD 0 0) b)
  | some .lookup => .lookup l (readExactly 3 (fun b => ⟨fromList Selector.list (byteAt b 0), wordAt b 1⟩) b)
  | some .nextReferral => .nextReferral l (readNothing b)
  | some .rule => .rule l (readExactly 2 (fun b => ⟨byteAt b 0, fromList Ruling.list (byteAt b 1)⟩) b)
  | some .withdraw => .withdraw l (readOne b)
  | some .breakClaim => .breakClaim l (readOne b)
  | some .stopLink => .stopLink l (readOne b)
  | some .startLink => .startLink l (readOne b)
  | some .lineReset => .lineReset l (readNothing b)
  | some .setDate => .setDate l (readExactly 4 (fun b => ⟨wordAt b 0, byteAt b 2, byteAt b 3⟩) b)
  | some .forceNotice =>
    .forceNotice l (readExactly 3 (fun b => ⟨byteAt b 0, fromList NoticeKind.list (byteAt b 1), byteAt b 2⟩) b)
  | some .readStats => .readStats l (readNothing b)
  | some .admitOrdinary => .admitOrdinary l (readExactly 25 readAdmit b)
  | some .claim => .claim l (readOne b)
  | some .finding =>
    .finding l (readExactly 6
      (fun b => ⟨byteAt b 0, byteAt b 1, Severity.ofByte (byteAt b 2), if byteAt b 3 = 0 then none else some (wordAt b 4)⟩) b)
  | some .weigh => .weigh l (readExactly 3 (fun b => ⟨byteAt b 0, wordAt b 1⟩) b)
  | some .inspected => .inspected l (readOne b)
  | some .release => .release l (readOne b)
  | some .admitProving =>
    .admitProving l (readExactly 18 (fun b => ⟨byteAt b 0, textAt b 1 16, byteAt b 17⟩) b)
  | some .mount => .mount l (readExactly 2 (fun b => ⟨byteAt b 0, byteAt b 1⟩) b)
  | some .begin => .begin l (readOne b)
  | some .abort => .abort l (readOne b)
  | some .dismount => .dismount l (readOne b)
  | some .headSetup => .headSetup l (readExactly 4 (fun b => ⟨byteAt b 0, byteAt b 1, wordAt b 2⟩) b)
  | some .headStatus => .headStatus l (readOne b)
  | some .claimStamp => .claimStamp l (readOne b)
  | some .stamped => .stamped l (readOne b)
  | some .claimScrap => .claimScrap l (readOne b)
  | some .scrapped => .scrapped l (readExactly 2 (fun b => ⟨byteAt b 0, fromList ScrapMethod.list (byteAt b 1)⟩) b)
  | some .loadType => .loadType l (readExactly 32 readLoadType b)
  | some .dropType => .dropType l (readOne b)
  | some .readType => .readType l (readOne b)
  | some .setMark => .setMark l (readMark b)
  | some .setLimits =>
    .setLimits l (readExactly 6
      (fun b => ⟨wordAt b 0, wordAt b 2, byteAt b 4, fromList SnapMode.list (byteAt b 5)⟩) b)
  | some .readPage => .readPage l (readOne b)
  | some .turnPage => .turnPage l (readExactly 4 (fun b => longAt b 0) b)
  | some .finishPage => .finishPage l (readNothing b)
  | some .snapshot => .snapshot l (readNothing b)

/-! ### Whole frames (R173, R175) -/

/-- The byte sum of a list of characters. -/
def byteSum (b : List Byte) : Nat := (b.map BitVec.toNat).sum

/-- The command that a frame's characters give on link l, all of them received without a character fault and
with no gap: none while the characters are no complete frame. -/
def decodeFrame (l : LinkId) : List Byte → Option Instr
  | start :: n :: rest =>
    if start ≠ Config.startByte then none
    else if n.toNat = 0 ∨ Config.maxLength < n.toNat then some (.lengthByteFault l n.toNat)
    else if rest.length ≠ n.toNat + 1 then none
    else if byteSum (n :: rest) % 256 ≠ 0 then some (.check l)
    else some (decodeRequest l (byteAt rest 0) ((rest.drop 1).take (n.toNat - 1)))
  | _ => none

/-! ### Requests written (R175) -/

/-- The body bytes of fields, or a body of a length the request does not take: one byte for a request
without fields, none for any other. -/
def Body.bytes {α : Type} (write : α → List Byte) (wrong : List Byte) : Body α → List Byte
  | .fields a => write a
  | .wrongLength => wrong

/-- The bytes of a body without fields. -/
def nothingBytes : Body Unit → List Byte := Body.bytes (fun _ => []) [0]

/-- The bytes of a body of one byte. -/
def oneBytes : Body Nat → List Byte := Body.bytes u8 []

/-- The bytes of ADMIT's body. -/
def admitBytes (a : AdmitArgs) : List Byte :=
  u8 a.carrier ++ a.serial ++ u8 a.type ++ u16 a.year ++ u8 a.month ++ u16 a.tare ++ u16 a.ree

/-- The bytes of LOAD_TYPE's body. -/
def loadTypeBytes (a : LoadTypeArgs) : List Byte :=
  u8 a.index ++ a.name ++ u8 (yesNoToByte a.proving) ++ u16 a.pt ++ u8 a.holdSeconds ++ u8 a.w ++ u8 a.lp ++ u16 a.ree ++
    u8 a.lo ++ u8 a.ld ++ u8 a.lr ++ u8 a.lw ++ u8 a.lifeYears ++ u8 a.interval ++ u8 a.ls ++ u8 a.starInterval ++
    u16 a.rampLimit ++ u16 a.settleLimit ++ u16 a.tn ++ u8 a.lt

/-- The bytes of FINDING's optional value: the mark, then the value. -/
def valueBytes : Option Nat → List Byte
  | some v => u8 1 ++ u16 v
  | none => u8 0 ++ u16 0

/-- The link, request code and body of a command that is a frame with a request code; none for an event. -/
def encodeRequest : Instr → Option (LinkId × Nat × List Byte)
  | .status l b => some (l, Request.code .status, nothingBytes b)
  | .notices l b => some (l, Request.code .notices, nothingBytes b)
  | .noticeSetup l b =>
    some (l, Request.code .noticeSetup,
      b.bytes (fun a => u16 a.enableNames.toNat ++ u16 a.enableValues.toNat ++ [a.edgeNames, a.edgeValues]) [])
  | .clearErrors l b => some (l, Request.code .clearErrors, b.bytes (fun f => [f]) [])
  | .lookup l b =>
    some (l, Request.code .lookup, b.bytes (fun a => u8 (toPosition Selector.list a.selector) ++ u16 a.number) [])
  | .nextReferral l b => some (l, Request.code .nextReferral, nothingBytes b)
  | .rule l b => some (l, Request.code .rule, b.bytes (fun a => u8 a.slot ++ u8 (toPosition Ruling.list a.ruling)) [])
  | .withdraw l b => some (l, Request.code .withdraw, oneBytes b)
  | .breakClaim l b => some (l, Request.code .breakClaim, oneBytes b)
  | .stopLink l b => some (l, Request.code .stopLink, oneBytes b)
  | .startLink l b => some (l, Request.code .startLink, oneBytes b)
  | .lineReset l b => some (l, Request.code .lineReset, nothingBytes b)
  | .setDate l b => some (l, Request.code .setDate, b.bytes (fun a => u16 a.year ++ u8 a.month ++ u8 a.day) [])
  | .forceNotice l b =>
    some (l, Request.code .forceNotice,
      b.bytes (fun a => u8 a.link ++ u8 (toPosition NoticeKind.list a.kind) ++ u8 a.number) [])
  | .readStats l b => some (l, Request.code .readStats, nothingBytes b)
  | .admitOrdinary l b => some (l, Request.code .admitOrdinary, b.bytes admitBytes [])
  | .claim l b => some (l, Request.code .claim, oneBytes b)
  | .finding l b =>
    some (l, Request.code .finding,
      b.bytes (fun a => u8 a.carrier ++ u8 a.code ++ u8 (Severity.toByte a.severity) ++ valueBytes a.value) [])
  | .weigh l b => some (l, Request.code .weigh, b.bytes (fun a => u8 a.carrier ++ u16 a.tare) [])
  | .inspected l b => some (l, Request.code .inspected, oneBytes b)
  | .release l b => some (l, Request.code .release, oneBytes b)
  | .admitProving l b =>
    some (l, Request.code .admitProving, b.bytes (fun a => u8 a.carrier ++ a.serial ++ u8 a.type) [])
  | .mount l b => some (l, Request.code .mount, b.bytes (fun a => u8 a.head ++ u8 a.carrier) [])
  | .begin l b => some (l, Request.code .begin, oneBytes b)
  | .abort l b => some (l, Request.code .abort, oneBytes b)
  | .dismount l b => some (l, Request.code .dismount, oneBytes b)
  | .headSetup l b => some (l, Request.code .headSetup, b.bytes (fun a => u8 a.head ++ u8 a.lag ++ u16 a.band) [])
  | .headStatus l b => some (l, Request.code .headStatus, oneBytes b)
  | .claimStamp l b => some (l, Request.code .claimStamp, oneBytes b)
  | .stamped l b => some (l, Request.code .stamped, oneBytes b)
  | .claimScrap l b => some (l, Request.code .claimScrap, oneBytes b)
  | .scrapped l b =>
    some (l, Request.code .scrapped, b.bytes (fun a => u8 a.carrier ++ u8 (toPosition ScrapMethod.list a.method)) [])
  | .loadType l b => some (l, Request.code .loadType, b.bytes loadTypeBytes [])
  | .dropType l b => some (l, Request.code .dropType, oneBytes b)
  | .readType l b => some (l, Request.code .readType, oneBytes b)
  | .setMark l b => some (l, Request.code .setMark, b.bytes (fun t => u8 t.length ++ t) [])
  | .setLimits l b =>
    some (l, Request.code .setLimits,
      b.bytes (fun a => u16 a.validity ++ u16 a.testLimit ++ u8 a.silence ++ u8 (toPosition SnapMode.list a.mode)) [])
  | .readPage l b => some (l, Request.code .readPage, oneBytes b)
  | .turnPage l b => some (l, Request.code .turnPage, b.bytes u32 [])
  | .finishPage l b => some (l, Request.code .finishPage, nothingBytes b)
  | .snapshot l b => some (l, Request.code .snapshot, nothingBytes b)
  | .unknownCode l code => some (l, code, [])
  | .resetPushbutton => none
  | .readingPair _ _ _ => none
  | .zeroTimeout _ _ _ => none
  | .rampTimeout _ _ _ => none
  | .holdComplete _ _ _ => none
  | .tailEnd _ _ _ => none
  | .releaseTimeout _ _ _ => none
  | .settleTimeout _ _ _ => none
  | .silenceTimeout _ => none
  | .lapseByTime _ => none
  | .moveRecords => none
  | .powerOn => none
  | .parity _ _ => none
  | .framing _ _ => none
  | .fragment _ _ => none
  | .check _ => none
  | .overrun _ => none
  | .lengthByteFault _ _ => none
  | .powerLoss => none
  | .unitClockAdvance => none
  | .answerSent _ => none
  | .gapOver20ms _ => none

/-- The characters after the start byte, closed by the check byte that makes their sum a multiple of 256. -/
def withCheck (b : List Byte) : List Byte := b ++ [BitVec.ofNat 8 (256 - byteSum b % 256)]

/-- The frame of a code and a body (R175). -/
def frameOf (code : Nat) (b : List Byte) : List Byte :=
  Config.startByte :: withCheck (u8 (b.length + 1) ++ u8 code ++ b)

/-- The link and the frame that carry a request; none for an event. -/
def encodeFrame (i : Instr) : Option (LinkId × List Byte) :=
  (encodeRequest i).map fun (l, code, b) => (l, frameOf code b)

/-! ### The table's bits -/

/-- The command that a word spells by the bits of spec/opcode_table.json. The table gives bits to none of its
rows, so no word spells a command. -/
def decodeTableWord (_nbits _w : Nat) : Option Instr := none

end Sys2Proof
end

