-- ==== Sys2Proof/Machine/State.lean ====
section
/-! DEFINITION. Everything the spec gives the unit to hold, as plain data, and the unit as it starts: the
factory store (R25, R34, R37, R42, R160) after a power-on (R23, R94, R132, R180). INVENTORY.md lists each
item with its rule. What the spec defines as a view of other state is computed, not stored: the call line
(R182), the two roll conditions and the export-blocked condition (R9, R21, R165), Po_max (R27). -/

namespace Sys2Proof.Machine

/-- A step of this unit never faults: every row of the table has an effect in every state. Closed and
empty, so no meaning can raise one (safe). -/
inductive Fault where
  deriving DecidableEq, Repr

/-- Why a step is refused. -/
inductive Refusal where
  /-- Raised by an arm of `exec` for a command that has no meaning yet (safe). No arm raises it now. -/
  | notModelled (mnemonic : String)
  deriving DecidableEq, Repr

/-! ### Values by link, head and fault -/

/-- One value per link. -/
structure PerLink (α : Type) where
  l0 : α
  l1 : α
  l2 : α
  l3 : α
  l4 : α
  l5 : α
  deriving DecidableEq, Repr

/-- The value of one link. -/
def PerLink.get {α : Type} (v : PerLink α) : LinkId → α
  | .L0 => v.l0 | .L1 => v.l1 | .L2 => v.l2 | .L3 => v.l3 | .L4 => v.l4 | .L5 => v.l5

/-- Replace the value of one link. -/
def PerLink.set {α : Type} (v : PerLink α) (l : LinkId) (x : α) : PerLink α :=
  match l with
  | .L0 => { v with l0 := x } | .L1 => { v with l1 := x } | .L2 => { v with l2 := x }
  | .L3 => { v with l3 := x } | .L4 => { v with l4 := x } | .L5 => { v with l5 := x }

/-- The same value for every link. -/
def PerLink.all {α : Type} (x : α) : PerLink α := ⟨x, x, x, x, x, x⟩

/-- One value per head. -/
structure PerHead (α : Type) where
  h0 : α
  h1 : α
  h2 : α
  h3 : α
  deriving DecidableEq, Repr

/-- The value of one head. -/
def PerHead.get {α : Type} (v : PerHead α) : HeadId → α
  | .H0 => v.h0 | .H1 => v.h1 | .H2 => v.h2 | .H3 => v.h3

/-- Replace the value of one head. -/
def PerHead.set {α : Type} (v : PerHead α) (h : HeadId) (x : α) : PerHead α :=
  match h with
  | .H0 => { v with h0 := x } | .H1 => { v with h1 := x } | .H2 => { v with h2 := x } | .H3 => { v with h3 := x }

/-- The same value for every head. -/
def PerHead.all {α : Type} (x : α) : PerHead α := ⟨x, x, x, x⟩

/-- One value per link fault, in the order of the error-flag byte (R175). -/
structure PerFault (α : Type) where
  parity : α
  framing : α
  check : α
  fragment : α
  overrun : α
  deriving DecidableEq, Repr

/-! ### The cylinder roll (chapter 1) -/

/-- A roll slot number, 0 to 47 (R1). -/
abbrev SlotId := Fin 48

/-- A type index, 0 to 31 (R25). -/
abbrev TypeId := Fin 32

/-- A calendar date (0.5, R39). -/
structure Date where
  year : Nat
  month : Nat
  day : Nat
  deriving DecidableEq, Repr

/-- A year and month: a manufacture month or a due date. -/
structure YearMonth where
  year : Nat
  month : Nat
  deriving DecidableEq, Repr

/-- The states of a slot (R1), in the order of its table. -/
inductive SlotState where
  | free | admitted | inspecting | awaitTest | testing | referred | awaitStamp | stamping | awaitScrap | scrapping
  | closed
  deriving DecidableEq, Repr

/-- Who holds a slot's claim (R2, R16). -/
inductive Holder where
  | link (l : LinkId)
  | head (h : HeadId)
  deriving DecidableEq, Repr

/-- The source of a finding (R5). -/
inductive Source where
  | inspection | unit | supervisor
  deriving DecidableEq, Repr

/-- A finding (R5). -/
structure Finding where
  code : Nat
  severity : Severity
  source : Source
  value : Option Nat
  deriving DecidableEq, Repr

/-- What a binding request writes to identify a cylinder, in every state but FREE (R2). -/
structure Identity where
  serial : Text
  typeIdx : TypeId
  typeRev : Nat
  proving : Bool
  deriving DecidableEq, Repr

/-- The weight record: measured tare and loss in per mille (R2, R54). -/
structure Weight where
  wm : Nat
  loss : Nat
  deriving DecidableEq, Repr

/-- The outcome of a test, in the order of R12 and R176. -/
inductive TestOutcome where
  | pass | condemn | invalid | proved | notProved
  deriving DecidableEq, Repr

/-- The reasons of an outcome, in the order of R176. -/
inductive Reason where
  | permanent | elastic | overpressure
  | zeroFault | zeroTimeout | rampTimeout | pressureLoss | releaseTimeout | settleTimeout | repressurised
  | noExpansion | sensor | aborted | reset
  deriving DecidableEq, Repr

/-- The greatest and least hold pressure (R74). -/
structure Ripple where
  max : Nat
  min : Nat
  deriving DecidableEq, Repr

/-- The test record of a slot (R85). -/
structure TestRecord where
  head : HeadId
  attempt : Nat
  pa : Nat
  date : Option Date
  outcome : Option TestOutcome
  reasons : List Reason
  z : Option Nat
  t : Option Int
  p : Option Int
  q : Option Nat
  e : Option Nat
  ripple : Option Ripple
  star : Bool
  deriving DecidableEq, Repr

/-- An issued stamp line and its due date (R146, R115). -/
structure Stamp where
  line : Text
  due : YearMonth
  deriving DecidableEq, Repr

/-- How a cylinder's part on the line ended (R14). -/
inductive ClosingOutcome where
  | stamped | scrapped | withdrawn | proving
  deriving DecidableEq, Repr

/-- The fields a record shows of a slot whether it is open or closing (R155, R176). -/
structure CylinderRecord where
  ident : Identity
  typeName : Text
  carrier : Nat
  made : Option YearMonth
  tare : Option Nat
  ree : Option Nat
  weight : Option Weight
  findings : List Finding
  overflow : Bool
  worst : Severity
  attempts : Nat
  grants : Nat
  test : Option TestRecord
  stamp : Option Stamp
  method : Option ScrapMethod
  deriving DecidableEq, Repr

/-- The proving result of a closing record (R155). -/
structure ProvingResult where
  proved : Bool
  head : HeadId
  pv : Option Nat
  deriving DecidableEq, Repr

/-- The closing record (R155). -/
structure ClosingRecord where
  outcome : ClosingOutcome
  closeDate : Option Date
  cylinder : CylinderRecord
  scrapReason : Option Nat
  provingResult : Option ProvingResult
  deriving DecidableEq, Repr

/-- A roll slot (R2). An absent field is `none`. -/
structure Slot where
  state : SlotState
  carrier : Option Nat
  ident : Option Identity
  made : Option YearMonth
  tare : Option Nat
  ree : Option Nat
  holder : Option Holder
  weight : Option Weight
  findings : List Finding
  overflow : Bool
  worst : Severity
  attempts : Nat
  grants : Nat
  test : Option TestRecord
  stamp : Option Stamp
  method : Option ScrapMethod
  outcome : Option ClosingOutcome
  closing : Option ClosingRecord
  deriving DecidableEq, Repr

/-- A FREE slot: every field absent (R2, R23). -/
def Slot.empty : Slot :=
  { state := .free, carrier := none, ident := none, made := none, tare := none, ree := none, holder := none,
    weight := none, findings := [], overflow := false, worst := .none, attempts := 0, grants := 0, test := none,
    stamp := none, method := none, outcome := none, closing := none }

/-! ### The line settings (chapter 2) -/

/-- The fields of a LOADED type entry (R26); `tn` and `lt` are absent in an ordinary type. -/
structure TypeFields where
  name : Text
  proving : Bool
  pt : Nat
  holdSeconds : Nat
  w : Nat
  lp : Nat
  ree : Nat
  lo : Nat
  ld : Nat
  lr : Nat
  lw : Nat
  lifeYears : Nat
  interval : Nat
  ls : Nat
  starInterval : Nat
  rampLimit : Nat
  settleLimit : Nat
  tn : Option Nat
  lt : Option Nat
  deriving DecidableEq, Repr

/-- What a LOADED entry holds: its fields and its revision (R25). -/
structure LoadedType where
  fields : TypeFields
  rev : Nat
  deriving DecidableEq, Repr

/-- A type entry: EMPTY is `loaded = none`; the last revision is kept in both states (R25). -/
structure TypeEntry where
  loaded : Option LoadedType
  lastRev : Nat
  deriving DecidableEq, Repr

/-- The unit limits (R37). -/
structure Limits where
  validity : Nat
  testLimit : Nat
  silence : Nat
  mode : SnapMode
  deriving DecidableEq, Repr

/-! ### The test heads (chapters 4 and 6) -/

/-- The phases of a head, in the order of the table of 4.1. -/
inductive Phase where
  | idle | mounted | zeroing | ramp | hold | tail | release | settle | done
  deriving DecidableEq, Repr

/-- The mounted slot and its carrier (R62). -/
structure Mount where
  slot : SlotId
  carrier : Nat
  deriving DecidableEq, Repr

/-- The attempt pressures (R97, R98). -/
structure Pressures where
  pa : Nat
  po : Nat
  pl : Nat
  pr : Nat
  deriving DecidableEq, Repr

/-- The mark of a live reading (R62). -/
inductive LiveMark where
  | good | faulted | none
  deriving DecidableEq, Repr

/-- A live reading (R62, R63). -/
structure Live where
  value : Nat
  mark : LiveMark
  deriving DecidableEq, Repr

/-- A PROVED proving record; UNPROVED is its absence (R117). -/
structure Proved where
  pv : Nat
  provedAt : Nat
  count : Nat
  deriving DecidableEq, Repr

/-- A counter with its saturated mark (R127). -/
structure Counter where
  n : Nat
  saturated : Bool
  deriving DecidableEq, Repr

/-- The five statistics of a head (R126). -/
structure Stats where
  begun : Counter
  passed : Counter
  condemned : Counter
  invalid : Counter
  losses : Counter
  deriving DecidableEq, Repr

/-- A counter at zero, its mark no (R128). -/
def Counter.zero : Counter := ⟨0, false⟩

/-- All five statistics at zero (R128). -/
def Stats.zero : Stats := ⟨.zero, .zero, .zero, .zero, .zero⟩

/-- A test head (R62). -/
structure Head where
  phase : Phase
  mount : Option Mount
  pressures : Option Pressures
  phaseCount : Nat
  holdCount : Nat
  tailCount : Nat
  runCount : Nat
  lowRun : Nat
  gather : List Nat
  tWindow : List Nat
  ripple : Option Ripple
  z : Option Nat
  t : Option Int
  livePressure : Live
  liveJacket : Live
  lag : Nat
  band : Nat
  permit : Bool
  proving : Option Proved
  live : Stats
  snap : Stats
  deriving DecidableEq, Repr

/-- A head right after power-on (R94). -/
def Head.initial : Head :=
  { phase := .idle, mount := none, pressures := none, phaseCount := 0, holdCount := 0, tailCount := 0, runCount := 0,
    lowRun := 0, gather := [], tWindow := [], ripple := none, z := none, t := none, livePressure := ⟨0, .none⟩,
    liveJacket := ⟨0, .none⟩, lag := 0, band := 20, permit := false, proving := none, live := .zero, snap := .zero }

/-- The header of the statistics snapshot (R128). -/
structure SnapHeader where
  period : Option Date
  clock : Nat
  deriving DecidableEq, Repr

/-! ### The archive pages (chapter 9) -/

/-- The two pages (R160). -/
inductive PageId where
  | A | B
  deriving DecidableEq, Repr

/-- The states of a page (R160). -/
inductive PageState where
  | empty | filling | finished
  deriving DecidableEq, Repr

/-- A record on a page: a closing record, its number and its manual-date mark (R160). -/
structure PageRecord where
  number : Nat
  manualDate : Bool
  record : ClosingRecord
  deriving DecidableEq, Repr

/-- An archive page (R160). -/
structure Page where
  state : PageState
  records : List PageRecord
  first : Option Nat
  deriving DecidableEq, Repr

/-! ### The station links (chapter 10) -/

/-- A notice item: its kind with its head or link, where the kind carries one (R182). -/
inductive Notice where
  | holdDone (h : HeadId)
  | testDone (h : HeadId)
  | headUnproved (h : HeadId)
  | stampReady
  | scrapReady
  | pageFinished
  | linkLost (l : LinkId)
  | referralWaiting
  | registerFull
  | exportBlocked
  deriving DecidableEq, Repr

/-- The status codes of an answer (R175). -/
inductive Status where
  | ok | role | length | field | noCarrier | state | notHolder | held | full | duplicate | bound | noDate
  | typeInUse | noType | headBusy | unproved | notCovered | spent | notWeighed | weighed | empty | stale | condemned
  | self
  deriving DecidableEq, Repr

/-- An answer frame: the code echoed, the status, the error flags, and the rest of the body (R174, R175). The flags
of an answer that is awaited are those after its request; it opens with those of the moment it begins (R178). -/
structure Answer where
  code : Nat
  status : Status
  flags : PerFault Bool
  body : List Byte
  deriving DecidableEq, Repr

/-- How far an answer has come (R178): awaited from the end of its request's frame until it begins, then being
sent from its first character to its check byte. -/
inductive AnswerStage where
  | awaited | sending
  deriving DecidableEq, Repr

/-- An answer awaited or being sent on a link (R178). -/
structure Outgoing where
  stage : AnswerStage
  answer : Answer
  deriving DecidableEq, Repr

/-- The states of a link (R180). -/
inductive LinkState where
  | running | lost | stopped
  deriving DecidableEq, Repr

/-- What a link's receiver is doing (R173, R177): hunting for a start byte, inside a frame whose start byte
it has taken, or discarding characters until a gap over 20 ms. -/
inductive RxState where
  | hunting | inFrame | discarding
  deriving DecidableEq, Repr

/-- A station link. `tx` is the answer that is awaited or being sent (R178). Bit k of `enables` is the enable of
kind k of R182; bit k of `edges` is 1 for BOTH on condition kind k (R175, R183). -/
structure Link where
  state : LinkState
  rx : RxState
  tx : Option Outgoing
  flags : PerFault Bool
  counts : PerFault Nat
  timer : Nat
  pending : List Notice
  enables : BitVec 16
  edges : BitVec 8
  deriving DecidableEq, Repr

/-- A link right after power-on (R179, R180, R182). -/
def Link.initial : Link :=
  { state := .running, rx := .hunting, tx := none, flags := ⟨false, false, false, false, false⟩,
    counts := ⟨0, 0, 0, 0, 0⟩, timer := 0, pending := [], enables := 0x3FF, edges := 0 }

/-! ### The unit -/

/-- The state of the unit. `pending` is the model's own: the commands that wait, oldest first. -/
structure State where
  powered : Bool
  links : PerLink Link
  slots : Vector Slot 48
  index : Vector (Option SlotId) 255
  referral : List SlotId
  closingQueue : List SlotId
  types : Vector TypeEntry 32
  mark : Text
  limits : Limits
  calendar : Option Date
  manualDate : Bool
  recordCounter : Nat
  heads : PerHead Head
  snapHeader : Option SnapHeader
  clock : Nat
  pageA : Page
  pageB : Page
  presented : Option PageId
  pending : List Instr
  deriving DecidableEq, Repr

/-- The unit as it starts for the first time: the nonvolatile store as it leaves the factory (types EMPTY,
mark "----" in ASCII (notes/assumptions/22.md), limits 480, 200, 10, ON_DATE, counter 1, page A FILLING and
page B EMPTY) and everything else as a power-on leaves it. -/
def State.reset : State :=
  { powered := true
    links := .all Link.initial
    slots := Vector.replicate 48 Slot.empty
    index := Vector.replicate 255 none
    referral := []
    closingQueue := []
    types := Vector.replicate 32 ⟨none, 0⟩
    mark := [0x2D, 0x2D, 0x2D, 0x2D]
    limits := ⟨480, 200, 10, .onDate⟩
    calendar := none
    manualDate := false
    recordCounter := 1
    heads := .all Head.initial
    snapHeader := none
    clock := 0
    pageA := ⟨.filling, [], none⟩
    pageB := ⟨.empty, [], none⟩
    presented := none
    pending := [] }

end Sys2Proof.Machine
end

