-- ==== Sys2Proof/Machine/Flags.lean ====
section
/-! DEFINITION. The error flags and fault counts of a link (R177, R179), and the error-flag byte (R175). -/

namespace Sys2Proof.Machine

/-- The five faults on reception, in the order of the error-flag byte. -/
inductive LinkFault where
  | parity | framing | check | fragment | overrun
  deriving DecidableEq, Repr

/-- The value of one fault. -/
def PerFault.get {α : Type} (v : PerFault α) : LinkFault → α
  | .parity => v.parity | .framing => v.framing | .check => v.check | .fragment => v.fragment | .overrun => v.overrun

/-- Replace the value of one fault. -/
def PerFault.set {α : Type} (v : PerFault α) (f : LinkFault) (x : α) : PerFault α :=
  match f with
  | .parity => { v with parity := x } | .framing => { v with framing := x } | .check => { v with check := x }
  | .fragment => { v with fragment := x } | .overrun => { v with overrun := x }

/-- No flag set. -/
def noFlags : PerFault Bool := ⟨false, false, false, false, false⟩

/-- The error-flag byte, lowest bit first: PARITY, FRAMING, CHECK, FRAGMENT, OVERRUN (R175). -/
def flagByte (f : PerFault Bool) : Byte :=
  BitVec.ofNat 8 (f.parity.toNat + 2 * f.framing.toNat + 4 * f.check.toNat + 8 * f.fragment.toNat + 16 * f.overrun.toNat)

/-- Clear the flags that a byte names and leave the others (R179). Bits above OVERRUN name no flag. -/
def clearNamed (names : BitVec 8) (f : PerFault Bool) : PerFault Bool :=
  { parity := f.parity && !names.getLsbD 0
    framing := f.framing && !names.getLsbD 1
    check := f.check && !names.getLsbD 2
    fragment := f.fragment && !names.getLsbD 3
    overrun := f.overrun && !names.getLsbD 4 }

/-- A fault sets its flag and raises its count by one; a count at 255 stays there (R179). -/
def Link.fault (f : LinkFault) (k : Link) : Link :=
  { k with
    flags := k.flags.set f true
    counts := k.counts.set f (min (k.counts.get f + 1) Config.faultCountMax) }

end Sys2Proof.Machine
end

