-- ==== Sys2Proof/Machine/Operands.lean ====
section
/-! DEFINITION. How a request's operands are read: numbers that name a head, a link, a slot, a type or a
carrier; text fields (R175); the tester mark's substitutions (R35); clamps; dates (R39); the ranges of an
ADMIT (R43) and of a LOAD_TYPE (R26, R27, R30); readings (R63). -/

namespace Sys2Proof.Machine

/-! ### Names by number -/

/-- The links in order of their numbers. -/
def allLinks : List LinkId := [.L0, .L1, .L2, .L3, .L4, .L5]

/-- The heads in order of their numbers. -/
def allHeads : List HeadId := [.H0, .H1, .H2, .H3]

/-- The link of a number, 0 to 5. -/
def linkOf (n : Nat) : Option LinkId := allLinks[n]?

/-- The number of a link. -/
def linkNumber : LinkId → Nat
  | .L0 => 0 | .L1 => 1 | .L2 => 2 | .L3 => 3 | .L4 => 4 | .L5 => 5

/-- The head of a number, 0 to 3. -/
def headOf (n : Nat) : Option HeadId := allHeads[n]?

/-- The number of a head. -/
def headNumber : HeadId → Nat
  | .H0 => 0 | .H1 => 1 | .H2 => 2 | .H3 => 3

/-- The slot of a number, 0 to 47 (R8). -/
def slotOf (n : Nat) : Option SlotId := if h : n < 48 then some ⟨n, h⟩ else none

/-- The type index of a number, 0 to 31 (R25). -/
def typeOf (n : Nat) : Option TypeId := if h : n < 32 then some ⟨n, h⟩ else none

/-- The place of a carrier in the carrier index, whose entries are 1 to 255; carrier 0 has none (R7). -/
def carrierPlace (c : Nat) : Option (Fin 255) := if h : 1 ≤ c ∧ c ≤ 255 then some ⟨c - 1, by omega⟩ else none

/-! ### Text

R175 sends a character in one byte and names no character code. DESIGN CHOICE: the bytes are ASCII, so space is
0x20, the digits 0x30 to 0x39, the capitals 0x41 to 0x5A, the lowercase letters 0x61 to 0x7A, dash 0x2D, slash
0x2F and star 0x2A (notes/assumptions/22.md). -/

/-- The space that pads a text field, in ASCII (notes/assumptions/22.md). -/
def spaceChar : Byte := 0x20

/-- A lowercase letter as its capital; any other character as it is (R3; ASCII, notes/assumptions/22.md). -/
def capital (c : Byte) : Byte := if 0x61 ≤ c.toNat ∧ c.toNat ≤ 0x7A then BitVec.ofNat 8 (c.toNat - 0x20) else c

/-- A capital letter (ASCII, notes/assumptions/22.md). -/
def isCapital (c : Byte) : Bool := decide (0x41 ≤ c.toNat ∧ c.toNat ≤ 0x5A)

/-- A digit (ASCII, notes/assumptions/22.md). -/
def isDigit (c : Byte) : Bool := decide (0x30 ≤ c.toNat ∧ c.toNat ≤ 0x39)

/-- A serial or name field read to its first space: none when no character stands before it, or when
anything but a space stands after it (R175). -/
def readText (t : Text) : Option Text :=
  let body := t.takeWhile (· ≠ spaceChar)
  if body = [] then none
  else if (t.drop body.length).all (· = spaceChar) then some body else none

/-- A serial or type name: the field's characters in capitals, each a letter, a digit or a dash (R3, R26;
ASCII, notes/assumptions/22.md). -/
def readName (t : Text) : Option Text :=
  (readText t).bind fun body =>
    let caps := body.map capital
    if caps.all fun c => isCapital c || isDigit c || decide (c = 0x2D) then some caps else none

/-- The 37 characters the stamp dies can strike (R34): digits, the 23 letters without I, O and Q, and the
four signs slash, dash, star and space (ASCII, notes/assumptions/22.md). -/
def inDieSet (c : Byte) : Bool :=
  isDigit c || (isCapital c && decide (c ≠ 0x49 ∧ c ≠ 0x4F ∧ c ≠ 0x51)) ||
    decide (c = 0x2F ∨ c = 0x2D ∨ c = 0x2A ∨ c = spaceChar)

/-- One character of a SET_MARK: capital first, then I becomes 1, and O and Q become 0 (R35; ASCII,
notes/assumptions/22.md). -/
def dieChar (c : Byte) : Byte :=
  let d := capital c
  if d = 0x49 then 0x31 else if d = 0x4F ∨ d = 0x51 then 0x30 else d

/-- The mark that a SET_MARK's characters store, or none where R35 refuses them. -/
def readMarkChars (t : Text) : Option Text :=
  let m := t.map dieChar
  if 1 ≤ t.length ∧ t.length ≤ 4 ∧ m.all inDieSet ∧ ¬ m.all (· = spaceChar) then some m else none

/-- A text padded on the right with spaces to n characters. -/
def padRight (n : Nat) (t : Text) : Text := t ++ List.replicate (n - t.length) spaceChar

/-! ### Numbers -/

/-- A value below the range becomes the lowest, one above it the highest (R37, R91). -/
def clamp (lo hi n : Nat) : Nat := max lo (min hi n)

/-- lo ≤ n ≤ hi. -/
def inRange (lo hi n : Nat) : Bool := decide (lo ≤ n ∧ n ≤ hi)

/-- A reading as the head takes it: a saturated value, or none for FAULT (R63). -/
def readingLevel : Reading → Option Nat
  | .value n => some (min n Config.saturation)
  | .fault => none

/-! ### Dates (R39) -/

/-- The length of a month; February has 29 days in a year divisible by 4. -/
def monthLength (year month : Nat) : Nat :=
  if month = 2 then (if year % 4 = 0 then 29 else 28)
  else if month = 4 ∨ month = 6 ∨ month = 9 ∨ month = 11 then 30 else 31

/-- The date of a SET_DATE, or none when its year, month or day lies outside its range. -/
def readDate (a : DateArgs) : Option Date :=
  if inRange 2000 2099 a.year && inRange 1 12 a.month && inRange 1 (monthLength a.year a.month) a.day then
    some ⟨a.year, a.month, a.day⟩
  else none

/-- year × 12 + month. -/
def YearMonth.months (m : YearMonth) : Nat := m.year * 12 + m.month

/-- year × 12 + month; the day takes no part. -/
def Date.months (d : Date) : Nat := d.year * 12 + d.month

/-! ### ADMIT and ADMIT_PROVING (R43, R48) -/

/-- The identifying parameters of a binding request, each in its range. -/
structure BindingParams where
  carrier : Fin 255
  serial : Text
  typeIdx : TypeId
  deriving DecidableEq, Repr

/-- The carrier, serial and type of a binding request, or none when one is out of its range; carrier 0 is. -/
def readBinding (carrier : Nat) (serial : Text) (type : Nat) : Option BindingParams := do
  let c ← carrierPlace carrier
  let n ← readName serial
  let t ← typeOf type
  return ⟨c, n, t⟩

/-- The other parameters of an ADMIT, each in its range. -/
structure OrdinaryParams where
  made : YearMonth
  tare : Nat
  ree : Option Nat
  deriving DecidableEq, Repr

/-- The manufacture month, tare and cylinder REE of an ADMIT taken on `today`, or none when one is out of
its range: a month later than the calendar's is, and a REE of 0 means that none is given. -/
def readOrdinary (today : Date) (a : AdmitArgs) : Option OrdinaryParams :=
  let made : YearMonth := ⟨a.year, a.month⟩
  if inRange 2000 2099 a.year && inRange 1 12 a.month && decide (made.months ≤ today.months) && inRange 1 65000 a.tare &&
      inRange 0 65000 a.ree then
    some ⟨made, a.tare, if a.ree = 0 then none else some a.ree⟩
  else none

/-! ### LOAD_TYPE (R26, R27, R30) -/

/-- Pt + ⌊Pt × Lr / 1000⌋ (R27, R97). -/
def raised (pt lr : Nat) : Nat := pt + pt * lr / 1000

/-- The largest overpressure bound of a type (R27). -/
def poMax (pt lr lo : Nat) : Nat := raised pt lr + raised pt lr * lo / 1000

/-- The numeric ranges of R26 that ordinary and proving types share. -/
def typeRanges (a : LoadTypeArgs) : Bool :=
  inRange 1000 60000 a.pt && inRange 10 120 a.holdSeconds && decide (a.w = 8 ∨ a.w = 16 ∨ a.w = 32 ∨ a.w = 64) &&
    inRange 10 200 a.lp && inRange 0 65000 a.ree && inRange 0 100 a.lo && inRange 5 50 a.ld && inRange 0 100 a.lr &&
    inRange 0 200 a.lw && inRange 0 60 a.lifeYears && inRange 12 180 a.interval && inRange 0 a.lp a.ls &&
    inRange 12 180 a.starInterval && inRange 10 600 a.rampLimit && inRange 10 600 a.settleLimit

/-- Tn and Lt: in range for a proving type, 0 for an ordinary one (R30). -/
def provingRanges (proving : Bool) (a : LoadTypeArgs) : Bool :=
  if proving then inRange 1 65000 a.tn && inRange 1 50 a.lt else decide (a.tn = 0 ∧ a.lt = 0)

/-- The entry and fields of a LOAD_TYPE, or none when R26 or R27 refuses a field. -/
def readTypeFields (a : LoadTypeArgs) : Option (TypeId × TypeFields) := do
  let i ← typeOf a.index
  let name ← readName a.name
  let proving ← a.proving
  if typeRanges a && provingRanges proving a && decide (poMax a.pt a.lr a.lo ≤ Config.headroomMax) then
    some (i,
      { name := name, proving := proving, pt := a.pt, holdSeconds := a.holdSeconds, w := a.w, lp := a.lp, ree := a.ree,
        lo := a.lo, ld := a.ld, lr := a.lr, lw := a.lw, lifeYears := a.lifeYears, interval := a.interval, ls := a.ls,
        starInterval := a.starInterval, rampLimit := a.rampLimit, settleLimit := a.settleLimit,
        tn := if proving then some a.tn else none, lt := if proving then some a.lt else none })
  else none

end Sys2Proof.Machine
end

