-- ==== Sys2Proof/Machine/Arith.lean ====
section
/-! DEFINITION. The arithmetic of chapter 5 and of R54, R56 and R28, in exact integers with floor division
(R96): attempt pressures, the rounded mean, T and P, the verdicts, the weight loss, the due date. -/

namespace Sys2Proof.Machine

/-! ### Attempt pressures (R97, R98) -/

/-- The attempt pressure of attempt n: Pt for the first and for every proving attempt, else the raised
pressure. -/
def attemptPa (t : TypeFields) (proving : Bool) (n : Nat) : Nat :=
  if proving || decide (n ≤ 1) then t.pt else raised t.pt t.lr

/-- The four pressures of an attempt that runs at Pa. -/
def pressuresAt (t : TypeFields) (pa : Nat) : Pressures :=
  { pa := pa, po := pa + pa * t.lo / 1000, pl := pa - pa * t.ld / 1000, pr := pa * 50 / 1000 }

/-! ### Means (R100 to R104) -/

/-- ⌊(S + W/2) / W⌋; W is positive, so the division floors for a negative sum too. -/
def roundedMean (w : Nat) (sum : Int) : Int := (sum + (w / 2 : Nat)) / (w : Int)

/-- The jacket zero: the rounded mean of raw readings, which is not negative (R101). -/
def meanRaw (w : Nat) (window : List Nat) : Nat := (roundedMean w (window.sum : Nat)).toNat

/-- The rounded mean of the aligned values of a window: its raw sum less W × z (R102). -/
def meanAligned (w z : Nat) (window : List Nat) : Int := roundedMean w ((window.sum : Nat) - (w * z : Nat))

/-- The spread of a window: its greatest reading less its least (R71). -/
def spread : List Nat → Nat
  | [] => 0
  | x :: xs => xs.foldl max x - xs.foldl min x

/-! ### The verdict of an ordinary slot (R105 to R112) -/

/-- What an evaluation writes and posts. -/
structure Verdict where
  outcome : TestOutcome
  reasons : List Reason
  q : Option Nat
  e : Option Nat
  star : Bool
  findings : List Finding
  deriving DecidableEq, Repr

/-- P clamped into 0 to T (R105). -/
def clampP (t p : Int) : Nat := (max 0 (min t p)).toNat

/-- q, the permanent expansion in hundredths of a percent of T (R108). -/
def shareOf (t pc : Nat) : Nat := (pc * 10000 + t / 2) / t

/-- The permanent criterion fails (R107). -/
def permanentFails (lp t pc : Nat) : Bool := decide (lp * t < pc * 1000)

/-- The elastic criterion fails: the cylinder's REE where it has one, else the type's, and 0 applies none
(R109). -/
def elasticFails (cylinderRee : Option Nat) (typeRee e : Nat) : Bool :=
  let ree := cylinderRee.getD typeRee
  decide (0 < ree ∧ ree < e)

/-- The evaluation of an ordinary slot (R106 to R112). -/
def ordinaryVerdict (ty : TypeFields) (cylinderRee : Option Nat) (t p : Int) : Verdict :=
  if t ≤ 0 then
    { outcome := .invalid, reasons := [.noExpansion], q := none, e := none, star := false, findings := [] }
  else
    let total := t.toNat
    let pc := clampP t p
    let q := shareOf total pc
    let e := total - pc
    let perm := permanentFails ty.lp total pc
    let elas := elasticFails cylinderRee ty.ree e
    { outcome := if perm || elas then .condemn else .pass
      reasons := (if perm then [.permanent] else []) ++ (if elas then [.elastic] else [])
      q := some q
      e := some e
      star := !(perm || elas) && decide (0 < ty.ls ∧ pc * 1000 ≤ ty.ls * total)
      findings :=
        (if perm then [⟨203, .condemn, .unit, some q⟩] else []) ++ (if elas then [⟨204, .condemn, .unit, some e⟩] else []) }

/-- The evaluation of a proving slot (R113). -/
def provingVerdict (ty : TypeFields) (t : Int) : Verdict :=
  let tn := ty.tn.getD 0
  let lt := ty.lt.getD 0
  { outcome := if 0 < t ∧ (t - tn).natAbs * 1000 ≤ lt * tn then .proved else .notProved
    reasons := if t ≤ 0 then [.noExpansion] else []
    q := none, e := none, star := false, findings := [] }

/-! ### Weighing and age (R54, R56) -/

/-- The loss: Ws − Wm when Wm is below Ws, else 0. -/
def weightLoss (ws wm : Nat) : Nat := ws - wm

/-- The weight record. -/
def weigh (ws wm : Nat) : Weight := ⟨wm, weightLoss ws wm * 1000 / ws⟩

/-- The weight-loss criterion fails, tested on the exact products. -/
def weightFails (lw ws wm : Nat) : Bool := decide (0 < lw ∧ lw * ws < weightLoss ws wm * 1000)

/-- The age in whole months; negative when the calendar has been moved back before the manufacture month. -/
def ageMonths (today : Date) (made : YearMonth) : Int := (today.months : Int) - (made.months : Int)

/-- The age has reached the service life. -/
def lifeExpired (lifeYears : Nat) (age : Int) : Bool := decide (0 < lifeYears ∧ ((lifeYears * 12 : Nat) : Int) ≤ age)

/-! ### The due date (R115) -/

/-- The due month, replaced by 2099-12 when its year lies above 2099. -/
def dueDate (tested : Date) (interval : Nat) : YearMonth :=
  let m := tested.year * 12 + (tested.month - 1) + interval
  if 2099 < m / 12 then ⟨2099, 12⟩ else ⟨m / 12, m % 12 + 1⟩

/-! ### Numbers that run round (R28, R42) -/

/-- The revision after a last revision: 255 is followed by 1. -/
def nextRevision (last : Nat) : Nat := if last = 255 then 1 else last + 1

/-- The record number after a number: 99,999,999 is followed by 1. -/
def nextNumber (n : Nat) : Nat := if n = Config.maxRecord then 1 else n + 1

/-! ### Statistics (R126, R127) -/

/-- Raise a counter; at 65,535 it stays and its mark becomes yes. -/
def Counter.raise (c : Counter) : Counter :=
  if c.n = Config.counterMax then { c with saturated := true } else { c with n := c.n + 1 }

/-- Count an outcome: only the three ordinary outcomes count. -/
def Stats.count (o : TestOutcome) (s : Stats) : Stats :=
  match o with
  | .pass => { s with passed := s.passed.raise }
  | .condemn => { s with condemned := s.condemned.raise }
  | .invalid => { s with invalid := s.invalid.raise }
  | .proved => s
  | .notProved => s

/-! ### The stamp line (R146) -/

/-- Two decimal digits, in ASCII (notes/assumptions/22.md). -/
def twoDigits (n : Nat) : Text := [BitVec.ofNat 8 (0x30 + n / 10 % 10), BitVec.ofNat 8 (0x30 + n % 10)]

/-- The stamp line: the mark padded to four, a space, MM/YY of the test date, and a space and star when
earned, in ASCII (notes/assumptions/22.md). -/
def stampLine (mark : Text) (tested : Date) (star : Bool) : Text :=
  padRight 4 mark ++ [spaceChar] ++ twoDigits tested.month ++ [0x2F] ++ twoDigits tested.year ++
    (if star then [spaceChar, 0x2A] else [])

end Sys2Proof.Machine
end

