-- ==== Sys2Proof/Machine/Ops.lean ====
section
/-! DEFINITION. The shared operations of the unit: access to slots, links, heads and settings; notices and
their conditions (R182, R183); slot transitions with their consequences (R11); claims (R16 to R19); closing
(R14) and moving records (R163); findings (R6); lapses (R124); the clock (R122, R180); snapshots (R128). -/

namespace Sys2Proof.Machine

/-! ### Access -/

/-- A slot of the roll. -/
def State.slot (s : State) (k : SlotId) : Slot := s.slots[k]

/-- Replace a slot. -/
def State.setSlot (s : State) (k : SlotId) (x : Slot) : State := { s with slots := s.slots.set k.val x k.isLt }

/-- Change a slot. -/
def State.updSlot (s : State) (k : SlotId) (f : Slot → Slot) : State := s.setSlot k (f (s.slot k))

/-- A link. -/
def State.link (s : State) (l : LinkId) : Link := s.links.get l

/-- Change a link. -/
def State.updLink (s : State) (l : LinkId) (f : Link → Link) : State :=
  { s with links := s.links.set l (f (s.links.get l)) }

/-- A head. -/
def State.head (s : State) (h : HeadId) : Head := s.heads.get h

/-- Replace a head. -/
def State.setHead (s : State) (h : HeadId) (x : Head) : State := { s with heads := s.heads.set h x }

/-- Change a head. -/
def State.updHead (s : State) (h : HeadId) (f : Head → Head) : State := s.setHead h (f (s.head h))

/-- A page. -/
def State.page (s : State) : PageId → Page
  | .A => s.pageA
  | .B => s.pageB

/-- Replace a page. -/
def State.setPage (s : State) (p : PageId) (x : Page) : State :=
  match p with
  | .A => { s with pageA := x }
  | .B => { s with pageB := x }

/-- The other page. -/
def PageId.other : PageId → PageId
  | .A => .B
  | .B => .A

/-- A type entry. -/
def State.typeEntry (s : State) (i : TypeId) : TypeEntry := s.types[i]

/-- Replace a type entry. -/
def State.setType (s : State) (i : TypeId) (e : TypeEntry) : State := { s with types := s.types.set i.val e i.isLt }

/-- The slot that a carrier is bound to, if any; carrier 0 is bound to none (R8). -/
def State.bound (s : State) (c : Nat) : Option SlotId := (carrierPlace c).bind fun i => s.index[i]

/-- Set the carrier index's entry at a place. -/
def State.bind (s : State) (i : Fin 255) (k : Option SlotId) : State := { s with index := s.index.set i.val k i.isLt }

/-- Unbind a carrier (R7). -/
def State.unbind (s : State) (c : Nat) : State :=
  match carrierPlace c with
  | some i => s.bind i none
  | none => s

/-- The slots in order of their numbers. -/
def allSlots : List SlotId := List.finRange 48

/-- The open states (R1). -/
def SlotState.isOpen : SlotState → Bool
  | .free => false
  | .closed => false
  | .admitted => true | .inspecting => true | .awaitTest => true | .testing => true | .referred => true
  | .awaitStamp => true | .stamping => true | .awaitScrap => true | .scrapping => true

/-- The slot is a proving slot (R2). -/
def Slot.isProving (x : Slot) : Bool := (x.ident.map Identity.proving).getD false

/-- The fields of the type that a slot refers to (R4, R33). -/
def State.typeOfSlot (s : State) (x : Slot) : Option TypeFields :=
  x.ident.bind fun i => (s.typeEntry i.typeIdx).loaded.map LoadedType.fields

/-- Some open slot refers to the index: its entry is locked (R4, R29). -/
def State.locked (s : State) (i : TypeId) : Bool :=
  allSlots.any fun k => (s.slot k).state.isOpen && decide ((s.slot k).ident.map Identity.typeIdx = some i)

/-- Some open slot carries the serial (R3). -/
def State.serialOpen (s : State) (t : Text) : Bool :=
  allSlots.any fun k => (s.slot k).state.isOpen && decide ((s.slot k).ident.map Identity.serial = some t)

/-- The FREE slot with the lowest number (R9). -/
def State.lowestFree (s : State) : Option SlotId := allSlots.find? fun k => decide ((s.slot k).state = .free)

/-- The page that takes records (R163). -/
def State.fillingPage (s : State) : Option PageId :=
  if s.pageA.state = .filling then some .A else if s.pageB.state = .filling then some .B else none

/-! ### Notices (R182) -/

/-- The kind of a notice. -/
def Notice.kind : Notice → NoticeKind
  | .holdDone _ => .holdDone
  | .testDone _ => .testDone
  | .headUnproved _ => .headUnproved
  | .stampReady => .stampReady
  | .scrapReady => .scrapReady
  | .pageFinished => .pageFinished
  | .linkLost _ => .linkLost
  | .referralWaiting => .referralWaiting
  | .registerFull => .registerFull
  | .exportBlocked => .exportBlocked

/-- The links a kind is directed to. -/
def towards : NoticeKind → List LinkId
  | .holdDone => [.L2]
  | .testDone => [.L2]
  | .headUnproved => [.L0, .L2]
  | .stampReady => [.L3]
  | .scrapReady => [.L4]
  | .pageFinished => [.L5]
  | .linkLost => [.L0]
  | .referralWaiting => [.L0]
  | .registerFull => [.L0, .L1]
  | .exportBlocked => [.L0, .L5]

/-- Every notice item, by kind in the order of R182 and then by number: the order in which a pending set is
kept, so that equal sets are equal lists (notes/assumptions/9.md). -/
def allNotices : List Notice :=
  allHeads.map .holdDone ++ allHeads.map .testDone ++ allHeads.map .headUnproved ++
    [.stampReady, .scrapReady, .pageFinished] ++ allLinks.map .linkLost ++
    [.referralWaiting, .registerFull, .exportBlocked]

/-- A pending set with an item in it; an item already pending stays pending once. -/
def withNotice (n : Notice) (p : List Notice) : List Notice := allNotices.filter fun x => decide (x = n ∨ x ∈ p)

/-- Raise an item towards one link: a RUNNING or LOST link adds it, a STOPPED link drops it. -/
def raiseTo (n : Notice) (l : LinkId) (s : State) : State :=
  if (s.link l).state = .stopped then s else s.updLink l fun k => { k with pending := withNotice n k.pending }

/-- Raise an item towards the links of its kind. -/
def raise (n : Notice) (s : State) : State := (towards n.kind).foldl (fun s l => raiseTo n l s) s

/-- Bit k of `enables` belongs to kind k. -/
def kindBit (k : NoticeKind) : Nat := NoticeKind.list.idxOf k

/-- The call line: asserted while the link is RUNNING or LOST and an item of an enabled kind is pending. -/
def Link.callLine (k : Link) : Bool :=
  decide (k.state ≠ .stopped) && k.pending.any fun n => k.enables.getLsbD (kindBit n.kind)

/-! ### Conditions (R183) -/

/-- The three conditions that blocks report. -/
inductive Condition where
  | referralWaiting | registerFull | exportBlocked
  deriving DecidableEq, Repr

/-- The conditions in the order of their edge bits (R175). -/
def allConditions : List Condition := [.referralWaiting, .registerFull, .exportBlocked]

/-- Whether a condition holds: the referral queue is non-empty, no slot is FREE, no page is FILLING. -/
def Condition.holds (c : Condition) (s : State) : Bool :=
  match c with
  | .referralWaiting => !s.referral.isEmpty
  | .registerFull => s.lowestFree.isNone
  | .exportBlocked => s.fillingPage.isNone

/-- The item of a condition. -/
def Condition.notice : Condition → Notice
  | .referralWaiting => .referralWaiting
  | .registerFull => .registerFull
  | .exportBlocked => .exportBlocked

/-- The edge bit of a condition. -/
def Condition.edgeBit : Condition → Nat
  | .referralWaiting => 0
  | .registerFull => 1
  | .exportBlocked => 2

/-- Report a change to one link: RISING takes a change to true, BOTH takes either change. -/
def reportTo (c : Condition) (now : Bool) (l : LinkId) (s : State) : State :=
  if now || (s.link l).edges.getLsbD c.edgeBit then raiseTo c.notice l s else s

/-- Report one condition, if it has changed, to the links it is directed to. -/
def reportOne (was : State) (s : State) (c : Condition) : State :=
  if c.holds was = c.holds s then s
  else (towards c.notice.kind).foldl (fun t l => reportTo c (c.holds s) l t) s

/-- Carry out a change of the roll or the pages and report the conditions that it changed. -/
def reporting (f : State → State) (s : State) : State := allConditions.foldl (reportOne s) (f s)

/-! ### Findings (R6) -/

/-- The rank of a severity (R5). -/
def severityRank : Severity → Nat
  | .none => 0 | .note => 1 | .refer => 2 | .condemn => 3

/-- The higher of two severities. -/
def worse (a b : Severity) : Severity := if severityRank a < severityRank b then b else a

/-- Post a finding: raise the worst severity, then store it or mark the overflow. -/
def Slot.post (x : Slot) (f : Finding) : Slot :=
  if x.findings.length < Config.findingsCapacity then
    { x with worst := worse x.worst f.severity, findings := x.findings ++ [f] }
  else { x with worst := worse x.worst f.severity, overflow := true }

/-- Post a finding to a slot. -/
def post (k : SlotId) (f : Finding) (s : State) : State := s.updSlot k fun x => x.post f

/-! ### Slot transitions (R10, R11) -/

/-- Enter a state that is not held; the holder, if any, is removed. -/
def enterUnheld (k : SlotId) (st : SlotState) (s : State) : State :=
  s.updSlot k fun x => { x with state := st, holder := none }

/-- Enter a held state. -/
def enterHeld (k : SlotId) (st : SlotState) (who : Holder) (s : State) : State :=
  s.updSlot k fun x => { x with state := st, holder := some who }

/-- Enter AWAIT_STAMP: STAMP_READY is raised. -/
def enterAwaitStamp (k : SlotId) (s : State) : State := raise .stampReady (enterUnheld k .awaitStamp s)

/-- Enter AWAIT_SCRAP: SCRAP_READY is raised. -/
def enterAwaitScrap (k : SlotId) (s : State) : State := raise .scrapReady (enterUnheld k .awaitScrap s)

/-- Enter REFERRED: the slot joins the tail of the referral queue (R21). -/
def enterReferred (k : SlotId) (s : State) : State :=
  reporting (fun s => { enterUnheld k .referred s with referral := s.referral ++ [k] }) s

/-- Leave the referral queue, whose order stands (R21). -/
def leaveReferral (k : SlotId) (s : State) : State :=
  reporting (fun s => { s with referral := s.referral.filter fun j => decide (j ≠ k) }) s

/-! ### The archive pages (R160 to R168) -/

/-- A record enters a page: it takes the counter's number, the counter advances, the manual-date mark is
copied, and the page's first number is set by its first record (R163). -/
def enterPage (p : PageId) (c : ClosingRecord) (s : State) : State :=
  let pg := s.page p
  { s.setPage p { pg with
      records := pg.records ++ [⟨s.recordCounter, s.manualDate, c⟩]
      first := if pg.records.isEmpty then some s.recordCounter else pg.first } with
    recordCounter := nextNumber s.recordCounter }

/-- The changes of a finish: the page becomes FINISHED, the marker names it if it named none, and the other
page becomes FILLING if it is EMPTY (R161, R164). -/
def finishChanges (p : PageId) (s : State) : State :=
  let q := p.other
  let s1 := s.setPage p { s.page p with state := .finished }
  let s2 := { s1 with presented := if s1.presented = none then some p else s1.presented }
  if (s2.page q).state = .empty then s2.setPage q { s2.page q with state := .filling } else s2

/-- Finish a page: the changes, their report, and PAGE_FINISHED (R164, R168). -/
def finishPageOp (p : PageId) (s : State) : State := raise .pageFinished (reporting (finishChanges p) s)

/-- The slot becomes FREE with every field absent, and leaves the head of the closing queue (R15). -/
def freeSlot (k : SlotId) (rest : List SlotId) (s : State) : State :=
  reporting (fun s => { s.setSlot k Slot.empty with closingQueue := rest }) s

/-- Move one record onto a page, finishing the page when it is the eighth (R163, R164). -/
def moveOne (p : PageId) (k : SlotId) (c : ClosingRecord) (rest : List SlotId) (s : State) : State :=
  let s1 := freeSlot k rest (enterPage p c s)
  if Config.pageCapacity ≤ (s1.page p).records.length then finishPageOp p s1 else s1

/-- Move records while the queue is non-empty and a page is FILLING, at most `n` of them. -/
def moveUpTo : Nat → State → State
  | 0, s => s
  | n + 1, s =>
    match s.fillingPage, s.closingQueue with
    | some p, k :: rest =>
      match (s.slot k).closing with
      | some c => moveUpTo n (moveOne p k c rest s)
      | none => s
    | _, _ => s

/-- Move records until the queue is empty or no page is FILLING (R163). -/
def moveRecords (s : State) : State := moveUpTo s.closingQueue.length s

/-! ### Closing (R14, R155) -/

/-- The fields that a record shows of a slot that is not FREE; the type name is read from its entry. -/
def State.cylinder (s : State) (x : Slot) : Option CylinderRecord :=
  x.ident.map fun i =>
    { ident := i, typeName := ((s.typeOfSlot x).map TypeFields.name).getD [], carrier := x.carrier.getD 0, made := x.made,
      tare := x.tare, ree := x.ree, weight := x.weight, findings := x.findings, overflow := x.overflow, worst := x.worst,
      attempts := x.attempts, grants := x.grants, test := x.test, stamp := x.stamp, method := x.method }

/-- The finding that gives the scrap reason: the first stored CONDEMN finding (R151). -/
def Slot.reasonFinding (x : Slot) : Option Finding := x.findings.find? fun f => decide (f.severity = .condemn)

/-- The scrap reason: that finding's code, or 209 UNLISTED (R151). -/
def Slot.scrapReason (x : Slot) : Nat := (x.reasonFinding.map Finding.code).getD 209

/-- The scrap reason's value (R151). -/
def Slot.reasonValue (x : Slot) : Option Nat := x.reasonFinding.bind Finding.value

/-- The proving result, from the test record's outcome (R155, R156). -/
def provingResult (x : Slot) : Option ProvingResult :=
  x.test.map fun t =>
    if t.outcome = some .proved then ⟨true, t.head, some t.pa⟩ else ⟨false, t.head, none⟩

/-- The closing record of a slot as it stands (R155). -/
def State.closingRecord (s : State) (x : Slot) (o : ClosingOutcome) : Option ClosingRecord :=
  (s.cylinder x).map fun c =>
    { outcome := o, closeDate := s.calendar, cylinder := c
      scrapReason := if o = .scrapped then some x.scrapReason else none
      provingResult := if o = .proving then provingResult x else none }

/-- Close a slot, all in one event: compose the record, remove the holder, set the outcome, unbind the
carrier, leave the referral queue if REFERRED, join the closing queue, and let the pages take records (R14). -/
def closeSlot (k : SlotId) (o : ClosingOutcome) (s : State) : State :=
  let x := s.slot k
  let s1 := s.setSlot k
    { x with state := .closed, carrier := none, holder := none, outcome := some o, closing := s.closingRecord x o }
  let s2 := match x.carrier with
    | some c => s1.unbind c
    | none => s1
  let s3 := if x.state = .referred then leaveReferral k s2 else s2
  moveRecords { s3 with closingQueue := s3.closingQueue ++ [k] }

/-! ### Routing by the test outcome (R12) -/

/-- The state that R12 gives a slot, by its kind, its outcome and its counts. An ordinary slot without an
ordinary outcome stands in no run; it goes to AWAIT_TEST, as a slot not tested does (notes/assumptions/6.md). -/
def Slot.route (x : Slot) : SlotState :=
  if x.isProving then .closed
  else
    match x.test.bind TestRecord.outcome with
    | some .pass => .awaitStamp
    | some .condemn => .awaitScrap
    | some .invalid => if x.attempts < 2 + x.grants then .awaitTest else .referred
    | some .proved => .awaitTest
    | some .notProved => .awaitTest
    | none => .awaitTest

/-- Apply the outcome written in the slot's test record (R12). -/
def applyOutcome (k : SlotId) (s : State) : State :=
  let x := s.slot k
  if x.isProving then closeSlot k .proving s
  else
    match x.test.bind TestRecord.outcome with
    | some .pass => enterAwaitStamp k s
    | some .condemn => enterAwaitScrap k s
    | some .invalid =>
      if x.attempts < 2 + x.grants then enterUnheld k .awaitTest s
      else enterReferred k (post k ⟨206, .refer, .unit, some x.attempts⟩ s)
    | some .proved => enterUnheld k .awaitTest s
    | some .notProved => enterUnheld k .awaitTest s
    | none => enterUnheld k .awaitTest s

/-! ### Claims (R16 to R19) -/

/-- The state that a released or dropped claim of a link returns the slot to (R18). -/
def SlotState.returned : SlotState → SlotState
  | .inspecting => .admitted
  | .stamping => .awaitStamp
  | .scrapping => .awaitScrap
  | .free => .free | .admitted => .admitted | .awaitTest => .awaitTest | .testing => .testing | .referred => .referred
  | .awaitStamp => .awaitStamp | .awaitScrap => .awaitScrap | .closed => .closed

/-- Give up a link's claim, by RELEASE or by a drop, with the consequences of entry (R18, R19). -/
def giveUpClaim (k : SlotId) (s : State) : State :=
  match (s.slot k).state with
  | .inspecting => enterUnheld k .admitted s
  | .stamping => enterAwaitStamp k s
  | .scrapping => enterAwaitScrap k s
  | .free => s | .admitted => s | .awaitTest => s | .testing => s | .referred => s | .awaitStamp => s | .awaitScrap => s
  | .closed => s

/-- Drop the claim on one slot if the link holds it. -/
def dropIfHeld (l : LinkId) (s : State) (k : SlotId) : State :=
  if (s.slot k).holder = some (.link l) then giveUpClaim k s else s

/-- Drop every claim that a link holds (R19). -/
def dropClaims (l : LinkId) (s : State) : State := allSlots.foldl (dropIfHeld l) s

/-! ### Link loss, lapse and the clock (R122, R124, R180) -/

/-- A link becomes LOST: its claims are dropped and LINK_LOST is raised (R180). -/
def loseLink (l : LinkId) (s : State) : State :=
  raise (.linkLost l) (dropClaims l (s.updLink l fun k => { k with state := .lost }))

/-- The links whose silence is timed (R180). -/
def timedLinks : List LinkId := [.L1, .L2, .L3, .L4, .L5]

/-- A RUNNING link's timer has reached a limit that is not 0. -/
def Link.silent (limit : Nat) (k : Link) : Bool := decide (k.state = .running ∧ limit ≠ 0 ∧ limit ≤ k.timer)

/-- Lose one link if its silence has reached the limit. -/
def loseIfSilent (s : State) (l : LinkId) : State :=
  if (s.link l).silent s.limits.silence then loseLink l s else s

/-- Lose every timed link whose silence has reached the limit. -/
def loseSilentLinks (s : State) : State := timedLinks.foldl loseIfSilent s

/-- A PROVED head becomes UNPROVED, and HEAD_UNPROVED is raised; an UNPROVED one stays so and raises
nothing (R124). -/
def lapse (h : HeadId) (s : State) : State :=
  match (s.head h).proving with
  | some _ => raise (.headUnproved h) (s.updHead h fun x => { x with proving := none })
  | none => s

/-- The validity of a PROVED record has run out at a clock (R122). -/
def Proved.expired (p : Proved) (validity clock : Nat) : Bool := decide (p.provedAt + validity * 60 ≤ clock)

/-- The head's record has run out. -/
def State.expired (s : State) (h : HeadId) : Bool :=
  ((s.head h).proving.map fun p => p.expired s.limits.validity s.clock).getD false

/-- Lapse one head if its validity has run out. -/
def lapseIfExpired (s : State) (h : HeadId) : State := if s.expired h then lapse h s else s

/-- Lapse every head whose validity has run out. -/
def lapseExpired (s : State) : State := allHeads.foldl lapseIfExpired s

/-- A link's silence timer after a clock advance: a STOPPED link keeps none (R180, R181). -/
def Link.tick (k : Link) : Link := if k.state = .stopped then k else { k with timer := k.timer + 1 }

/-- Raise the timers of L1 to L5. -/
def tickTimers (s : State) : State := timedLinks.foldl (fun s l => s.updLink l Link.tick) s

/-- The unit clock advances by one second, with what becomes due at that moment: links lost and proving
records lapsed. A clock at its last count advances no more (R122). -/
def advanceClock (s : State) : State :=
  if s.clock < Config.clockMax then lapseExpired (loseSilentLinks (tickTimers { s with clock := s.clock + 1 })) else s

/-! ### Snapshots (R128) -/

/-- A head's counters pass into its snapshot and start again from zero. -/
def Head.takeSnapshot (x : Head) : Head := { x with snap := x.live, live := .zero }

/-- All four heads take a snapshot, and the header holds the calendar date and the unit clock. -/
def takeSnapshot (s : State) : State :=
  { s with
    heads := ⟨s.heads.h0.takeSnapshot, s.heads.h1.takeSnapshot, s.heads.h2.takeSnapshot, s.heads.h3.takeSnapshot⟩
    snapHeader := some ⟨s.calendar, s.clock⟩ }

end Sys2Proof.Machine
end

