-- ==== Sys2Proof/Machine/HeadWork.lean ====
section
/-! DEFINITION. The work of a test head: what one reading pair does in each phase (R63 to R83), decided from
the head and the type alone as a `PairAction`, then carried out on the unit; the end of a test (R84); the
return to IDLE (R62); a line reset at a head (R93). -/

namespace Sys2Proof.Machine

/-- The phases of a test in flight (4.1). -/
def Phase.inFlight : Phase → Bool
  | .idle => false | .mounted => false | .done => false
  | .zeroing => true | .ramp => true | .hold => true | .tail => true | .release => true | .settle => true

/-- A head that becomes IDLE: its working items become absent or zero, its permit is dropped; its live
readings, settings, proving record and statistics stay (R62, R66). -/
def Head.toIdle (x : Head) : Head :=
  { x with
    phase := .idle, mount := none, pressures := none, phaseCount := 0, holdCount := 0, tailCount := 0, runCount := 0,
    lowRun := 0, gather := [], tWindow := [], ripple := none, z := none, t := none, permit := false }

/-- A head at a taken BEGIN: its working items set afresh, its pressures kept, in ZEROING (R69). -/
def Head.toZeroing (x : Head) (p : Pressures) : Head :=
  { x with
    phase := .zeroing, pressures := some p, phaseCount := 0, holdCount := 0, tailCount := 0, runCount := 0,
    lowRun := 0, gather := [], tWindow := [], ripple := none, z := none, t := none }

/-- A live reading updated: a value replaces it, a FAULT only marks it (R63). -/
def Live.update (x : Live) (r : Reading) : Live :=
  match readingLevel r with
  | some v => ⟨v, .good⟩
  | none => { x with mark := .faulted }

/-- Both live readings of a head updated (R63). -/
def Head.see (x : Head) (p j : Reading) : Head :=
  { x with livePressure := x.livePressure.update p, liveJacket := x.liveJacket.update j }

/-- Why a pair or an ABORT ends a test, short of a verdict (R84). -/
inductive EndCause where
  | overpressure (pressure : Nat)
  | invalid (r : Reason)
  deriving DecidableEq, Repr

/-- What the test work of one pair comes to. Each case carries the head as the pair leaves it. -/
inductive PairAction where
  /-- The test runs on, in the same phase or in HOLD, TAIL or SETTLE. -/
  | goesOn (x : Head)
  /-- A stable ZEROING window has given z: the head is in RAMP (R72). -/
  | zeroed (x : Head) (z : Nat)
  /-- TAIL has ended with T: the head is in RELEASE (R78). -/
  | tailEnds (x : Head) (t : Int)
  /-- A stable SETTLE window has given P (R81). -/
  | settles (x : Head) (p : Int)
  /-- The test ends (R84). -/
  | ends (x : Head) (c : EndCause)
  deriving DecidableEq, Repr

/-- Whether W readings have gathered, and the window's spread is not above the settle band (R71). -/
def Head.stable (x : Head) (window : List Nat) : Bool := decide (spread window ≤ x.band)

/-- A ZEROING pair that passes its two checks (R71, R72). -/
def zeroingWork (x : Head) (ty : TypeFields) (j : Nat) : PairAction :=
  let window := x.gather ++ [j]
  let n := x.phaseCount + 1
  if ty.w ≤ window.length ∧ x.stable window = true then
    let z := meanRaw ty.w window
    .zeroed { x with phase := .ramp, z := some z, permit := true, phaseCount := 0, runCount := 0, gather := [] } z
  else
    let y := { x with phaseCount := n, gather := if ty.w ≤ window.length then [] else window }
    if Config.zeroLimit ≤ n then .ends y (.invalid .zeroTimeout) else .goesOn y

/-- A RAMP pair that passes the watches (R73). -/
def rampWork (x : Head) (ty : TypeFields) (ps : Pressures) (p : Nat) : PairAction :=
  let n := x.phaseCount + 1
  let run := if ps.pa ≤ p then x.runCount + 1 else 0
  if Config.runLength ≤ run then
    .goesOn
      { x with
        phase := .hold, phaseCount := 0, runCount := 0, holdCount := 0, tailCount := 0, lowRun := 0,
        ripple := some ⟨p, p⟩, tWindow := [] }
  else
    let y := { x with phaseCount := n, runCount := run }
    if ty.rampLimit * Config.pairsPerSecond ≤ n then .ends y (.invalid .rampTimeout) else .goesOn y

/-- The ripple widened by a pressure (R74). -/
def widenRipple (p : Nat) (r : Ripple) : Ripple := ⟨max r.max p, min r.min p⟩

/-- The ripple and the low run after a HOLD or TAIL pair (R74, R75). -/
def Head.watchHold (x : Head) (ps : Pressures) (p : Nat) : Head :=
  { x with ripple := x.ripple.map (widenRipple p), lowRun := if p < ps.pl then x.lowRun + 1 else 0 }

/-- The T window with a reading at its tail, at most W long (R76). -/
def pushWindow (w : Nat) (window : List Nat) (j : Nat) : List Nat := (window.drop (window.length + 1 - w)) ++ [j]

/-- The end of TAIL: T is formed, the permit is dropped, the head enters RELEASE (R78, R103). -/
def tailEndWork (x : Head) (ty : TypeFields) : PairAction :=
  let t := meanAligned ty.w (x.z.getD 0) x.tWindow
  .tailEnds { x with phase := .release, permit := false, phaseCount := 0, runCount := 0, lowRun := 0, t := some t } t

/-- A HOLD pair that passes the watches (R74 to R76); with lag 0 the H-th pair ends TAIL too (R78). -/
def holdWork (x : Head) (ty : TypeFields) (ps : Pressures) (p j : Nat) : PairAction :=
  let y := x.watchHold ps p
  if Config.lowRunLength ≤ y.lowRun then .ends y (.invalid .pressureLoss)
  else
    let y1 := { y with tWindow := pushWindow ty.w y.tWindow j, holdCount := y.holdCount + 1 }
    if ty.holdSeconds * Config.pairsPerSecond ≤ y1.holdCount then
      let y2 := { y1 with phase := .tail, tailCount := 0 }
      if y2.lag = 0 then tailEndWork y2 ty else .goesOn y2
    else .goesOn y1

/-- A TAIL pair that passes the watches (R78). -/
def tailWork (x : Head) (ty : TypeFields) (ps : Pressures) (p j : Nat) : PairAction :=
  let y := x.watchHold ps p
  if Config.lowRunLength ≤ y.lowRun then .ends y (.invalid .pressureLoss)
  else
    let y1 := { y with tWindow := pushWindow ty.w y.tWindow j, tailCount := y.tailCount + 1 }
    if y1.lag ≤ y1.tailCount then tailEndWork y1 ty else .goesOn y1

/-- A RELEASE pair that passes the watches (R79). -/
def releaseWork (x : Head) (ps : Pressures) (p : Nat) : PairAction :=
  let n := x.phaseCount + 1
  let run := if p < ps.pr then x.runCount + 1 else 0
  if Config.runLength ≤ run then .goesOn { x with phase := .settle, phaseCount := 0, runCount := 0, gather := [] }
  else
    let y := { x with phaseCount := n, runCount := run }
    if Config.releaseLimit ≤ n then .ends y (.invalid .releaseTimeout) else .goesOn y

/-- A SETTLE pair that passes the watches (R80, R81). -/
def settleWork (x : Head) (ty : TypeFields) (ps : Pressures) (p j : Nat) : PairAction :=
  if ps.pr ≤ p then .ends x (.invalid .repressurised)
  else
    let window := x.gather ++ [j]
    let n := x.phaseCount + 1
    if ty.w ≤ window.length ∧ x.stable window = true then
      .settles { x with phaseCount := n, gather := window } (meanAligned ty.w (x.z.getD 0) window)
    else
      let y := { x with phaseCount := n, gather := if ty.w ≤ window.length then [] else window }
      if ty.settleLimit * Config.pairsPerSecond ≤ n then .ends y (.invalid .settleTimeout) else .goesOn y

/-- The two watches of RAMP to SETTLE, overpressure first, then FAULT; a pair that passes both goes to the
work of its phase (R82, R83). -/
def watched (x : Head) (ps : Pressures) (p j : Option Nat) (work : Nat → Nat → PairAction) : PairAction :=
  match p, j with
  | some v, some u => if ps.po < v then .ends x (.overpressure v) else work v u
  | some v, none => if ps.po < v then .ends x (.overpressure v) else .ends x (.invalid .sensor)
  | none, _ => .ends x (.invalid .sensor)

/-- The two checks of ZEROING, FAULT first, then a pressure of Pr or more (R71). -/
def zeroingChecked (x : Head) (ps : Pressures) (p j : Option Nat) (work : Nat → PairAction) : PairAction :=
  match p, j with
  | some v, some u => if ps.pr ≤ v then .ends x (.invalid .zeroFault) else work u
  | some _, none => .ends x (.invalid .sensor)
  | none, _ => .ends x (.invalid .sensor)

/-- The test work of one pair in the head's phase (R63). IDLE, MOUNTED and DONE have none. -/
def pairAction (x : Head) (ty : TypeFields) (p j : Reading) : PairAction :=
  let ps := x.pressures.getD ⟨0, 0, 0, 0⟩
  let pv := readingLevel p
  let jv := readingLevel j
  match x.phase with
  | .idle => .goesOn x
  | .mounted => .goesOn x
  | .done => .goesOn x
  | .zeroing => zeroingChecked x ps pv jv fun u => zeroingWork x ty u
  | .ramp => watched x ps pv jv fun v _ => rampWork x ty ps v
  | .hold => watched x ps pv jv fun v u => holdWork x ty ps v u
  | .tail => watched x ps pv jv fun v u => tailWork x ty ps v u
  | .release => watched x ps pv jv fun v _ => releaseWork x ps v
  | .settle => watched x ps pv jv fun v u => settleWork x ty ps v u

/-! ### The end of a test (R84) -/

/-- Change a slot's test record, if it has one. -/
def updTest (k : SlotId) (f : TestRecord → TestRecord) (s : State) : State :=
  s.updSlot k fun x => { x with test := x.test.map f }

/-- Write an outcome, its reasons and the head's ripple into a slot's test record (R84, R93). -/
def writeOutcome (k : SlotId) (o : TestOutcome) (rs : List Reason) (r : Option Ripple) (s : State) : State :=
  updTest k (fun t => { t with outcome := some o, reasons := rs, ripple := r }) s

/-- A head that enters DONE with an outcome: its permit is dropped and the outcome counted (R84, R126). -/
def Head.toDone (o : TestOutcome) (x : Head) : Head :=
  { x with phase := .done, permit := false, live := x.live.count o }

/-- The proving record set by an outcome: PROVED sets it afresh at the unit clock with the Pa of the test,
NOT_PROVED unproves the head, an ordinary outcome leaves it (R118, R119). -/
def setProving (h : HeadId) (o : TestOutcome) (s : State) : State :=
  match o with
  | .proved =>
    s.updHead h fun x => { x with proving := some ⟨((x.pressures.map Pressures.pa).getD 0), s.clock, 0⟩ }
  | .notProved => lapse h s
  | .pass => s | .condemn => s | .invalid => s

/-- Entry into DONE, in one event (R84). -/
def enterDone (h : HeadId) (k : SlotId) (o : TestOutcome) (rs : List Reason) (s : State) : State :=
  raise (.testDone h)
    (setProving h o ((writeOutcome k o rs (s.head h).ripple s).updHead h (Head.toDone o)))

/-- The reason that a cause leaves in the record. -/
def EndCause.reason : EndCause → Reason
  | .overpressure _ => .overpressure
  | .invalid r => r

/-- The outcome that a cause gives: NOT_PROVED for a proving slot; for an ordinary one CONDEMN by
overpressure and INVALID by every other cause (R84). -/
def EndCause.outcome (proving : Bool) : EndCause → TestOutcome
  | .overpressure _ => if proving then .notProved else .condemn
  | .invalid _ => if proving then .notProved else .invalid

/-- The finding that a cause posts to an ordinary slot: 202 with the pressure read (R82). -/
def EndCause.finding : EndCause → Option Finding
  | .overpressure v => some ⟨202, .condemn, .unit, some v⟩
  | .invalid _ => none

/-- A loss of pressure counts in "losses", for ordinary and proving slots alike (R75). -/
def Head.countLoss (r : Reason) (x : Head) : Head :=
  if r = .pressureLoss then { x with live := { x.live with losses := x.live.losses.raise } } else x

/-- Post a finding to a slot unless it is a proving slot, to which none is posted (R13). -/
def postOrdinary (k : SlotId) (f : Option Finding) (s : State) : State :=
  match f with
  | some f => if (s.slot k).isProving then s else post k f s
  | none => s

/-- End a test by a cause short of a verdict (R84). -/
def endByCause (h : HeadId) (k : SlotId) (c : EndCause) (s : State) : State :=
  enterDone h k (c.outcome (s.slot k).isProving) [c.reason]
    (postOrdinary k c.finding (s.updHead h (Head.countLoss c.reason)))

/-- The verdict on a slot at its stable SETTLE window (R81, R106 to R113). -/
def verdictOn (x : Slot) (ty : TypeFields) (t p : Int) : Verdict :=
  if x.isProving then provingVerdict ty t else ordinaryVerdict ty x.ree t p

/-- The evaluation at a stable SETTLE window: P, q, E and the star are written, the findings of a
condemning verdict are posted, and the head enters DONE (R81, R112). -/
def evaluate (h : HeadId) (k : SlotId) (ty : TypeFields) (p : Int) (s : State) : State :=
  let v := verdictOn (s.slot k) ty ((s.head h).t.getD 0) p
  let s1 := updTest k (fun t => { t with p := some p, q := v.q, e := v.e, star := v.star }) s
  enterDone h k v.outcome v.reasons (v.findings.foldl (fun s f => post k f s) s1)

/-! ### One pair -/

/-- Carry out a pair's action at a head that holds slot k. -/
def carryOut (h : HeadId) (k : SlotId) (ty : TypeFields) (a : PairAction) (s : State) : State :=
  match a with
  | .goesOn x => s.setHead h x
  | .zeroed x z => updTest k (fun t => { t with z := some z }) (s.setHead h x)
  | .tailEnds x t => raise (.holdDone h) (updTest k (fun r => { r with t := some t }) (s.setHead h x))
  | .settles x p => evaluate h k ty p (s.setHead h x)
  | .ends x c => endByCause h k c (s.setHead h x)

/-- The test in flight at a head, if any: its slot, its type, and the head with this pair's live readings. -/
def State.testAt (s : State) (h : HeadId) (p j : Reading) : Option (SlotId × TypeFields × Head) :=
  let x := (s.head h).see p j
  if x.phase.inFlight then
    x.mount.bind fun m => (s.typeOfSlot (s.slot m.slot)).map fun ty => (m.slot, ty, x)
  else none

/-- A reading pair at a head, taken whole (R63). -/
def takePair (h : HeadId) (p j : Reading) (s : State) : State :=
  match s.testAt h p j with
  | some (k, ty, x) => carryOut h k ty (pairAction x ty p j) s
  | none => s.setHead h ((s.head h).see p j)

/-- What the pair would come to, if a test is in flight at the head. -/
def State.actionOf (s : State) (h : HeadId) (p j : Reading) : Option PairAction :=
  (s.testAt h p j).map fun (_, ty, x) => pairAction x ty p j

/-- The pair ends the test with this invalid cause. -/
def PairAction.endsBy (r : Reason) : PairAction → Bool
  | .ends _ c => decide (c = .invalid r)
  | .goesOn _ => false | .zeroed _ _ => false | .tailEnds _ _ => false | .settles _ _ => false

/-- The pair ends TAIL (R78). -/
def PairAction.isTailEnd : PairAction → Bool
  | .tailEnds _ _ => true
  | .goesOn _ => false | .zeroed _ _ => false | .settles _ _ => false | .ends _ _ => false

/-- The pair, taken in HOLD, brings the hold count to H: the head enters TAIL, and ends it at once with a lag
of 0 (R74, R78). -/
def PairAction.completesHold (from_ : Phase) : PairAction → Bool
  | .goesOn x => decide (from_ = .hold ∧ x.phase = .tail)
  | .tailEnds _ _ => decide (from_ = .hold)
  | .zeroed _ _ => false | .settles _ _ => false | .ends _ _ => false

/-- Take a pair as the event that `is` recognises; a pair that does not bring that event about is not that
event, and nothing happens (notes/assumptions/3.md). -/
def takePairAs (h : HeadId) (p j : Reading) (is : PairAction → Bool) (s : State) : State :=
  if s.powered && ((s.actionOf h p j).map is).getD false then takePair h p j s else s

/-! ### The line reset at a head (R24, R93) -/

/-- A test in flight is cut short: the outcome with the reason RESET and the ripple are written, and an
ordinary one counts as invalid. -/
def cutShort (h : HeadId) (k : SlotId) (s : State) : State :=
  let o : TestOutcome := if (s.slot k).isProving then .notProved else .invalid
  (writeOutcome k o [.reset] (s.head h).ripple s).updHead h fun x => { x with live := x.live.count o }

/-- What a line reset does to one slot (R24). -/
def resetSlot (s : State) (k : SlotId) : State :=
  match (s.slot k).holder with
  | some (.link _) => giveUpClaim k s
  | some (.head h) =>
    match (s.head h).phase with
    | .idle => s
    | .mounted => enterUnheld k .awaitTest s
    | .done => applyOutcome k s
    | .zeroing => applyOutcome k (cutShort h k s)
    | .ramp => applyOutcome k (cutShort h k s)
    | .hold => applyOutcome k (cutShort h k s)
    | .tail => applyOutcome k (cutShort h k s)
    | .release => applyOutcome k (cutShort h k s)
    | .settle => applyOutcome k (cutShort h k s)
  | none => s

/-- What a line reset does to one head: IDLE with its permit dropped, and UNPROVED with HEAD_UNPROVED if it
was PROVED (R93, R123). -/
def resetHead (s : State) (h : HeadId) : State := lapse h (s.updHead h Head.toIdle)

/-- What a line reset does to one link: RUNNING, flags and pending items cleared, timer afresh, the receiver
hunting; counts, enables and edges are kept, and an answer being sent is completed (R185). That an answer still awaited
is kept too is a DESIGN CHOICE (notes/assumptions/4.md). -/
def Link.lineReset (k : Link) : Link :=
  { k with state := .running, rx := .hunting, flags := noFlags, timer := 0, pending := [] }

/-- A line reset of every block: the links first, so that what the other blocks raise stays pending, then
the slots in the order of their numbers, then the heads (R24, R93, R185). -/
def lineReset (s : State) : State :=
  let s1 := { s with
    links := ⟨s.links.l0.lineReset, s.links.l1.lineReset, s.links.l2.lineReset, s.links.l3.lineReset,
      s.links.l4.lineReset, s.links.l5.lineReset⟩ }
  allHeads.foldl resetHead (allSlots.foldl resetSlot s1)

end Sys2Proof.Machine
end

