-- ==== Sys2Proof/Machine/Layout.lean ====
section
/-! DEFINITION. The answers in bytes (R175, R176): each quantity's layout, the 133-byte record, the answer
frame, and the items of each request's answer in the order its rule names them. An absent item is sent as
zeros; an enumerated item as its position from 1, with 0 for none. The choices that R175 leaves are in
notes/assumptions/10.md to 13.md. -/

namespace Sys2Proof.Machine

/-! ### Quantities -/

/-- n bytes of zero: an absent item. -/
def zeros (n : Nat) : List Byte := List.replicate n 0

/-- A yes-or-no item. -/
def yesNo (b : Bool) : List Byte := u8 b.toNat

/-- A signed two-byte number, two's complement. -/
def i16 (n : Int) : List Byte := u16 (BitVec.ofInt 16 n).toNat

/-- A signed four-byte number, two's complement. -/
def i32 (n : Int) : List Byte := u32 (BitVec.ofInt 32 n).toNat

/-- An optional item of n bytes. -/
def opt {α : Type} (n : Nat) (f : α → List Byte) : Option α → List Byte
  | some a => f a
  | none => zeros n

/-- A date: year − 2000, month, day (R176). -/
def dateBytes (d : Date) : List Byte := u8 (d.year - 2000) ++ u8 d.month ++ u8 d.day

/-- A year and month: year − 2000, month (R176). -/
def monthBytes (m : YearMonth) : List Byte := u8 (m.year - 2000) ++ u8 m.month

/-! ### Enumerated items, each by its position in the list the handbook gives (R175, R176) -/

/-- The slot states in the order of R1's table, from 1. -/
def slotStateByte : SlotState → Nat
  | .free => 1 | .admitted => 2 | .inspecting => 3 | .awaitTest => 4 | .testing => 5 | .referred => 6 | .awaitStamp => 7
  | .stamping => 8 | .awaitScrap => 9 | .scrapping => 10 | .closed => 11

/-- The holders in the order of R2 and R186: L1, L3, L4, H0 to H3. A link that holds no slot has none. -/
def holderByte : Holder → Nat
  | .link .L1 => 1 | .link .L3 => 2 | .link .L4 => 3
  | .head .H0 => 4 | .head .H1 => 5 | .head .H2 => 6 | .head .H3 => 7
  | .link .L0 => 0 | .link .L2 => 0 | .link .L5 => 0

/-- NOTE 1, REFER 2, CONDEMN 3, with 0 for NONE (R176). -/
def severityByte (s : Severity) : Nat := severityRank s

/-- INSPECTION 1 to SUPERVISOR 3 (R176). -/
def sourceByte : Source → Nat
  | .inspection => 1 | .unit => 2 | .supervisor => 3

/-- PASS 1 to NOT_PROVED 5 (R176). -/
def testOutcomeByte : TestOutcome → Nat
  | .pass => 1 | .condemn => 2 | .invalid => 3 | .proved => 4 | .notProved => 5

/-- PERMANENT 1 to RESET 14 (R176). -/
def reasonByte : Reason → Nat
  | .permanent => 1 | .elastic => 2 | .overpressure => 3 | .zeroFault => 4 | .zeroTimeout => 5 | .rampTimeout => 6
  | .pressureLoss => 7 | .releaseTimeout => 8 | .settleTimeout => 9 | .repressurised => 10 | .noExpansion => 11
  | .sensor => 12 | .aborted => 13 | .reset => 14

/-- STAMPED 1 to PROVING 4 (R176). -/
def outcomeByte : ClosingOutcome → Nat
  | .stamped => 1 | .scrapped => 2 | .withdrawn => 3 | .proving => 4

/-- CUT 1, CRUSH 2, PUNCH 3 (R176). -/
def methodByte (m : ScrapMethod) : Nat := toPosition ScrapMethod.list (some m)

/-- The phases in the order of 4.1, from 1. -/
def phaseByte : Phase → Nat
  | .idle => 1 | .mounted => 2 | .zeroing => 3 | .ramp => 4 | .hold => 5 | .tail => 6 | .release => 7 | .settle => 8
  | .done => 9

/-- GOOD 1, FAULTED 2, with 0 for NONE. -/
def markByte : LiveMark → Nat
  | .good => 1 | .faulted => 2 | .none => 0

/-- Page A 1, page B 2. -/
def pageByte : PageId → Nat
  | .A => 1 | .B => 2

/-- EMPTY 1, FILLING 2, FINISHED 3 (R160). -/
def pageStateByte : PageState → Nat
  | .empty => 1 | .filling => 2 | .finished => 3

/-- RUNNING 1, LOST 2, STOPPED 3 (R180). -/
def linkStateByte : LinkState → Nat
  | .running => 1 | .lost => 2 | .stopped => 3

/-- The status codes of R175. -/
def statusByte : Status → Nat
  | .ok => 0 | .role => 1 | .length => 2 | .field => 3 | .noCarrier => 4 | .state => 5 | .notHolder => 6 | .held => 7
  | .full => 8 | .duplicate => 9 | .bound => 10 | .noDate => 11 | .typeInUse => 12 | .noType => 13 | .headBusy => 14
  | .unproved => 15 | .notCovered => 16 | .spent => 17 | .notWeighed => 18 | .weighed => 19 | .empty => 20 | .stale => 21
  | .condemned => 22 | .self => 23

/-! ### The record of R176 -/

/-- A finding: code; severity, source and value-present packed; value. -/
def findingBytes (f : Finding) : List Byte :=
  u8 f.code ++ u8 (severityByte f.severity + 4 * sourceByte f.source + 16 * f.value.isSome.toNat) ++ opt 2 u16 f.value

/-- The findings area: eight findings of four bytes each. -/
def findingsBytes (fs : List Finding) : List Byte := (fs.map findingBytes).flatten ++ zeros (32 - 4 * fs.length)

/-- The byte of one of the two reasons. -/
def reasonAt (rs : List Reason) (i : Nat) : List Byte := opt 1 (fun r => u8 (reasonByte r)) rs[i]?

/-- The measured flags, lowest bit first: z, T, P, q and E, ripple, star. -/
def measuredFlags (t : TestRecord) : Nat :=
  t.z.isSome.toNat + 2 * t.t.isSome.toNat + 4 * t.p.isSome.toNat + 8 * t.q.isSome.toNat + 16 * t.ripple.isSome.toNat +
    32 * t.star.toNat

/-- The ripple: maximum, minimum, difference. -/
def rippleBytes (r : Ripple) : List Byte := u16 r.max ++ u16 r.min ++ u16 (r.max - r.min)

/-- The test record, offsets 82 to 112. -/
def testBytes (t : TestRecord) : List Byte :=
  u8 (headNumber t.head) ++ u8 t.attempt ++ u16 t.pa ++ opt 3 dateBytes t.date ++
    opt 1 (fun o => u8 (testOutcomeByte o)) t.outcome ++ reasonAt t.reasons 0 ++ reasonAt t.reasons 1 ++ u8 (measuredFlags t) ++
    opt 2 u16 t.z ++ opt 4 i32 t.t ++ opt 4 i32 t.p ++ opt 2 u16 t.q ++ opt 2 u16 t.e ++ opt 6 rippleBytes t.ripple

/-- The stamp line, padded to 12 characters. -/
def lineBytes (t : Text) : List Byte := padRight 12 t

/-- The stamp line and due date, offsets 113 to 126. -/
def stampBytes (x : Stamp) : List Byte := lineBytes x.line ++ monthBytes x.due

/-- The weight record. -/
def weightBytes (w : Weight) : List Byte := u16 w.wm ++ u16 w.loss

/-- The proving result, head and Pv. -/
def provingResultBytes (r : ProvingResult) : List Byte :=
  u8 (if r.proved then 1 else 2) ++ u8 (headNumber r.head) ++ opt 2 u16 r.pv

/-- The record's flags, lowest bit first. -/
def recordFlags (manual : Bool) (c : CylinderRecord) (scrap : Bool) : Nat :=
  manual.toNat + 2 * c.ident.proving.toNat + 4 * c.overflow.toNat + 8 * c.ree.isSome.toNat + 16 * c.weight.isSome.toNat +
    32 * c.test.isSome.toNat + 64 * c.stamp.isSome.toNat + 128 * scrap.toNat

/-- The 133 bytes of a record: of an open slot when `closing` is none, else of a closing record. -/
def recordBytes (number : Nat) (manual : Bool) (c : CylinderRecord) (closing : Option ClosingRecord) : List Byte :=
  u32 number ++ opt 1 (fun r => u8 (outcomeByte r.outcome)) closing ++
    u8 (recordFlags manual c (closing.bind ClosingRecord.scrapReason).isSome) ++
    padRight 16 c.ident.serial ++ u8 c.ident.typeIdx.val ++ u8 c.ident.typeRev ++ padRight 8 c.typeName ++ u8 c.carrier ++
    opt 3 dateBytes (closing.bind ClosingRecord.closeDate) ++ opt 2 monthBytes c.made ++ opt 2 u16 c.tare ++ opt 2 u16 c.ree ++
    opt 4 weightBytes c.weight ++ u8 (severityByte c.worst) ++ u8 c.findings.length ++ findingsBytes c.findings ++
    u8 c.attempts ++ u8 c.grants ++ opt 31 testBytes c.test ++ opt 14 stampBytes c.stamp ++
    opt 1 (fun m => u8 (methodByte m)) c.method ++ opt 1 u8 (closing.bind ClosingRecord.scrapReason) ++
    opt 4 provingResultBytes (closing.bind ClosingRecord.provingResult)

/-- A closing record in the layout of R176. -/
def closingBytes (number : Nat) (manual : Bool) (r : ClosingRecord) : List Byte :=
  recordBytes number manual r.cylinder (some r)

/-! ### The answer frame (R175) -/

/-- The characters of an answer frame, start byte to check byte. -/
def Answer.frame (a : Answer) : List Byte :=
  Config.startByte :: withCheck (u8 (a.body.length + 3) ++ u8 a.code ++ u8 (statusByte a.status) ++ [flagByte a.flags] ++ a.body)

/-! ### The items of the answers -/

/-- A head or link number of a notice, 0 for a kind that carries none. -/
def noticeNumber : Notice → Nat
  | .holdDone h => headNumber h
  | .testDone h => headNumber h
  | .headUnproved h => headNumber h
  | .linkLost l => linkNumber l
  | .stampReady => 0 | .scrapReady => 0 | .pageFinished => 0 | .referralWaiting => 0 | .registerFull => 0
  | .exportBlocked => 0

/-- A pending item: its kind and its number. -/
def noticeBytes (n : Notice) : List Byte := u8 (toPosition NoticeKind.list (some n.kind)) ++ u8 (noticeNumber n)

/-- The items of NOTICES: a count, then the items (R175, R184). -/
def noticesBytes (ns : List Notice) : List Byte := u8 ns.length ++ (ns.map noticeBytes).flatten

/-- The five counts of a link. R179 and R186 give them no order, and R177 tells of FRAGMENT before CHECK: the order of
the flag byte of R175, CHECK before FRAGMENT, is the model's choice (DEDUCED, notes/assumptions/13.md). -/
def countsBytes (c : PerFault Nat) : List Byte :=
  u8 c.parity ++ u8 c.framing ++ u8 c.check ++ u8 c.fragment ++ u8 c.overrun

/-- How many slots' states satisfy p. -/
def State.countSlots (s : State) (p : SlotState → Bool) : Nat := allSlots.countP fun k => p (s.slot k).state

/-- The roll group of STATUS. -/
def statusRoll (s : State) : List Byte :=
  u8 (s.countSlots fun x => decide (x = .free)) ++ u8 (s.countSlots SlotState.isOpen) ++
    u8 (s.countSlots fun x => decide (x = .closed)) ++ u8 s.referral.length ++ u8 s.closingQueue.length ++
    yesNo s.lowestFree.isNone

/-- A page's state and record count. -/
def pageSummary (p : Page) : List Byte := u8 (pageStateByte p.state) ++ u8 p.records.length

/-- The pages group of STATUS. -/
def statusPages (s : State) : List Byte :=
  pageSummary s.pageA ++ pageSummary s.pageB ++ opt 1 (fun p => u8 (pageByte p)) s.presented ++ yesNo s.fillingPage.isNone ++
    u32 s.recordCounter

/-- The heads group of STATUS. -/
def statusHeads (s : State) : List Byte :=
  (allHeads.map fun h => u8 (phaseByte (s.head h).phase)).flatten ++
    (allHeads.map fun h => yesNo (s.head h).proving.isSome).flatten

/-- The settings group of STATUS. -/
def statusSettings (s : State) : List Byte := opt 3 dateBytes s.calendar ++ yesNo s.manualDate ++ padRight 4 s.mark

/-- One link of the links group of STATUS. -/
def linkSummary (k : Link) : List Byte := u8 (linkStateByte k.state) ++ [flagByte k.flags] ++ countsBytes k.counts

/-- The items of STATUS (R186). -/
def statusItems (s : State) : List Byte :=
  statusRoll s ++ statusPages s ++ statusHeads s ++ statusSettings s ++ (allLinks.map fun l => linkSummary (s.link l)).flatten

/-- A position in a queue, if the slot is in it. -/
def queuePosition (n : Nat) (q : List SlotId) (k : SlotId) : Option (List Byte) :=
  if k ∈ q then some (u8 n ++ u8 (q.idxOf k)) else none

/-- LOOKUP's queue position: the referral queue is 1, the closing queue 2, 0 for none (R175). -/
def queueBytes (s : State) (k : SlotId) : List Byte :=
  ((queuePosition 1 s.referral k).or (queuePosition 2 s.closingQueue k)).getD (zeros 2)

/-- LOOKUP's record: none for a FREE slot, the closing record for a CLOSED one, else the slot as it stands,
with outcome 0 and record number 0 (R176, R186). -/
def lookupRecord (s : State) (x : Slot) : List Byte :=
  match x.state, x.closing with
  | .closed, some r => closingBytes 0 false r
  | .free, _ => []
  | _, _ => ((s.cylinder x).map fun c => recordBytes 0 false c none).getD []

/-- The items of LOOKUP (R186). -/
def lookupItems (s : State) (k : SlotId) : List Byte :=
  u8 k.val ++ u8 (slotStateByte (s.slot k).state) ++ opt 1 (fun h => u8 (holderByte h)) (s.slot k).holder ++ queueBytes s k ++
    lookupRecord s (s.slot k)

/-- The serial, type index, type revision and proving mark of a slot. -/
def Slot.serialBytes (x : Slot) : List Byte := opt 16 (fun i => padRight 16 i.serial) (x.ident)
/-- The type index of a slot. -/
def Slot.typeBytes (x : Slot) : List Byte := opt 1 (fun i => u8 i.typeIdx.val) x.ident
/-- The type revision of a slot. -/
def Slot.revBytes (x : Slot) : List Byte := opt 1 (fun i => u8 i.typeRev) x.ident
/-- The type name of a slot, in 8 characters. -/
def State.nameBytes (s : State) (x : Slot) : List Byte := opt 8 (fun t => padRight 8 t.name) (s.typeOfSlot x)

/-- The last test of NEXT_REFERRAL: outcome and reasons, attempt number, Pa, test date (R138). -/
def lastTestBytes (t : TestRecord) : List Byte :=
  opt 1 (fun o => u8 (testOutcomeByte o)) t.outcome ++ reasonAt t.reasons 0 ++ reasonAt t.reasons 1 ++ u8 t.attempt ++ u16 t.pa ++
    opt 3 dateBytes t.date

/-- The items of NEXT_REFERRAL (R138). -/
def referralItems (s : State) (k : SlotId) : List Byte :=
  let x := s.slot k
  u8 s.referral.length ++ u8 k.val ++ opt 1 u8 x.carrier ++ x.serialBytes ++ x.typeBytes ++ x.revBytes ++ yesNo x.isProving ++
    u8 x.attempts ++ u8 x.grants ++ u8 (severityByte x.worst) ++ u8 x.findings.length ++ yesNo x.overflow ++
    opt 9 lastTestBytes x.test

/-- The items of CLAIM (R49). -/
def claimItems (s : State) (k : SlotId) : List Byte :=
  let x := s.slot k
  u8 k.val ++ x.serialBytes ++ x.typeBytes ++ x.revBytes ++ opt 2 monthBytes x.made ++ opt 2 u16 x.tare ++ opt 2 u16 x.ree ++
    yesNo (((s.typeOfSlot x).map fun t => decide (0 < t.lw)).getD false) ++ opt 4 weightBytes x.weight ++
    u8 x.findings.length ++ (x.findings.map findingBytes).flatten ++ yesNo x.overflow ++ u8 (severityByte x.worst)

/-- The items of CLAIM_STAMP (R147). -/
def claimStampItems (s : State) (k : SlotId) : List Byte :=
  let x := s.slot k
  u8 k.val ++ x.serialBytes ++ s.nameBytes x ++ opt 14 stampBytes x.stamp ++
    opt 1 (fun t => yesNo t.star) x.test ++ opt 3 dateBytes (x.test.bind TestRecord.date) ++ opt 1 (fun t => u8 t.attempt) x.test

/-- The items of CLAIM_SCRAP (R150). -/
def claimScrapItems (s : State) (k : SlotId) : List Byte :=
  let x := s.slot k
  u8 k.val ++ x.serialBytes ++ x.typeBytes ++ s.nameBytes x ++ u8 x.scrapReason ++ opt 2 u16 x.reasonValue ++
    u8 (severityByte x.worst) ++ u8 x.findings.length ++ yesNo x.overflow

/-- The four attempt pressures. -/
def pressuresBytes (p : Pressures) : List Byte := u16 p.pa ++ u16 p.po ++ u16 p.pl ++ u16 p.pr

/-- A live reading and its mark. -/
def liveBytes (x : Live) : List Byte := u16 x.value ++ u8 (markByte x.mark)

/-- The proving record: UNPROVED 1 or PROVED 2, then Pv, proved-at and count. -/
def provingBytes : Option Proved → List Byte
  | some p => u8 2 ++ u16 p.pv ++ u32 p.provedAt ++ u16 p.count
  | none => u8 1 ++ zeros 8

/-- The attempt number of a head's test: its slot's test record's, from BEGIN until the head is IDLE. -/
def headAttempt (s : State) (x : Head) : Option Nat :=
  x.pressures.bind fun _ => (x.mount.bind fun m => (s.slot m.slot).test).map TestRecord.attempt

/-- The outcome and reasons of a head in DONE. -/
def headOutcome (s : State) (x : Head) : List Byte :=
  if x.phase = .done then
    opt 3 (fun t => opt 1 (fun o => u8 (testOutcomeByte o)) t.outcome ++ reasonAt t.reasons 0 ++ reasonAt t.reasons 1)
      (x.mount.bind fun m => (s.slot m.slot).test)
  else zeros 3

/-- The items of HEAD_STATUS (R92). -/
def headStatusItems (s : State) (h : HeadId) : List Byte :=
  let x := s.head h
  u8 (phaseByte x.phase) ++ opt 2 (fun m => u8 m.slot.val ++ u8 m.carrier) x.mount ++ opt 1 u8 (headAttempt s x) ++
    opt 8 pressuresBytes x.pressures ++ u16 x.phaseCount ++ u8 x.runCount ++ u16 x.holdCount ++ u8 x.tailCount ++ u8 x.lowRun ++
    u8 x.gather.length ++ opt 2 u16 x.z ++ opt 4 i32 x.t ++ opt 4 (fun r => u16 r.max ++ u16 r.min) x.ripple ++ headOutcome s x ++
    liveBytes x.livePressure ++ liveBytes x.liveJacket ++ u8 (if x.permit then 1 else 2) ++ u8 x.lag ++ u16 x.band ++
    provingBytes x.proving

/-- Five counters, then their five marks. -/
def statsBytes (s : Stats) : List Byte :=
  u16 s.begun.n ++ u16 s.passed.n ++ u16 s.condemned.n ++ u16 s.invalid.n ++ u16 s.losses.n ++ yesNo s.begun.saturated ++
    yesNo s.passed.saturated ++ yesNo s.condemned.saturated ++ yesNo s.invalid.saturated ++ yesNo s.losses.saturated

/-- The items of READ_STATS and SNAPSHOT (R129, R131). -/
def statsItems (s : State) : List Byte :=
  yesNo s.snapHeader.isSome ++ opt 3 dateBytes (s.snapHeader.bind SnapHeader.period) ++
    opt 4 (fun x => u32 x.clock) s.snapHeader ++ (allHeads.map fun h => statsBytes (s.head h).snap).flatten

/-- The items of READ_TYPE for a LOADED entry (R32): the fields of R26, the revision, Po_max, in use. -/
def typeItems (t : LoadedType) (inUse : Bool) : List Byte :=
  let f := t.fields
  padRight 8 f.name ++ yesNo f.proving ++ u16 f.pt ++ u8 f.holdSeconds ++ u8 f.w ++ u8 f.lp ++ u16 f.ree ++ u8 f.lo ++ u8 f.ld ++
    u8 f.lr ++ u8 f.lw ++ u8 f.lifeYears ++ u8 f.interval ++ u8 f.ls ++ u8 f.starInterval ++ u16 f.rampLimit ++
    u16 f.settleLimit ++ opt 2 u16 f.tn ++ opt 1 u8 f.lt ++ u8 t.rev ++ u16 (poMax f.pt f.lr f.lo) ++ yesNo inUse

/-- A page as an answer names it: letter, record count, first number. -/
def pageItems (s : State) (p : PageId) : List Byte :=
  u8 (pageByte p) ++ u8 (s.page p).records.length ++ opt 4 u32 (s.page p).first

/-- The items of READ_PAGE (R166, R176). -/
def readPageItems (s : State) (p : PageId) (i : Nat) (r : PageRecord) : List Byte :=
  pageItems s p ++ u8 i ++ closingBytes r.number r.manualDate r.record

/-- The unit limits as SET_LIMITS echoes them (R37). -/
def limitsItems (x : Limits) : List Byte :=
  u16 x.validity ++ u16 x.testLimit ++ u8 x.silence ++ u8 (toPosition SnapMode.list (some x.mode))

end Sys2Proof.Machine
end

