-- ==== Sys2Proof/Machine/Frames.lean ====
section
/-! DEFINITION. How a frame reaches the unit: the receiver (R173, R177, R178), a good frame with its timer and
its return to RUNNING (R173, R180), roles (R172), the length check and the answer (R174). -/

namespace Sys2Proof.Machine

/-- Which links admit a request (R172). -/
def admits (l : LinkId) (r : Request) : Bool :=
  match r with
  | .status => true | .notices => true | .noticeSetup => true | .clearErrors => true | .lookup => true
  | .nextReferral => decide (l = .L0) | .rule => decide (l = .L0) | .withdraw => decide (l = .L0)
  | .breakClaim => decide (l = .L0) | .stopLink => decide (l = .L0) | .startLink => decide (l = .L0)
  | .lineReset => decide (l = .L0) | .forceNotice => decide (l = .L0)
  | .setDate => decide (l = .L0 ∨ l = .L5) | .readStats => decide (l = .L0 ∨ l = .L5)
  | .admitOrdinary => decide (l = .L1) | .claim => decide (l = .L1) | .finding => decide (l = .L1)
  | .weigh => decide (l = .L1) | .inspected => decide (l = .L1)
  | .release => decide (l = .L1 ∨ l = .L3 ∨ l = .L4)
  | .admitProving => decide (l = .L2) | .mount => decide (l = .L2) | .begin => decide (l = .L2)
  | .abort => decide (l = .L2) | .dismount => decide (l = .L2) | .headSetup => decide (l = .L2)
  | .headStatus => decide (l = .L2)
  | .claimStamp => decide (l = .L3) | .stamped => decide (l = .L3)
  | .claimScrap => decide (l = .L4) | .scrapped => decide (l = .L4)
  | .loadType => decide (l = .L5) | .dropType => decide (l = .L5) | .readType => decide (l = .L5)
  | .setMark => decide (l = .L5) | .setLimits => decide (l = .L5) | .readPage => decide (l = .L5)
  | .turnPage => decide (l = .L5) | .finishPage => decide (l = .L5) | .snapshot => decide (l = .L5)

/-! ### The receiver -/

/-- A start byte arrives. A STOPPED link discards it. A hunting receiver takes it as a frame's, unless an
answer is awaited or being sent: that is an overrun, which sets its flag and discards the frame. A receiver
inside a frame, or discarding, takes it as a character like any other (R173, R178). -/
def Link.startByte (k : Link) : Link :=
  match k.state, k.rx with
  | .stopped, _ => k
  | _, .hunting =>
    if k.tx.isSome then Link.fault .overrun { k with rx := .discarding } else { k with rx := .inFrame }
  | _, .inFrame => k
  | _, .discarding => k

/-- A character with bad parity or no stop bit: its flag is set and counted; within a frame the receiver
discards from there on; while it hunts it hunts on (R177). -/
def Link.badCharacter (f : LinkFault) (k : Link) : Link :=
  match k.state with
  | .stopped => k
  | .running => Link.fault f { k with rx := if k.rx = .inFrame then .discarding else k.rx }
  | .lost => Link.fault f { k with rx := if k.rx = .inFrame then .discarding else k.rx }

/-- The character that ended a fragment's gap, taken as the first of the hunt (R177). -/
def Link.firstOfHunt (c : Byte) (k : Link) : Link :=
  if c = Config.startByte then Link.startByte { k with rx := .hunting } else { k with rx := .hunting }

/-- A gap over 20 ms: it ends a discarding; inside a frame it is a fragment, which sets its flag; to a
hunting receiver it is nothing. The receiver then hunts (R177). -/
def Link.gap (k : Link) : Link :=
  match k.state, k.rx with
  | .stopped, _ => k
  | _, .hunting => k
  | _, .discarding => { k with rx := .hunting }
  | _, .inFrame => Link.fault .fragment { k with rx := .hunting }

/-- A complete frame whose byte sum is bad, from its start byte on (R177). -/
def Link.checkFault (k : Link) : Link :=
  let k1 := k.startByte
  if k1.state ≠ .stopped ∧ k1.rx = .inFrame then Link.fault .check { k1 with rx := .hunting } else k1

/-! ### Answers -/

/-- What a block answers: a status and the rest of the body. -/
structure Reply where
  status : Status
  body : List Byte
  deriving DecidableEq, Repr

/-- OK with its items. -/
def okWith (b : List Byte) : Reply := ⟨.ok, b⟩

/-- A refusal, its body empty (R174). -/
def refusal (st : Status) : Reply := ⟨st, []⟩

/-- The answer to a request taken, with the error flags as they stand after it: awaited until it begins, when
`Link.beginAnswer` puts in the flags as they then stand (R174, R178; DESIGN CHOICE, notes/assumptions/4.md). -/
def Link.answer (code : Nat) (r : Reply) (k : Link) : Link :=
  { k with tx := some ⟨.awaited, code, r.status, k.flags, r.body⟩ }

/-- An answer that is awaited begins, with the link's error flags as they stand now, so a repeat that overran it
meanwhile is read in it (R178). R174 has them as they stand after the request and does not say how long after:
DESIGN CHOICE, a START_LINK or a line reset that clears them before the answer begins shows in it too
(notes/assumptions/4.md). The rest of the body stands as the request gave it. -/
def Outgoing.begin (flags : PerFault Bool) (o : Outgoing) : Outgoing :=
  match o.stage with
  | .awaited => ⟨.sending, { o.answer with flags := flags }⟩
  | .sending => o

/-- The answer that the link awaits, if any, begins; one being sent is sent whole (R178). -/
def Link.beginAnswer (k : Link) : Link := { k with tx := k.tx.map (Outgoing.begin k.flags) }

/-- What passes while no command comes: every answer that is awaited begins. The table has no row for the
beginning of an answer, so an empty queue is its moment (notes/assumptions/4.md). Without power nothing
passes. -/
def idle (s : State) : State :=
  if s.powered then
    { s with
      links := ⟨s.links.l0.beginAnswer, s.links.l1.beginAnswer, s.links.l2.beginAnswer, s.links.l3.beginAnswer,
        s.links.l4.beginAnswer, s.links.l5.beginAnswer⟩ }
  else s

/-- A good frame has arrived: the receiver hunts again, the silence timer starts afresh, and a LOST link is
RUNNING again (R173, R180). -/
def Link.goodFrame (k : Link) : Link :=
  { k with rx := .hunting, timer := 0, state := if k.state = .lost then .running else k.state }

/-- The link can take a frame: it is not STOPPED, it is not discarding, and no answer is awaited or being sent. -/
def Link.ready (k : Link) : Bool := decide (k.state ≠ .stopped ∧ k.rx ≠ .discarding ∧ (k.rx = .hunting → k.tx = none))

/-- A complete frame arrives on a link that is powered: if the link takes it, `good` handles it; if not, the
link does with its start byte what R177 and R178 give. -/
def onFrame (l : LinkId) (good : State → State) (s : State) : State :=
  if s.powered then
    if (s.link l).ready then good s else s.updLink l Link.startByte
  else s

/-- A good frame: taken by the link, handled by `handle`, and answered with the code echoed (R174). -/
def takeGood (l : LinkId) (code : Nat) (handle : State → State × Reply) (s : State) : State :=
  let r := handle (s.updLink l Link.goodFrame)
  r.1.updLink l (Link.answer code r.2)

/-- Check the role, then the body's length, and give the fields to the block that owns them (R172, R174). -/
def checked {α : Type} (l : LinkId) (r : Request) (b : Body α) (take : α → State → State × Reply) (s : State) : State × Reply :=
  if admits l r then
    match b with
    | .fields a => take a s
    | .wrongLength => (s, refusal .length)
  else (s, refusal .role)

/-- A request frame on a link: every request's meaning is this over what its own block does. -/
def request {α : Type} (l : LinkId) (r : Request) (b : Body α) (take : α → State → State × Reply) (s : State) :
    Host.Outcome State Fault Refusal :=
  .next (onFrame l (takeGood l r.code (checked l r b take)) s)

/-- An event of the powered unit; without power nothing happens. -/
def event (f : State → State) (s : State) : Host.Outcome State Fault Refusal := .next (if s.powered then f s else s)

/-! ### The checks that requests share (R8, R17) -/

/-- Resolve a carrier, or refuse NO_CARRIER (R8). -/
def onCarrier (c : Nat) (s : State) (take : SlotId → State × Reply) : State × Reply :=
  match s.bound c with
  | some k => take k
  | none => (s, refusal .noCarrier)

/-- Resolve a carrier whose slot the sending link holds, or refuse NOT_HOLDER (R17). -/
def asHolder (l : LinkId) (c : Nat) (s : State) (take : SlotId → State × Reply) : State × Reply :=
  onCarrier c s fun k => if (s.slot k).holder = some (.link l) then take k else (s, refusal .notHolder)

/-- A link's claim request on a resolved carrier: OK and unchanged for its own holder, HELD for another's, STATE
for a slot not in the state needed, else `take` (R16). -/
def claimCheck (l : LinkId) (needed : SlotState) (c : Nat) (s : State) (items : State → SlotId → List Byte)
    (take : SlotId → State × Reply) : State × Reply :=
  onCarrier c s fun k =>
    match (s.slot k).holder with
    | some who => if who = .link l then (s, okWith (items s k)) else (s, refusal .held)
    | none => if (s.slot k).state = needed then take k else (s, refusal .state)

/-- A request that names a head by number (R65). -/
def onHead (n : Nat) (s : State) (take : HeadId → State × Reply) : State × Reply :=
  match headOf n with
  | some h => take h
  | none => (s, refusal .field)

end Sys2Proof.Machine
end

