-- ==== Sys2Proof/Machine/Archive.lean ====
section
/-! DEFINITION. The archive computer's requests on the pages (9.4), and the moving of records (R163). -/

namespace Sys2Proof.Machine

/-- READ_PAGE reports one record of the presented page (R166). -/
def takeReadPage (i : Nat) (s : State) : State × Reply :=
  if 7 < i then (s, refusal .field)
  else
    match s.presented with
    | none => (s, refusal .empty)
    | some p =>
      match (s.page p).records[i]? with
      | none => (s, refusal .field)
      | some r => (s, okWith (readPageItems s p i r))

/-- READ_PAGE. -/
def execReadPage (l : LinkId) (b : Body Nat) (s : State) : Host.Outcome State Fault Refusal :=
  request l .readPage b takeReadPage s

/-- The changes of a turn: the page is emptied, becomes FILLING if no page is, and the marker passes to the
other page if that is FINISHED (R161, R167). -/
def turnChanges (p : PageId) (s : State) : State :=
  let st : PageState := if s.fillingPage = none then .filling else .empty
  { s.setPage p ⟨st, [], none⟩ with
    presented := if (s.page p.other).state = .finished then some p.other else none }

/-- Turn a page: the changes, their report, and the moving that a page become FILLING resumes (R167). -/
def turnPageOp (p : PageId) (s : State) : State := moveRecords (reporting (turnChanges p) s)

/-- TURN_PAGE empties the presented page named by its first number (R167). -/
def takeTurnPage (n : Nat) (s : State) : State × Reply :=
  if !inRange 1 Config.maxRecord n then (s, refusal .field)
  else
    match s.presented with
    | none => (s, refusal .empty)
    | some p =>
      if (s.page p).first ≠ some n then (s, refusal .stale)
      else
        let t := turnPageOp p s
        (t, okWith (u8 (pageByte p) ++ opt 6 (pageItems t) t.presented))

/-- TURN_PAGE. -/
def execTurnPage (l : LinkId) (b : Body Nat) (s : State) : Host.Outcome State Fault Refusal :=
  request l .turnPage b takeTurnPage s

/-- FINISH_PAGE finishes the FILLING page before it is full (R168); a page that it makes FILLING takes what
waits (R163). -/
def takeFinishPage (_ : Unit) (s : State) : State × Reply :=
  match s.fillingPage with
  | none => (s, refusal .empty)
  | some p =>
    if (s.page p).records.isEmpty then (s, refusal .empty)
    else (moveRecords (finishPageOp p s), okWith (pageItems s p))

/-- FINISH_PAGE. -/
def execFinishPage (l : LinkId) (b : Body Unit) (s : State) : Host.Outcome State Fault Refusal :=
  request l .finishPage b takeFinishPage s

/-- The moving of waiting records onto the FILLING page (R163). -/
def execMoveRecords (s : State) : Host.Outcome State Fault Refusal := event moveRecords s

end Sys2Proof.Machine
end

