-- ==== Sys2Proof/Machine/Bench.lean ====
section
/-! DEFINITION. The bench controller's requests on the heads (chapter 4): MOUNT, BEGIN, ABORT, DISMOUNT,
HEAD_SETUP, HEAD_STATUS. -/

namespace Sys2Proof.Machine

/-- The slot mounted in the head and the head holding it, in one event (R65). -/
def mountSlot (h : HeadId) (k : SlotId) (c : Nat) (s : State) : State :=
  (enterHeld k .testing (.head h) s).updHead h fun x => { x with phase := .mounted, mount := some ⟨k, c⟩ }

/-- MOUNT (R65). -/
def takeMount (a : MountArgs) (s : State) : State × Reply :=
  onHead a.head s fun h =>
    onCarrier a.carrier s fun k =>
      let x := s.slot k
      if x.holder.isSome then (s, refusal .held)
      else if x.state ≠ .awaitTest then (s, refusal .state)
      else if (s.head h).phase ≠ .idle then (s, refusal .headBusy)
      else (mountSlot h k a.carrier s, okWith (u8 k.val ++ x.serialBytes ++ x.typeBytes ++ yesNo x.isProving))

/-- MOUNT. -/
def execMount (l : LinkId) (b : Body MountArgs) (s : State) : Host.Outcome State Fault Refusal :=
  request l .mount b takeMount s

/-- Checks 5 to 8 of BEGIN, and the attempt pressures the attempt would run at (R68, R97, R98). -/
def beginCheck (x : Slot) (hd : Head) (ty : TypeFields) : Except Status Pressures :=
  let ps := pressuresAt ty (attemptPa ty x.isProving (x.attempts + 1))
  if 2 + x.grants ≤ x.attempts then .error .spent
  else if !x.isProving && hd.proving.isNone then .error .unproved
  else if !x.isProving && decide (((hd.proving.map Proved.pv).getD 0) < ps.pa) then .error .notCovered
  else if ty.w ≤ hd.lag then .error .field
  else .ok ps

/-- The new test record of a BEGIN (R69). -/
def newTest (h : HeadId) (attempt pa : Nat) (today : Option Date) : TestRecord :=
  { head := h, attempt := attempt, pa := pa, date := today, outcome := none, reasons := [], z := none, t := none, p := none,
    q := none, e := none, ripple := none, star := false }

/-- An ordinary BEGIN raises the head's proving count, and lapses the record that it brings to the proving
test limit (R69, R121). -/
def countProving (h : HeadId) (s : State) : State :=
  match (s.head h).proving with
  | none => s
  | some p =>
    let t := s.updHead h fun x => { x with proving := some { p with count := p.count + 1 } }
    if s.limits.testLimit ≤ p.count + 1 then lapse h t else t

/-- A taken BEGIN, in one event (R69). -/
def beginTest (h : HeadId) (k : SlotId) (ps : Pressures) (s : State) : State :=
  let x := s.slot k
  let s1 := s.setSlot k
    { x with attempts := x.attempts + 1, test := some (newTest h (x.attempts + 1) ps.pa s.calendar) }
  let s2 := s1.updHead h fun y => { y.toZeroing ps with live := { y.live with begun := y.live.begun.raise } }
  if x.isProving then s2 else countProving h s2

/-- BEGIN (R68, R69). -/
def takeBegin (n : Nat) (s : State) : State × Reply :=
  onHead n s fun h =>
    let hd := s.head h
    match decide (hd.phase = .mounted), hd.mount with
    | true, some m =>
      let x := s.slot m.slot
      if s.calendar = none then (s, refusal .noDate)
      else
        match s.typeOfSlot x with
        | none => (s, refusal .noType)
        | some ty =>
          match beginCheck x hd ty with
          | .error st => (s, refusal st)
          | .ok ps => (beginTest h m.slot ps s, okWith (u8 (x.attempts + 1) ++ pressuresBytes ps))
    | _, _ => (s, refusal .state)

/-- BEGIN. -/
def execBegin (l : LinkId) (b : Body Nat) (s : State) : Host.Outcome State Fault Refusal :=
  request l .begin b takeBegin s

/-- ABORT ends a test in flight with cause ABORTED; its answer carries the phase it ended (R86). -/
def takeAbort (n : Nat) (s : State) : State × Reply :=
  onHead n s fun h =>
    let hd := s.head h
    match hd.phase.inFlight, hd.mount with
    | true, some m => (endByCause h m.slot (.invalid .aborted) s, okWith (u8 (phaseByte hd.phase)))
    | _, _ => (s, refusal .state)

/-- ABORT. -/
def execAbort (l : LinkId) (b : Body Nat) (s : State) : Host.Outcome State Fault Refusal :=
  request l .abort b takeAbort s

/-- Take a cylinder that was never begun out of its head (R66). -/
def dismountMounted (h : HeadId) (k : SlotId) (s : State) : State :=
  enterUnheld k .awaitTest (s.updHead h Head.toIdle)

/-- Take a tested cylinder out of its head: the head is IDLE and the roll applies the outcome (R12, R66). -/
def dismountDone (h : HeadId) (k : SlotId) (s : State) : State := applyOutcome k (s.updHead h Head.toIdle)

/-- DISMOUNT (R66). Its answer carries the state the slot entered, or CLOSED. -/
def takeDismount (n : Nat) (s : State) : State × Reply :=
  onHead n s fun h =>
    let hd := s.head h
    if hd.phase.inFlight then (s, refusal .headBusy)
    else
      match hd.mount with
      | none => (s, refusal .state)
      | some m =>
        if hd.phase = .mounted then (dismountMounted h m.slot s, okWith (u8 (slotStateByte .awaitTest)))
        else if hd.phase = .done then (dismountDone h m.slot s, okWith (u8 (slotStateByte (s.slot m.slot).route)))
        else (s, refusal .state)

/-- DISMOUNT. -/
def execDismount (l : LinkId) (b : Body Nat) (s : State) : Host.Outcome State Fault Refusal :=
  request l .dismount b takeDismount s

/-- HEAD_SETUP sets the lag and settle band of an IDLE head, clamped (R91). -/
def takeHeadSetup (a : HeadSetupArgs) (s : State) : State × Reply :=
  onHead a.head s fun h =>
    if (s.head h).phase ≠ .idle then (s, refusal .headBusy)
    else
      (s.updHead h fun x => { x with lag := clamp 0 15 a.lag, band := clamp 1 500 a.band },
       okWith (u8 (clamp 0 15 a.lag) ++ u16 (clamp 1 500 a.band)))

/-- HEAD_SETUP. -/
def execHeadSetup (l : LinkId) (b : Body HeadSetupArgs) (s : State) : Host.Outcome State Fault Refusal :=
  request l .headSetup b takeHeadSetup s

/-- HEAD_STATUS reports one head without changing it (R92). -/
def takeHeadStatus (n : Nat) (s : State) : State × Reply := onHead n s fun h => (s, okWith (headStatusItems s h))

/-- HEAD_STATUS. -/
def execHeadStatus (l : LinkId) (b : Body Nat) (s : State) : Host.Outcome State Fault Refusal :=
  request l .headStatus b takeHeadStatus s

end Sys2Proof.Machine
end

