-- ==== Sys2Proof/Machine/Common.lean ====
section
/-! DEFINITION. The requests of every link (R172): STATUS, NOTICES, NOTICE_SETUP, CLEAR_ERRORS, LOOKUP; and a
good frame whose code names no request. -/

namespace Sys2Proof.Machine

/-- STATUS changes nothing (R186). -/
def takeStatus (_ : Unit) (s : State) : State × Reply := (s, okWith (statusItems s))

/-- STATUS. -/
def execStatus (l : LinkId) (b : Body Unit) (s : State) : Host.Outcome State Fault Refusal :=
  request l .status b takeStatus s

/-- NOTICES returns every pending item and removes it (R184). -/
def takeNotices (l : LinkId) (_ : Unit) (s : State) : State × Reply :=
  (s.updLink l fun k => { k with pending := [] }, okWith (noticesBytes (s.link l).pending))

/-- NOTICES. -/
def execNotices (l : LinkId) (b : Body Unit) (s : State) : Host.Outcome State Fault Refusal :=
  request l .notices b (takeNotices l) s

/-- Every enable named is a kind directed to the link (R183). -/
def enablesNamed (l : LinkId) (names : BitVec 16) : Bool :=
  (List.range 16).all fun i => !names.getLsbD i || (NoticeKind.list[i]?.map fun k => decide (l ∈ towards k)).getD false

/-- Every edge selection named is a condition directed to the link (R183). -/
def edgesNamed (l : LinkId) (names : BitVec 8) : Bool :=
  (List.range 8).all fun i =>
    !names.getLsbD i || (allConditions[i]?.map fun c => decide (l ∈ towards c.notice.kind)).getD false

/-- The named bits take their new values, the others stay. -/
def replaceBits {n : Nat} (old names values : BitVec n) : BitVec n := (old &&& ~~~names) ||| (values &&& names)

/-- NOTICE_SETUP (R183). Its answer echoes the request's four fields. -/
def takeNoticeSetup (l : LinkId) (a : NoticeSetupArgs) (s : State) : State × Reply :=
  if enablesNamed l a.enableNames && edgesNamed l a.edgeNames then
    (s.updLink l fun k =>
      { k with
        enables := replaceBits k.enables a.enableNames a.enableValues
        edges := replaceBits k.edges a.edgeNames a.edgeValues },
     okWith (u16 a.enableNames.toNat ++ u16 a.enableValues.toNat ++ [a.edgeNames, a.edgeValues]))
  else (s, refusal .field)

/-- NOTICE_SETUP. -/
def execNoticeSetup (l : LinkId) (b : Body NoticeSetupArgs) (s : State) : Host.Outcome State Fault Refusal :=
  request l .noticeSetup b (takeNoticeSetup l) s

/-- CLEAR_ERRORS clears the flags it names; its answer carries the flags as they then stand and the five
counts (R179). -/
def takeClearErrors (l : LinkId) (names : BitVec 8) (s : State) : State × Reply :=
  (s.updLink l fun k => { k with flags := clearNamed names k.flags },
   okWith (flagByte (clearNamed names (s.link l).flags) :: countsBytes (s.link l).counts))

/-- CLEAR_ERRORS. -/
def execClearErrors (l : LinkId) (b : Body (BitVec 8)) (s : State) : Host.Outcome State Fault Refusal :=
  request l .clearErrors b (takeClearErrors l) s

/-- LOOKUP reports one slot without changing it (R186). -/
def takeLookup (a : LookupArgs) (s : State) : State × Reply :=
  match a.selector with
  | none => (s, refusal .field)
  | some .carrier =>
    if 255 < a.number then (s, refusal .field)
    else onCarrier a.number s fun k => (s, okWith (lookupItems s k))
  | some .slot =>
    match slotOf a.number with
    | some k => (s, okWith (lookupItems s k))
    | none => (s, refusal .field)

/-- LOOKUP. -/
def execLookup (l : LinkId) (b : Body LookupArgs) (s : State) : Host.Outcome State Fault Refusal :=
  request l .lookup b takeLookup s

/-- A good frame whose code names no request is answered ROLE, its code echoed, and nothing else happens
(R172, R174). -/
def execUnknownCode (l : LinkId) (code : Nat) (s : State) : Host.Outcome State Fault Refusal :=
  .next (onFrame l (takeGood l code fun s => (s, refusal .role)) s)

end Sys2Proof.Machine
end

