-- ==== Sys2Proof/Machine/Inspection.lean ====
section
/-! DEFINITION. Admission and inspection (chapter 3): ADMIT and ADMIT_PROVING, the inspection claim, findings,
weighing, the end of inspection; and RELEASE, which L1, L3 and L4 share (R18, R153). -/

namespace Sys2Proof.Machine

/-- The slot that a binding request writes: its identity, nothing posted, no attempt, every optional field
absent (R2). -/
def Slot.bindNew (carrier : Fin 255) (i : Identity) (st : SlotState) : Slot :=
  { Slot.empty with state := st, carrier := some (carrier.val + 1), ident := some i }

/-- A slot takes a cylinder and its carrier is bound to it, all in one event (R7, R9, R45). -/
def bindSlot (c : Fin 255) (k : SlotId) (x : Slot) (s : State) : State :=
  reporting (fun s => (s.setSlot k x).bind c (some k)) s

/-- Checks 3 to 6 of R44 on parameters in their ranges, and the binding: the type LOADED and of the kind
wanted, the carrier free, the serial not open, a FREE slot. `make` writes the slot from its identity. -/
def admitChecked (p : BindingParams) (proving : Bool) (make : Identity → Slot) (s : State) : State × Reply :=
  match (s.typeEntry p.typeIdx).loaded with
  | none => (s, refusal .noType)
  | some t =>
    if t.fields.proving ≠ proving then (s, refusal .noType)
    else if (s.bound (p.carrier.val + 1)).isSome then (s, refusal .bound)
    else if s.serialOpen p.serial then (s, refusal .duplicate)
    else
      match s.lowestFree with
      | none => (s, refusal .full)
      | some k => (bindSlot p.carrier k (make ⟨p.serial, p.typeIdx, t.rev, proving⟩) s, okWith (u8 k.val ++ u8 t.rev))

/-- ADMIT (R43 to R45). -/
def takeAdmitOrdinary (a : AdmitArgs) (s : State) : State × Reply :=
  match s.calendar with
  | none => (s, refusal .noDate)
  | some today =>
    match readBinding a.carrier a.serial a.type, readOrdinary today a with
    | some p, some o =>
      admitChecked p false
        (fun i => { Slot.bindNew p.carrier i .admitted with made := some o.made, tare := some o.tare, ree := o.ree }) s
    | some _, none => (s, refusal .field)
    | none, _ => (s, refusal .field)

/-- ADMIT. -/
def execAdmitOrdinary (l : LinkId) (b : Body AdmitArgs) (s : State) : Host.Outcome State Fault Refusal :=
  request l .admitOrdinary b takeAdmitOrdinary s

/-- ADMIT_PROVING: the checks of ADMIT with the type's kind reversed, straight into AWAIT_TEST (R48). -/
def takeAdmitProving (a : AdmitProvingArgs) (s : State) : State × Reply :=
  match s.calendar with
  | none => (s, refusal .noDate)
  | some _ =>
    match readBinding a.carrier a.serial a.type with
    | some p => admitChecked p true (fun i => Slot.bindNew p.carrier i .awaitTest) s
    | none => (s, refusal .field)

/-- ADMIT_PROVING. -/
def execAdmitProving (l : LinkId) (b : Body AdmitProvingArgs) (s : State) : Host.Outcome State Fault Refusal :=
  request l .admitProving b takeAdmitProving s

/-- CLAIM takes the inspection claim on an ADMITTED slot (R16, R49). -/
def takeClaim (l : LinkId) (c : Nat) (s : State) : State × Reply :=
  claimCheck l .admitted c s claimItems fun k =>
    let t := enterHeld k .inspecting (.link l) s
    (t, okWith (claimItems t k))

/-- CLAIM. -/
def execClaim (l : LinkId) (b : Body Nat) (s : State) : Host.Outcome State Fault Refusal :=
  request l .claim b (takeClaim l) s

/-- The finding of a FINDING, or none where its code or severity is out of range (R51, R52). -/
def readFinding (a : FindingArgs) : Option Finding :=
  match a.severity with
  | some sev => if inRange 1 199 a.code && decide (sev ≠ .none) then some ⟨a.code, sev, .inspection, a.value⟩ else none
  | none => none

/-- The items of FINDING's answer: stored or not, the number stored, the overflow mark, the worst severity
(R52). -/
def findingItems (before after : Slot) : List Byte :=
  yesNo (decide (before.findings.length < after.findings.length)) ++ u8 after.findings.length ++ yesNo after.overflow ++
    u8 (severityByte after.worst)

/-- FINDING posts one station finding to the slot that the link holds (R51, R52). -/
def takeFinding (l : LinkId) (a : FindingArgs) (s : State) : State × Reply :=
  asHolder l a.carrier s fun k =>
    match readFinding a with
    | some f => (post k f s, okWith (findingItems (s.slot k) ((s.slot k).post f)))
    | none => (s, refusal .field)

/-- FINDING. -/
def execFinding (l : LinkId) (b : Body FindingArgs) (s : State) : Host.Outcome State Fault Refusal :=
  request l .finding b (takeFinding l) s

/-- The weight-loss limit of a slot's type (R54). -/
def State.lossLimit (s : State) (x : Slot) : Nat := ((s.typeOfSlot x).map TypeFields.lw).getD 0

/-- The slot after a weighing: its weight record, and finding 200 when the criterion fails (R54). -/
def Slot.weighed (x : Slot) (lw wm : Nat) : Slot :=
  let ws := x.tare.getD 0
  let y := { x with weight := some (weigh ws wm) }
  if weightFails lw ws wm then y.post ⟨200, .condemn, .unit, some (weigh ws wm).loss⟩ else y

/-- WEIGH writes the weight record once (R53, R54). -/
def takeWeigh (l : LinkId) (a : WeighArgs) (s : State) : State × Reply :=
  asHolder l a.carrier s fun k =>
    let x := s.slot k
    if !inRange 1 65000 a.tare then (s, refusal .field)
    else if x.weight.isSome then (s, refusal .weighed)
    else
      let y := x.weighed (s.lossLimit x) a.tare
      (s.setSlot k y,
       okWith (opt 4 weightBytes y.weight ++ yesNo (weightFails (s.lossLimit x) (x.tare.getD 0) a.tare) ++
         u8 (severityByte y.worst)))

/-- WEIGH. -/
def execWeigh (l : LinkId) (b : Body WeighArgs) (s : State) : Host.Outcome State Fault Refusal :=
  request l .weigh b (takeWeigh l) s

/-- The age of a slot's cylinder at the calendar's month (R56). -/
def State.ageOf (s : State) (x : Slot) : Int :=
  match s.calendar, x.made with
  | some d, some m => ageMonths d m
  | _, _ => 0

/-- The slot's cylinder has reached its type's service life (R56). -/
def State.lifeOver (s : State) (x : Slot) : Bool :=
  lifeExpired (((s.typeOfSlot x).map TypeFields.lifeYears).getD 0) (s.ageOf x)

/-- The age check: finding 201 with the age as its value (R56). -/
def ageCheck (k : SlotId) (s : State) : State :=
  if s.lifeOver (s.slot k) then post k ⟨201, .condemn, .unit, some (s.ageOf (s.slot k)).toNat⟩ s else s

/-- The state that a worst severity routes an inspected slot to (R57). -/
def inspectionRoute : Severity → SlotState
  | .none => .awaitTest | .note => .awaitTest | .refer => .referred | .condemn => .awaitScrap

/-- Route an inspected slot on its worst severity (R57). -/
def routeInspected (k : SlotId) (s : State) : State :=
  match (s.slot k).worst with
  | .none => enterUnheld k .awaitTest s
  | .note => enterUnheld k .awaitTest s
  | .refer => enterReferred k s
  | .condemn => enterAwaitScrap k s

/-- INSPECTED ends the inspection: the age check, then the routing, in one event (R55 to R57). -/
def takeInspected (l : LinkId) (c : Nat) (s : State) : State × Reply :=
  asHolder l c s fun k =>
    let x := s.slot k
    if 0 < s.lossLimit x ∧ x.weight = none then (s, refusal .notWeighed)
    else
      let t := ageCheck k s
      (routeInspected k t,
       okWith (u8 (slotStateByte (inspectionRoute (t.slot k).worst)) ++ u8 (severityByte (t.slot k).worst) ++ i16 (s.ageOf x) ++
         yesNo (s.lifeOver x)))

/-- INSPECTED. -/
def execInspected (l : LinkId) (b : Body Nat) (s : State) : Host.Outcome State Fault Refusal :=
  request l .inspected b (takeInspected l) s

/-- RELEASE gives up the sending link's claim (R18, R153). -/
def takeRelease (l : LinkId) (c : Nat) (s : State) : State × Reply :=
  asHolder l c s fun k => (giveUpClaim k s, okWith [])

/-- RELEASE. -/
def execRelease (l : LinkId) (b : Body Nat) (s : State) : Host.Outcome State Fault Refusal :=
  request l .release b (takeRelease l) s

end Sys2Proof.Machine
end

