-- ==== Sys2Proof/Machine/LinkEvents.lean ====
section
/-! DEFINITION. The events of the links (10.3, R180): faults on reception, the end of an answer, a gap, and a
link lost to silence. -/

namespace Sys2Proof.Machine

/-- A character with a character fault, inside a frame or between frames (R177). A frame that begins with it
in progress has its own start byte first. -/
def badCharacterOn (l : LinkId) (f : LinkFault) (inFrame : Bool) (s : State) : State :=
  s.updLink l fun k => Link.badCharacter f (if inFrame then k.startByte else k)

/-- A character with bad parity (R177). -/
def execParity (l : LinkId) (inFrame : Bool) (s : State) : Host.Outcome State Fault Refusal :=
  event (badCharacterOn l .parity inFrame) s

/-- A character without a stop bit (R177). -/
def execFraming (l : LinkId) (inFrame : Bool) (s : State) : Host.Outcome State Fault Refusal :=
  event (badCharacterOn l .framing inFrame) s

/-- A gap over 20 ms inside a frame, and the character that ends it (R177). -/
def Link.fragmentThen (c : Byte) (k : Link) : Link :=
  match k.state with
  | .stopped => k
  | .running => Link.firstOfHunt c k.startByte.gap
  | .lost => Link.firstOfHunt c k.startByte.gap

/-- A gap over 20 ms inside a frame (R177). -/
def execFragment (l : LinkId) (next : Byte) (s : State) : Host.Outcome State Fault Refusal :=
  event (fun s => s.updLink l (Link.fragmentThen next)) s

/-- A complete frame with a bad byte sum (R177). -/
def execCheck (l : LinkId) (s : State) : Host.Outcome State Fault Refusal :=
  event (fun s => s.updLink l Link.checkFault) s

/-- A frame begins while an answer is awaited or being sent (R178). With no answer on the line no frame
overruns one, and nothing happens. -/
def execOverrun (l : LinkId) (s : State) : Host.Outcome State Fault Refusal :=
  event (fun s => if (s.link l).tx.isSome then s.updLink l Link.startByte else s) s

/-- A length byte of 0 or above 250: answered LENGTH at once with code 0, and the receiver discards until a
gap; the frame is not good, so the timer and the link's state stand (R177). -/
def Link.badLength (k : Link) : Link :=
  Link.beginAnswer (Link.answer 0 (refusal .length) { k with rx := .discarding })

/-- A length byte of 0 or above 250 (R177). The byte itself takes no part. -/
def execLengthByteFault (l : LinkId) (_length : Nat) (s : State) : Host.Outcome State Fault Refusal :=
  .next (onFrame l (fun s => s.updLink l Link.badLength) s)

/-- The answer is that of a LINE_RESET taken (R185). -/
def Answer.startsReset (a : Answer) : Bool := decide (a.code = Request.code .lineReset ∧ a.status = .ok)

/-- An answer has been sent to its check byte, and so has begun: the line is free again; after a LINE_RESET
answer the reset is taken (R178, R185). -/
def answerSent (l : LinkId) (s : State) : State :=
  match (s.link l).tx with
  | none => s
  | some o =>
    let t := s.updLink l fun k => { k with tx := none }
    if o.answer.startsReset then lineReset t else t

/-- A link finishes sending an answer frame (R178). -/
def execAnswerSent (l : LinkId) (s : State) : Host.Outcome State Fault Refusal := event (answerSent l) s

/-- A gap over 20 ms on a link (R177). -/
def execGapOver20ms (l : LinkId) (s : State) : Host.Outcome State Fault Refusal :=
  event (fun s => s.updLink l Link.gap) s

/-- The next clock advance brings the link's timer to the silence limit (R180). -/
def silenceDue (s : State) (l : LinkId) : Bool :=
  decide (l ≠ .L0) && Link.silent s.limits.silence (s.link l).tick

/-- The clock advance that brings a RUNNING link's silence timer to the limit; nothing happens when the next
advance would not (R180; notes/assumptions/3.md). -/
def execSilenceTimeout (l : LinkId) (s : State) : Host.Outcome State Fault Refusal :=
  event (fun s => if silenceDue s l then advanceClock s else s) s

end Sys2Proof.Machine
end

