-- ==== Sys2Proof/Machine/Pairs.lean ====
section
/-! DEFINITION. The events of the heads. A reading pair is taken whole (R63); each of the other rows is the
reading pair that brings its event about, and does nothing when the pair would not (notes/assumptions/3.md). -/

namespace Sys2Proof.Machine

/-- A reading pair reaches a head (R63). -/
def execReadingPair (h : HeadId) (p j : Reading) (s : State) : Host.Outcome State Fault Refusal := event (takePair h p j) s

/-- The ZEROING pair that raises the phase count to 600 without completing a stable window (R72). -/
def execZeroTimeout (h : HeadId) (p j : Reading) (s : State) : Host.Outcome State Fault Refusal :=
  .next (takePairAs h p j (PairAction.endsBy .zeroTimeout) s)

/-- The RAMP pair that reaches the ramp limit without a run of three (R73). -/
def execRampTimeout (h : HeadId) (p j : Reading) (s : State) : Host.Outcome State Fault Refusal :=
  .next (takePairAs h p j (PairAction.endsBy .rampTimeout) s)

/-- The HOLD pair that brings the hold count to H (R74). -/
def execHoldComplete (h : HeadId) (p j : Reading) (s : State) : Host.Outcome State Fault Refusal :=
  .next (takePairAs h p j (PairAction.completesHold (s.head h).phase) s)

/-- The pair that brings the tail count to the lag, or, with lag 0, the hold count to H (R78). -/
def execTailEnd (h : HeadId) (p j : Reading) (s : State) : Host.Outcome State Fault Refusal :=
  .next (takePairAs h p j PairAction.isTailEnd s)

/-- The RELEASE pair that reaches 1,200 without a run of three (R79). -/
def execReleaseTimeout (h : HeadId) (p j : Reading) (s : State) : Host.Outcome State Fault Refusal :=
  .next (takePairAs h p j (PairAction.endsBy .releaseTimeout) s)

/-- The SETTLE pair that reaches the settle limit without a stable window (R80). -/
def execSettleTimeout (h : HeadId) (p j : Reading) (s : State) : Host.Outcome State Fault Refusal :=
  .next (takePairAs h p j (PairAction.endsBy .settleTimeout) s)

end Sys2Proof.Machine
end

