-- ==== Sys2Proof/Machine/Power.lean ====
section
/-! DEFINITION. The unit clock and power (R23, R122, R170): a second of the clock, a lapse by time, power-on,
power loss. -/

namespace Sys2Proof.Machine

/-- The unit clock advances by one second (R122, R180). -/
def execUnitClockAdvance (s : State) : Host.Outcome State Fault Refusal := event advanceClock s

/-- The next clock advance reaches proved-at plus the validity of a PROVED head (R122). -/
def lapseDue (s : State) (h : HeadId) : Bool := State.expired { s with clock := s.clock + 1 } h

/-- The clock advance at which a PROVED record runs out; nothing happens when the next advance would not
reach it (R122; notes/assumptions/3.md). -/
def execLapseByTime (h : HeadId) (s : State) : Host.Outcome State Fault Refusal :=
  event (fun s => if lapseDue s h then advanceClock s else s) s

/-- What the nonvolatile store carries through a loss of power, with everything else as a power-on leaves it
(R23, R25, R34, R37, R39, R41, R42, R94, R132, R170, R179, R180, R182). The model's own queue stays. -/
def State.restart (s : State) : State :=
  { State.reset with
    types := s.types, mark := s.mark, limits := s.limits, recordCounter := s.recordCounter, pageA := s.pageA,
    pageB := s.pageB, presented := s.presented, pending := s.pending }

/-- A power-on that finds both pages EMPTY makes page A FILLING (R160). -/
def fillFirstPage (s : State) : State :=
  if s.pageA.state = .empty ∧ s.pageB.state = .empty then { s with pageA := { s.pageA with state := .filling } } else s

/-- Power is applied: the unit starts (R23, R170). -/
def execPowerOn (s : State) : Host.Outcome State Fault Refusal := .next (fillFirstPage s.restart)

/-- Power is lost: everything volatile is gone, and the unit does nothing until a power-on (R22, R25). -/
def execPowerLoss (s : State) : Host.Outcome State Fault Refusal := .next { s.restart with powered := false }

end Sys2Proof.Machine
end

