-- ==== Sys2Proof/Machine/Settings.lean ====
section
/-! DEFINITION. The line settings' requests (chapter 2), the calendar, and the statistics requests (6.5). -/

namespace Sys2Proof.Machine

/-- LOAD_TYPE writes one entry with a new revision (R28, R30). -/
def takeLoadType (a : LoadTypeArgs) (s : State) : State × Reply :=
  match readTypeFields a with
  | none => (s, refusal .field)
  | some (i, f) =>
    if s.locked i then (s, refusal .typeInUse)
    else
      let rev := nextRevision (s.typeEntry i).lastRev
      (s.setType i ⟨some ⟨f, rev⟩, rev⟩, okWith (u8 i.val ++ u8 rev))

/-- LOAD_TYPE. -/
def execLoadType (l : LinkId) (b : Body LoadTypeArgs) (s : State) : Host.Outcome State Fault Refusal :=
  request l .loadType b takeLoadType s

/-- DROP_TYPE empties one entry and keeps its last revision (R31). -/
def takeDropType (n : Nat) (s : State) : State × Reply :=
  match typeOf n with
  | none => (s, refusal .field)
  | some i =>
    let e := s.typeEntry i
    if e.loaded = none then (s, refusal .empty)
    else if s.locked i then (s, refusal .typeInUse)
    else (s.setType i { e with loaded := none }, okWith (u8 i.val ++ u8 e.lastRev))

/-- DROP_TYPE. -/
def execDropType (l : LinkId) (b : Body Nat) (s : State) : Host.Outcome State Fault Refusal :=
  request l .dropType b takeDropType s

/-- READ_TYPE reports one entry without changing it; an EMPTY entry is answered EMPTY with its index and last
revision (R32). -/
def takeReadType (n : Nat) (s : State) : State × Reply :=
  match typeOf n with
  | none => (s, refusal .field)
  | some i =>
    match (s.typeEntry i).loaded with
    | none => (s, ⟨.empty, u8 i.val ++ u8 (s.typeEntry i).lastRev⟩)
    | some t => (s, okWith (typeItems t (s.locked i)))

/-- READ_TYPE. -/
def execReadType (l : LinkId) (b : Body Nat) (s : State) : Host.Outcome State Fault Refusal :=
  request l .readType b takeReadType s

/-- SET_MARK replaces the tester mark after the die set's substitutions (R35). -/
def takeSetMark (t : Text) (s : State) : State × Reply :=
  match readMarkChars t with
  | none => (s, refusal .field)
  | some m => ({ s with mark := m }, okWith (padRight 4 m))

/-- SET_MARK. -/
def execSetMark (l : LinkId) (b : Body Text) (s : State) : Host.Outcome State Fault Refusal :=
  request l .setMark b takeSetMark s

/-- The limits of a SET_LIMITS, each number clamped into its range (R37). -/
def readLimits (a : LimitsArgs) : Option Limits :=
  a.mode.map fun m => ⟨clamp 30 1440 a.validity, clamp 1 500 a.testLimit, clamp 0 60 a.silence, m⟩

/-- SET_LIMITS: the four limits together, and what the new ones make due at once (R37, R38). -/
def takeSetLimits (a : LimitsArgs) (s : State) : State × Reply :=
  match readLimits a with
  | none => (s, refusal .field)
  | some x => (loseSilentLinks (lapseExpired { s with limits := x }), okWith (limitsItems x))

/-- SET_LIMITS. -/
def execSetLimits (l : LinkId) (b : Body LimitsArgs) (s : State) : Host.Outcome State Fault Refusal :=
  request l .setLimits b takeSetLimits s

/-- SET_DATE: a change of date in ON_DATE mode takes a snapshot first, whose period is the old date; a date
set from L0 sets the manual-date mark (R39 to R41, R130). -/
def takeSetDate (l : LinkId) (a : DateArgs) (s : State) : State × Reply :=
  match readDate a with
  | none => (s, refusal .field)
  | some d =>
    let s1 := if s.limits.mode = .onDate ∧ s.calendar ≠ some d then takeSnapshot s else s
    ({ s1 with calendar := some d, manualDate := s.manualDate || decide (l = .L0) }, okWith (dateBytes d))

/-- SET_DATE. -/
def execSetDate (l : LinkId) (b : Body DateArgs) (s : State) : Host.Outcome State Fault Refusal :=
  request l .setDate b (takeSetDate l) s

/-- READ_STATS reports the snapshot without changing it (R131). -/
def takeReadStats (_ : Unit) (s : State) : State × Reply := (s, okWith (statsItems s))

/-- READ_STATS. -/
def execReadStats (l : LinkId) (b : Body Unit) (s : State) : Host.Outcome State Fault Refusal :=
  request l .readStats b takeReadStats s

/-- SNAPSHOT takes a snapshot of all four heads and reports it (R129). -/
def takeSnapshotRequest (_ : Unit) (s : State) : State × Reply := (takeSnapshot s, okWith (statsItems (takeSnapshot s)))

/-- SNAPSHOT. -/
def execSnapshot (l : LinkId) (b : Body Unit) (s : State) : Host.Outcome State Fault Refusal :=
  request l .snapshot b takeSnapshotRequest s

end Sys2Proof.Machine
end

