-- ==== Sys2Proof/Machine/Stations.lean ====
section
/-! DEFINITION. The stamp station's and the scrap station's requests (chapter 8). -/

namespace Sys2Proof.Machine

/-- The stamp line and due date that the composer forms for a slot, from the tester mark, the test record and
the type's intervals (R115, R146). -/
def State.compose (s : State) (x : Slot) : Option Stamp := do
  let t ← x.test
  let d ← t.date
  let ty ← s.typeOfSlot x
  return ⟨stampLine s.mark d t.star, dueDate d (if t.star then ty.starInterval else ty.interval)⟩

/-- A taken stamp claim: STAMPING with a newly composed line and due date (R147). -/
def takeStampClaim (l : LinkId) (k : SlotId) (s : State) : State :=
  (enterHeld k .stamping (.link l) s).updSlot k fun x => { x with stamp := s.compose x }

/-- CLAIM_STAMP (R147, R148). -/
def takeClaimStamp (l : LinkId) (c : Nat) (s : State) : State × Reply :=
  claimCheck l .awaitStamp c s claimStampItems fun k =>
    if s.calendar = none then (s, refusal .noDate)
    else (takeStampClaim l k s, okWith (claimStampItems (takeStampClaim l k s) k))

/-- CLAIM_STAMP. -/
def execClaimStamp (l : LinkId) (b : Body Nat) (s : State) : Host.Outcome State Fault Refusal :=
  request l .claimStamp b (takeClaimStamp l) s

/-- STAMPED closes the slot with outcome STAMPED (R149). -/
def takeStamped (l : LinkId) (c : Nat) (s : State) : State × Reply :=
  asHolder l c s fun k =>
    (closeSlot k .stamped s, okWith (u8 k.val ++ u8 (outcomeByte .stamped) ++ opt 14 stampBytes (s.slot k).stamp))

/-- STAMPED. -/
def execStamped (l : LinkId) (b : Body Nat) (s : State) : Host.Outcome State Fault Refusal :=
  request l .stamped b (takeStamped l) s

/-- CLAIM_SCRAP (R150). -/
def takeClaimScrap (l : LinkId) (c : Nat) (s : State) : State × Reply :=
  claimCheck l .awaitScrap c s claimScrapItems fun k =>
    let t := enterHeld k .scrapping (.link l) s
    (t, okWith (claimScrapItems t k))

/-- CLAIM_SCRAP. -/
def execClaimScrap (l : LinkId) (b : Body Nat) (s : State) : Host.Outcome State Fault Refusal :=
  request l .claimScrap b (takeClaimScrap l) s

/-- SCRAPPED stores the method and closes the slot with outcome SCRAPPED (R152). -/
def takeScrapped (l : LinkId) (a : ScrappedArgs) (s : State) : State × Reply :=
  asHolder l a.carrier s fun k =>
    match a.method with
    | none => (s, refusal .field)
    | some m =>
      (closeSlot k .scrapped (s.updSlot k fun x => { x with method := some m }),
       okWith (u8 k.val ++ u8 (outcomeByte .scrapped) ++ u8 (methodByte m) ++ u8 (s.slot k).scrapReason))

/-- SCRAPPED. -/
def execScrapped (l : LinkId) (b : Body ScrappedArgs) (s : State) : Host.Outcome State Fault Refusal :=
  request l .scrapped b (takeScrapped l) s

end Sys2Proof.Machine
end

