-- ==== Sys2Proof/Machine/Supervisor.lean ====
section
/-! DEFINITION. The supervisor panel's requests on L0 (chapter 7, R181, R184, R185), and the line reset that
LINE_RESET and the pushbutton start. -/

namespace Sys2Proof.Machine

/-- NEXT_REFERRAL reports the slot at the head of the referral queue without removing it (R138). -/
def takeNextReferral (_ : Unit) (s : State) : State × Reply :=
  match s.referral with
  | k :: _ => (s, okWith (referralItems s k))
  | [] => (s, refusal .empty)

/-- NEXT_REFERRAL. -/
def execNextReferral (l : LinkId) (b : Body Unit) (s : State) : Host.Outcome State Fault Refusal :=
  request l .nextReferral b takeNextReferral s

/-- The checks of a withdrawal, HELD before CONDEMNED (R13). -/
def withdrawalCheck (x : Slot) : Option Status :=
  if x.holder.isSome then some .held else if x.worst = .condemn then some .condemned else none

/-- The answer of a RULE: slot, state entered, grants (R139). -/
def ruleReply (k : SlotId) (st : SlotState) (grants : Nat) : Reply :=
  okWith (u8 k.val ++ u8 (slotStateByte st) ++ u8 grants)

/-- Carry out a ruling on a REFERRED slot (R139 to R142). -/
def carryOutRuling (k : SlotId) (r : Ruling) (s : State) : State × Reply :=
  let x := s.slot k
  match r with
  | .retest =>
    if x.grants = Config.grantsMax then (s, refusal .field)
    else
      (enterUnheld k .awaitTest ((leaveReferral k s).updSlot k fun y => { y with grants := y.grants + 1 }),
       ruleReply k .awaitTest (x.grants + 1))
  | .condemn =>
    (enterAwaitScrap k (post k ⟨205, .condemn, .supervisor, none⟩ (leaveReferral k s)), ruleReply k .awaitScrap x.grants)
  | .withdraw =>
    match withdrawalCheck x with
    | some st => (s, refusal st)
    | none => (closeSlot k .withdrawn s, ruleReply k .closed x.grants)

/-- RULE, its checks in the order of the table of R139. R13 and R95 say that a RULE WITHDRAW of a slot that is held, in
a test for one, is refused HELD, and R13 that one of a slot whose worst severity is CONDEMN is refused CONDEMNED in every
state. R8 and R10 settle where those checks stand: RULE, which names a slot by number in any state, makes its checks "in
the order that its chapter gives", and the chapter that owns the request gives its checks and refusals; R95, of another
chapter, cites R13 for its HELD and gives no order. RULE's chapter gives R139:
STATE for a slot that is not REFERRED, and only then HELD and CONDEMNED, the checks of R13 (`withdrawalCheck`); R144 and
R14 have a RULE on a TESTING and on a CLOSED slot refused STATE likewise. DEDUCED (notes/assumptions/21.md). -/
def takeRule (a : RuleArgs) (s : State) : State × Reply :=
  match slotOf a.slot, a.ruling with
  | some k, some r => if (s.slot k).state = .referred then carryOutRuling k r s else (s, refusal .state)
  | some _, none => (s, refusal .field)
  | none, _ => (s, refusal .field)

/-- RULE. -/
def execRule (l : LinkId) (b : Body RuleArgs) (s : State) : Host.Outcome State Fault Refusal :=
  request l .rule b takeRule s

/-- The states that allow a withdrawal (R142). -/
def SlotState.withdrawable (x : SlotState) : Bool :=
  decide (x = .admitted ∨ x = .awaitTest ∨ x = .referred ∨ x = .awaitStamp)

/-- WITHDRAW closes a slot named by its carrier with outcome WITHDRAWN (R142). -/
def takeWithdraw (c : Nat) (s : State) : State × Reply :=
  onCarrier c s fun k =>
    match withdrawalCheck (s.slot k) with
    | some st => (s, refusal st)
    | none =>
      if (s.slot k).state.withdrawable then
        (closeSlot k .withdrawn s, okWith (u8 k.val ++ u8 (outcomeByte .withdrawn)))
      else (s, refusal .state)

/-- WITHDRAW. -/
def execWithdraw (l : LinkId) (b : Body Nat) (s : State) : Host.Outcome State Fault Refusal :=
  request l .withdraw b takeWithdraw s

/-- BREAK_CLAIM drops a link's claim on a slot (R143). -/
def takeBreakClaim (c : Nat) (s : State) : State × Reply :=
  onCarrier c s fun k =>
    match (s.slot k).holder with
    | some (.head _) => (s, refusal .held)
    | none => (s, refusal .state)
    | some (.link l) =>
      (giveUpClaim k s, okWith (u8 k.val ++ u8 (linkNumber l) ++ u8 (slotStateByte (s.slot k).state.returned)))

/-- BREAK_CLAIM. -/
def execBreakClaim (l : LinkId) (b : Body Nat) (s : State) : Host.Outcome State Fault Refusal :=
  request l .breakClaim b takeBreakClaim s

/-- A link stopped: its pending items cleared, its call line released with them, no timer, and a frame partly
received discarded; an answer being sent is completed, one that has not begun is not sent (R181). -/
def Link.stop (k : Link) : Link :=
  { k with
    state := .stopped, rx := .hunting, timer := 0, pending := []
    tx := k.tx.filter fun o => decide (o.stage = .sending) }

/-- STOP_LINK: the claims are dropped first, then the pending items are cleared (R181). -/
def takeStopLink (n : Nat) (s : State) : State × Reply :=
  match linkOf n with
  | none => (s, refusal .field)
  | some m =>
    if m = .L0 then (s, refusal .self)
    else if (s.link m).state = .stopped then (s, okWith [])
    else ((dropClaims m s).updLink m Link.stop, okWith [])

/-- STOP_LINK. -/
def execStopLink (l : LinkId) (b : Body Nat) (s : State) : Host.Outcome State Fault Refusal :=
  request l .stopLink b takeStopLink s

/-- A link started: RUNNING, its flags cleared, its timer afresh, its receiver hunting (R181). -/
def Link.start (k : Link) : Link := { k with state := .running, rx := .hunting, flags := noFlags, timer := 0 }

/-- START_LINK (R181). -/
def takeStartLink (n : Nat) (s : State) : State × Reply :=
  match linkOf n with
  | none => (s, refusal .field)
  | some m => (s.updLink m Link.start, okWith [])

/-- START_LINK. -/
def execStartLink (l : LinkId) (b : Body Nat) (s : State) : Host.Outcome State Fault Refusal :=
  request l .startLink b takeStartLink s

/-- LINE_RESET is answered OK; the reset is taken when that answer has been sent whole (R185: `execAnswerSent`
of Machine/LinkEvents.lean). -/
def takeLineReset (_ : Unit) (s : State) : State × Reply := (s, okWith [])

/-- LINE_RESET. -/
def execLineReset (l : LinkId) (b : Body Unit) (s : State) : Host.Outcome State Fault Refusal :=
  request l .lineReset b takeLineReset s

/-- The cabinet pushbutton asserts the line reset input: a line reset of every block (R185). -/
def execResetPushbutton (s : State) : Host.Outcome State Fault Refusal := event lineReset s

/-- The item of a FORCE_NOTICE: a head number below 4, or a link number 1 to 5, where the kind carries one;
the number is ignored for a kind that carries none (R184, R175). -/
def forcedNotice (k : NoticeKind) (n : Nat) : Option Notice :=
  match k with
  | .holdDone => (headOf n).map .holdDone
  | .testDone => (headOf n).map .testDone
  | .headUnproved => (headOf n).map .headUnproved
  | .linkLost => if n = 0 then none else (linkOf n).map .linkLost
  | .stampReady => some .stampReady
  | .scrapReady => some .scrapReady
  | .pageFinished => some .pageFinished
  | .referralWaiting => some .referralWaiting
  | .registerFull => some .registerFull
  | .exportBlocked => some .exportBlocked

/-- The link and item of a FORCE_NOTICE, or none where R184 refuses FIELD. -/
def readForced (a : ForceNoticeArgs) : Option (LinkId × Notice) := do
  let m ← linkOf a.link
  let k ← a.kind
  let n ← forcedNotice k a.number
  if m ∈ towards k then some (m, n) else none

/-- FORCE_NOTICE (R184). -/
def takeForceNotice (a : ForceNoticeArgs) (s : State) : State × Reply :=
  match readForced a with
  | none => (s, refusal .field)
  | some (m, n) => if (s.link m).state = .stopped then (s, refusal .state) else (raiseTo n m s, okWith [])

/-- FORCE_NOTICE. -/
def execForceNotice (l : LinkId) (b : Body ForceNoticeArgs) (s : State) : Host.Outcome State Fault Refusal :=
  request l .forceNotice b takeForceNotice s

end Sys2Proof.Machine
end

