-- ==== Sys2Proof/Machine/Dispatch.lean ====
section
/-! DEFINITION. One arm per command, each one call of that command's meaning. -/

namespace Sys2Proof.Machine

/-- The effect of a command on everything but the queue. -/
def exec (i : Instr) (s : State) : Host.Outcome State Fault Refusal :=
  match i with
  | .status l b => Sys2Proof.Machine.execStatus l b s
  | .notices l b => Sys2Proof.Machine.execNotices l b s
  | .noticeSetup l b => Sys2Proof.Machine.execNoticeSetup l b s
  | .clearErrors l b => Sys2Proof.Machine.execClearErrors l b s
  | .lookup l b => Sys2Proof.Machine.execLookup l b s
  | .nextReferral l b => Sys2Proof.Machine.execNextReferral l b s
  | .rule l b => Sys2Proof.Machine.execRule l b s
  | .withdraw l b => Sys2Proof.Machine.execWithdraw l b s
  | .breakClaim l b => Sys2Proof.Machine.execBreakClaim l b s
  | .stopLink l b => Sys2Proof.Machine.execStopLink l b s
  | .startLink l b => Sys2Proof.Machine.execStartLink l b s
  | .lineReset l b => Sys2Proof.Machine.execLineReset l b s
  | .resetPushbutton => Sys2Proof.Machine.execResetPushbutton s
  | .setDate l b => Sys2Proof.Machine.execSetDate l b s
  | .forceNotice l b => Sys2Proof.Machine.execForceNotice l b s
  | .readStats l b => Sys2Proof.Machine.execReadStats l b s
  | .admitOrdinary l b => Sys2Proof.Machine.execAdmitOrdinary l b s
  | .claim l b => Sys2Proof.Machine.execClaim l b s
  | .finding l b => Sys2Proof.Machine.execFinding l b s
  | .weigh l b => Sys2Proof.Machine.execWeigh l b s
  | .inspected l b => Sys2Proof.Machine.execInspected l b s
  | .release l b => Sys2Proof.Machine.execRelease l b s
  | .admitProving l b => Sys2Proof.Machine.execAdmitProving l b s
  | .mount l b => Sys2Proof.Machine.execMount l b s
  | .begin l b => Sys2Proof.Machine.execBegin l b s
  | .abort l b => Sys2Proof.Machine.execAbort l b s
  | .dismount l b => Sys2Proof.Machine.execDismount l b s
  | .headSetup l b => Sys2Proof.Machine.execHeadSetup l b s
  | .headStatus l b => Sys2Proof.Machine.execHeadStatus l b s
  | .claimStamp l b => Sys2Proof.Machine.execClaimStamp l b s
  | .stamped l b => Sys2Proof.Machine.execStamped l b s
  | .claimScrap l b => Sys2Proof.Machine.execClaimScrap l b s
  | .scrapped l b => Sys2Proof.Machine.execScrapped l b s
  | .loadType l b => Sys2Proof.Machine.execLoadType l b s
  | .dropType l b => Sys2Proof.Machine.execDropType l b s
  | .readType l b => Sys2Proof.Machine.execReadType l b s
  | .setMark l b => Sys2Proof.Machine.execSetMark l b s
  | .setLimits l b => Sys2Proof.Machine.execSetLimits l b s
  | .readPage l b => Sys2Proof.Machine.execReadPage l b s
  | .turnPage l b => Sys2Proof.Machine.execTurnPage l b s
  | .finishPage l b => Sys2Proof.Machine.execFinishPage l b s
  | .snapshot l b => Sys2Proof.Machine.execSnapshot l b s
  | .unknownCode l code => Sys2Proof.Machine.execUnknownCode l code s
  | .readingPair h p j => Sys2Proof.Machine.execReadingPair h p j s
  | .zeroTimeout h p j => Sys2Proof.Machine.execZeroTimeout h p j s
  | .rampTimeout h p j => Sys2Proof.Machine.execRampTimeout h p j s
  | .holdComplete h p j => Sys2Proof.Machine.execHoldComplete h p j s
  | .tailEnd h p j => Sys2Proof.Machine.execTailEnd h p j s
  | .releaseTimeout h p j => Sys2Proof.Machine.execReleaseTimeout h p j s
  | .settleTimeout h p j => Sys2Proof.Machine.execSettleTimeout h p j s
  | .silenceTimeout l => Sys2Proof.Machine.execSilenceTimeout l s
  | .lapseByTime h => Sys2Proof.Machine.execLapseByTime h s
  | .moveRecords => Sys2Proof.Machine.execMoveRecords s
  | .powerOn => Sys2Proof.Machine.execPowerOn s
  | .parity l inFrame => Sys2Proof.Machine.execParity l inFrame s
  | .framing l inFrame => Sys2Proof.Machine.execFraming l inFrame s
  | .fragment l next => Sys2Proof.Machine.execFragment l next s
  | .check l => Sys2Proof.Machine.execCheck l s
  | .overrun l => Sys2Proof.Machine.execOverrun l s
  | .lengthByteFault l length => Sys2Proof.Machine.execLengthByteFault l length s
  | .powerLoss => Sys2Proof.Machine.execPowerLoss s
  | .unitClockAdvance => Sys2Proof.Machine.execUnitClockAdvance s
  | .answerSent l => Sys2Proof.Machine.execAnswerSent l s
  | .gapOver20ms l => Sys2Proof.Machine.execGapOver20ms l s

end Sys2Proof.Machine
end

