-- ==== Sys2Proof/Safety.lean ====
section
/-! DEFINITION. What a safe unit is, in the terms the statements use: the laws that every step keeps, and the
words for what a request leaves as it was. -/

namespace Sys2Proof.Safety

open Sys2Proof.Machine

/-! ### Laws of the unit -/

/-- The phases in which a head's pump permit line is asserted (R89). -/
def permitPhase (p : Phase) : Prop := p = .ramp ∨ p = .hold ∨ p = .tail

/-- The pump permit line of a head is asserted exactly in RAMP, HOLD and TAIL (R89, R90). -/
def PermitLaw (s : State) : Prop := ∀ h, (s.head h).permit = true ↔ permitPhase (s.head h).phase

/-- Every slot has begun at most 2 + grants attempts, and its grants count is at most 253 (R2, R68). -/
def AllowanceLaw (s : State) : Prop := ∀ k, (s.slot k).attempts ≤ 2 + (s.slot k).grants ∧ (s.slot k).grants ≤ 253

/-- The fields of a type entry lie in the ranges of R26, and its Po_max below 65,000 (R27). -/
structure TypeSound (f : TypeFields) : Prop where
  pt : 1000 ≤ f.pt ∧ f.pt ≤ 60000
  hold : 10 ≤ f.holdSeconds ∧ f.holdSeconds ≤ 120
  w : f.w = 8 ∨ f.w = 16 ∨ f.w = 32 ∨ f.w = 64
  lp : 10 ≤ f.lp ∧ f.lp ≤ 200
  ree : f.ree ≤ 65000
  lo : f.lo ≤ 100
  ld : 5 ≤ f.ld ∧ f.ld ≤ 50
  lr : f.lr ≤ 100
  lw : f.lw ≤ 200
  life : f.lifeYears ≤ 60
  interval : 12 ≤ f.interval ∧ f.interval ≤ 180
  ls : f.ls ≤ f.lp
  starInterval : 12 ≤ f.starInterval ∧ f.starInterval ≤ 180
  ramp : 10 ≤ f.rampLimit ∧ f.rampLimit ≤ 600
  settle : 10 ≤ f.settleLimit ∧ f.settleLimit ≤ 600
  tn : if f.proving then ∃ n, f.tn = some n ∧ 1 ≤ n ∧ n ≤ 65000 else f.tn = none
  lt : if f.proving then ∃ n, f.lt = some n ∧ 1 ≤ n ∧ n ≤ 50 else f.lt = none
  headroom : (f.pt + f.pt * f.lr / 1000) + (f.pt + f.pt * f.lr / 1000) * f.lo / 1000 < 65000

/-- Every LOADED entry is sound and holds the revision that its last load gave (R26, R28). -/
def TypesLaw (s : State) : Prop :=
  ∀ i t, (s.typeEntry i).loaded = some t → TypeSound t.fields ∧ t.rev = (s.typeEntry i).lastRev

/-- The number after a record number: 99,999,999 is followed by 1 (R42). -/
def followedBy (a b : Nat) : Prop := if a = 99999999 then b = 1 else b = a + 1

/-- Numbers that run on one by one and end just before `n` (R162). -/
def RunsTo : List Nat → Nat → Prop
  | [], _ => True
  | [a], n => followedBy a n
  | a :: b :: rest, n => followedBy a b ∧ RunsTo (b :: rest) n

/-- The record numbers of a page in order of entry. -/
def pageNumbers (p : Page) : List Nat := p.records.map PageRecord.number

/-- A page holds what its state allows, and its first number is its first record's (R160). -/
def PageSound (p : Page) : Prop :=
  p.first = (pageNumbers p).head? ∧
    match p.state with
    | .empty => p.records = []
    | .filling => p.records.length < 8
    | .finished => 1 ≤ p.records.length ∧ p.records.length ≤ 8

/-- The pages stand in one of the combinations of R162, the marker as R161 gives, and the records of the
presented page followed by those of the other run on to the record counter. -/
def PagesLaw (s : State) : Prop :=
  PageSound s.pageA ∧ PageSound s.pageB ∧ 1 ≤ s.recordCounter ∧ s.recordCounter ≤ 99999999 ∧
    match s.presented with
    | none =>
      ((s.pageA.state = .filling ∧ s.pageB.state = .empty) ∨ (s.pageA.state = .empty ∧ s.pageB.state = .filling)) ∧
        RunsTo (pageNumbers s.pageA ++ pageNumbers s.pageB) s.recordCounter
    | some p =>
      (s.page p).state = .finished ∧ (s.page p.other).state ≠ .empty ∧
        RunsTo (pageNumbers (s.page p) ++ pageNumbers (s.page p.other)) s.recordCounter

/-- The link that a held state belongs to (R16). -/
def holderOf : SlotState → Option LinkId
  | .inspecting => some .L1
  | .stamping => some .L3
  | .scrapping => some .L4
  | .free => none | .admitted => none | .awaitTest => none | .testing => none | .referred => none | .awaitStamp => none
  | .awaitScrap => none | .closed => none

/-- The roll is of a piece: the carrier index and the slots' carriers name each other (R7), a slot has a
holder exactly in a held state and a head holds exactly its mounted slot (R16, R17), the two queues hold
exactly the REFERRED and the CLOSED slots, each once (R21, R22), no two open slots carry one serial (R3), and
an open slot's type entry is LOADED at the slot's revision and of its kind (R4). -/
structure RollLaw (s : State) : Prop where
  index : ∀ (i : Fin 255) k, s.index[i] = some k ↔ (s.slot k).carrier = some (i.val + 1)
  carrierRange : ∀ k c, (s.slot k).carrier = some c → 1 ≤ c ∧ c ≤ 255
  bound : ∀ k, (s.slot k).carrier.isSome = (s.slot k).state.isOpen
  linkHolder : ∀ k l, (s.slot k).holder = some (.link l) ↔ holderOf (s.slot k).state = some l
  headHolder : ∀ k, (∃ h, (s.slot k).holder = some (.head h)) ↔ (s.slot k).state = .testing
  mounted : ∀ h k, (s.slot k).holder = some (.head h) ↔ ∃ c, (s.head h).mount = some ⟨k, c⟩
  mountCarrier : ∀ h m, (s.head h).mount = some m → (s.slot m.slot).carrier = some m.carrier
  idle : ∀ h, (s.head h).mount = none ↔ (s.head h).phase = .idle
  referralOnce : s.referral.Nodup
  referral : ∀ k, k ∈ s.referral ↔ (s.slot k).state = .referred
  closingOnce : s.closingQueue.Nodup
  closing : ∀ k, k ∈ s.closingQueue ↔ (s.slot k).state = .closed
  identity : ∀ k, (s.slot k).ident.isSome ↔ (s.slot k).state ≠ .free
  record : ∀ k, (s.slot k).closing.isSome ↔ (s.slot k).state = .closed
  serials : ∀ j k i i', (s.slot j).state.isOpen = true → (s.slot k).state.isOpen = true →
    (s.slot j).ident = some i → (s.slot k).ident = some i' → i.serial = i'.serial → j = k
  types : ∀ k i, (s.slot k).state.isOpen = true → (s.slot k).ident = some i →
    ∃ t, (s.typeEntry i.typeIdx).loaded = some t ∧ t.rev = i.typeRev ∧ t.fields.proving = i.proving

/-- The outcome written in a slot's test record. -/
def outcomeOf (x : Slot) : Option TestOutcome := x.test.bind TestRecord.outcome

/-- A head that has begun its test: in flight or in DONE. -/
def begun (p : Phase) : Prop := p ≠ .idle ∧ p ≠ .mounted

/-- What a slot's state says of its worst severity and of its last outcome: only a PASS below CONDEMN waits to
be stamped or is stamped, only a CONDEMN waits to be scrapped or is scrapped, and a proving slot holds no
finding's severity and takes part in testing alone (R10, R12, R13, R150). -/
structure VerdictLaw (s : State) : Prop where
  clean : ∀ k, (s.slot k).state = .awaitTest ∨ (s.slot k).state = .referred → (s.slot k).worst ≠ .condemn
  stamp : ∀ k, (s.slot k).state = .awaitStamp ∨ (s.slot k).state = .stamping →
    (s.slot k).worst ≠ .condemn ∧ outcomeOf (s.slot k) = some .pass
  scrap : ∀ k, (s.slot k).state = .awaitScrap ∨ (s.slot k).state = .scrapping → (s.slot k).worst = .condemn
  recorded : ∀ h m, (s.head h).mount = some m → begun (s.head h).phase → (s.slot m.slot).test.isSome = true
  inTest : ∀ h m, (s.head h).mount = some m → (s.head h).phase ≠ .done → (s.slot m.slot).worst ≠ .condemn
  done : ∀ h m, (s.head h).mount = some m → (s.head h).phase = .done →
    ((s.slot m.slot).worst = .condemn ↔ outcomeOf (s.slot m.slot) = some .condemn)
  proving : ∀ k, (s.slot k).isProving = true →
    (s.slot k).worst = .none ∧
      ((s.slot k).state = .awaitTest ∨ (s.slot k).state = .testing ∨ (s.slot k).state = .closed)

/-- A closing record whose outcome and worst severity agree: SCRAPPED exactly for CONDEMN, and STAMPED only
after a PASS (R13, R156). -/
def RecordSound (r : ClosingRecord) : Prop :=
  (r.outcome = .scrapped ↔ r.cylinder.worst = .condemn) ∧
    (r.outcome = .stamped → r.cylinder.test.bind TestRecord.outcome = some .pass)

/-- Every closing record, waiting or on a page, is sound (R156). -/
def RecordsLaw (s : State) : Prop :=
  (∀ k c, (s.slot k).closing = some c → RecordSound c) ∧ ∀ p r, r ∈ (s.page p).records → RecordSound r.record

/-- The closing queue is empty whenever a page is FILLING (R163, R168). -/
def DrainLaw (s : State) : Prop := s.fillingPage ≠ none → s.closingQueue = []

/-- The five statistics stay in their range (R126, R128). -/
structure StatsSound (x : Stats) : Prop where
  begun : x.begun.n ≤ 65535
  passed : x.passed.n ≤ 65535
  condemned : x.condemned.n ≤ 65535
  invalid : x.invalid.n ≤ 65535
  losses : x.losses.n ≤ 65535

/-- The working items of a head are present exactly in the phases that R62 gives, and stay in the ranges that do not
depend on the type. In DONE they stand as the test left them, so T implies a ripple, and a ripple a zero; what the
counts hold there is R62's. A live reading without a value so far stands at 0 (R63). -/
structure HeadSound (x : Head) : Prop where
  pressures : x.pressures.isSome ↔ x.phase ≠ .idle ∧ x.phase ≠ .mounted
  zAbsent : x.phase ∈ [.idle, .mounted, .zeroing] → x.z = none
  zPresent : x.phase ∈ [.ramp, .hold, .tail, .release, .settle] → x.z ≠ none
  rippleAbsent : x.phase ∈ [.idle, .mounted, .zeroing, .ramp] → x.ripple = none
  ripplePresent : x.phase ∈ [.hold, .tail, .release, .settle] → x.ripple ≠ none
  tAbsent : x.phase ∈ [.idle, .mounted, .zeroing, .ramp, .hold, .tail] → x.t = none
  tPresent : x.phase ∈ [.release, .settle] → x.t ≠ none
  formed : (x.t ≠ none → x.ripple ≠ none) ∧ (x.ripple ≠ none → x.z ≠ none)
  phaseCount : x.phase ∈ [.idle, .mounted, .hold, .tail] → x.phaseCount = 0
  holdCount : x.phase ∈ [.idle, .mounted, .zeroing, .ramp] → x.holdCount = 0
  tailCount : x.phase ∈ [.idle, .mounted, .zeroing, .ramp, .hold] → x.tailCount = 0
  runCount : (x.phase ∈ [.idle, .mounted, .zeroing, .hold, .tail, .settle] → x.runCount = 0) ∧ x.runCount ≤ 3
  lowRun : (x.phase ∈ [.idle, .mounted, .zeroing, .ramp, .release, .settle] → x.lowRun = 0) ∧ x.lowRun ≤ 5 ∧
    (x.phase ≠ .done → x.lowRun < 5)
  gather : x.phase ∈ [.idle, .mounted, .ramp, .hold, .tail, .release] → x.gather = []
  tWindow : x.phase ∈ [.idle, .mounted, .zeroing, .ramp] → x.tWindow = []
  lag : x.lag ≤ 15 ∧ x.tailCount ≤ x.lag ∧ (x.phase = .tail → x.tailCount < x.lag) ∧
    (x.phase ∈ [.release, .settle] → x.tailCount = x.lag)
  band : 1 ≤ x.band ∧ x.band ≤ 500
  live : x.livePressure.value ≤ 65000 ∧ x.liveJacket.value ≤ 65000 ∧ (x.livePressure.mark = .none → x.livePressure.value = 0) ∧
    (x.liveJacket.mark = .none → x.liveJacket.value = 0)
  stats : StatsSound x.live ∧ StatsSound x.snap

/-- The counts and windows of a head that holds a slot of type ty stay in the ranges that the type gives: the hold
count below H in HOLD, at H from TAIL on, at most H in DONE; the T window as long as the hold and tail counts
make it, and at most W; the gathering window short of W, and at most W in DONE (R62, R76); and the phase count short
of the limit of its phase, and at most the greatest limit in DONE (R72, R73, R79, R80). -/
structure HeadFits (x : Head) (ty : TypeFields) : Prop where
  hold : x.phase = .hold → x.holdCount < ty.holdSeconds * 10
  held : x.phase ∈ [.tail, .release, .settle] → x.holdCount = ty.holdSeconds * 10
  holdDone : x.holdCount ≤ ty.holdSeconds * 10
  tWindow : x.tWindow.length = min ty.w (x.holdCount + x.tailCount)
  gather : x.phase ≠ .done → x.gather.length < ty.w
  gatherDone : x.gather.length ≤ ty.w
  zeroing : x.phase = .zeroing → x.phaseCount < 600
  ramp : x.phase = .ramp → x.phaseCount < ty.rampLimit * 10
  release : x.phase = .release → x.phaseCount < 1200
  settle : x.phase = .settle → x.phaseCount < ty.settleLimit * 10
  phaseDone : x.phaseCount ≤ 6000

/-- Every head is sound, and fits the type of the slot that it holds (R62). -/
def HeadsLaw (s : State) : Prop :=
  ∀ h, HeadSound (s.head h) ∧
    ∀ m ty, (s.head h).mount = some m → s.typeOfSlot (s.slot m.slot) = some ty → HeadFits (s.head h) ty

/-- A station link is of a piece: its pending set holds each item once, and only items directed to it (R182); a
STOPPED link holds no item, keeps no timer, has no frame begun and has no answer awaited (R181); a receiver
inside a frame has no answer on its line (R178); no fault count is above 255 (R179). -/
structure LinkSound (l : LinkId) (k : Link) : Prop where
  once : k.pending.Nodup
  directed : ∀ n ∈ k.pending, l ∈ towards n.kind ∧ n ≠ .linkLost .L0
  stopped : k.state = .stopped →
    k.pending = [] ∧ k.timer = 0 ∧ k.rx = .hunting ∧ ∀ o, k.tx = some o → o.stage = .sending
  inFrame : k.rx = .inFrame → k.tx = none
  counts : ∀ f, k.counts.get f ≤ 255

/-- Every link is sound; L0 is RUNNING, being neither timed nor stopped (R180, R181); and a RUNNING link that is
timed is below the silence limit, when that is not 0 (R180). -/
structure LinksLaw (s : State) : Prop where
  sound : ∀ l, LinkSound l (s.link l)
  supervisor : (s.link .L0).state = .running
  timed : ∀ l, l ≠ .L0 → (s.link l).state = .running → s.limits.silence ≠ 0 → (s.link l).timer < s.limits.silence

/-! ### What a request does to its own link -/

/-- Link l can take a frame: the unit has power, the link is not STOPPED, its receiver is not discarding, and
no answer is awaited or being sent (R173, R177, R178, R181). -/
structure CanTake (s : State) (l : LinkId) : Prop where
  powered : s.powered = true
  running : (s.link l).state ≠ .stopped
  listening : (s.link l).rx ≠ .discarding
  free : (s.link l).tx = none

/-- A good frame has been taken on link l: it is RUNNING, its receiver hunts, its timer is 0 (R173, R180). -/
def heard (s : State) (l : LinkId) : State :=
  { s with links := s.links.set l { s.links.get l with state := .running, rx := .hunting, timer := 0 } }

/-- An answer is awaited on link l: the code echoed, the status, the flags as they stand after the request, the
body (R174, R178). `Outgoing.begin` puts in the flags as they stand when it begins. -/
def answered (s : State) (l : LinkId) (code : Nat) (st : Status) (body : List Byte) : State :=
  { s with links := s.links.set l { s.links.get l with tx := some ⟨.awaited, code, st, (s.links.get l).flags, body⟩ } }

/-- A request refused on link l changes nothing but the link that took it (R174). -/
def refusedWith (s : State) (l : LinkId) (code : Nat) (st : Status) : State := answered (heard s l) l code st []

/-- The codes that a link admits, as R172 numbers them. -/
def admittedCodes : LinkId → List Nat
  | .L0 => [1, 2, 3, 4, 5, 6, 7, 8, 9, 10, 11, 12, 13, 14, 15]
  | .L1 => [1, 2, 3, 4, 5, 16, 17, 18, 19, 20, 21]
  | .L2 => [1, 2, 3, 4, 5, 22, 23, 24, 25, 26, 27, 28]
  | .L3 => [1, 2, 3, 4, 5, 29, 30, 21]
  | .L4 => [1, 2, 3, 4, 5, 31, 32, 21]
  | .L5 => [1, 2, 3, 4, 5, 33, 34, 35, 13, 36, 37, 38, 39, 40, 41, 15]

/-- The body bytes that a code takes, by the body table of R175; SET_MARK (36) takes its count byte and as many
characters as that byte says. -/
def bodyFits (code : Nat) (b : List Byte) : Bool :=
  if code = 36 then decide (b ≠ [] ∧ b.length = 1 + (b.headD 0).toNat)
  else
    decide (b.length =
      [0, 0, 6, 1, 3, 0, 2, 1, 1, 1, 1, 0, 4, 3, 0, 25, 1, 6, 3, 1, 1, 18, 2, 1, 1, 1, 4, 1, 1, 1, 1, 2, 32, 1, 1, 0, 6, 1,
        4, 0, 0].getD (code - 1) 0)

/-! ### Notices and conditions -/

/-- An item added to the set of one link, unless the link is STOPPED (R182). -/
def noted (n : Notice) (k : Link) : Link :=
  if k.state = .stopped then k else { k with pending := withNotice n k.pending }

/-- What the report of a condition does to one link: a change to true adds the item, a change to false adds
it for a selection of BOTH (R183). -/
def reported (c : Condition) (was now : Bool) (l : LinkId) (k : Link) : Link :=
  if was ≠ now ∧ l ∈ towards c.notice.kind ∧ (now = true ∨ k.edges.getLsbD c.edgeBit = true) then noted c.notice k else k

/-! ### The bytes of an answer's items, as R175 and R176 send them

The widths and positions that R175 leaves to inference are the model's (notes/assumptions/10.md to 13.md). -/

/-- A number in one byte. -/
def sent1 (n : Nat) : List Byte := [BitVec.ofNat 8 n]

/-- A number in two bytes, most significant first. -/
def sent2 (n : Nat) : List Byte := sent1 (n / 256) ++ sent1 n

/-- A number in four bytes, most significant first. -/
def sent4 (n : Nat) : List Byte := sent2 (n / 65536) ++ sent2 n

/-- A signed number in four bytes, two's complement. -/
def sentSigned (n : Int) : List Byte := sent4 (BitVec.ofInt 32 n).toNat

/-- A yes-or-no item: 1 for yes. -/
def sentYes (p : Prop) [Decidable p] : List Byte := sent1 (if p then 1 else 0)

/-- An enumerated item: its place in the handbook's list, from 1. -/
def sentPlace {α : Type} [DecidableEq α] (xs : List α) (x : α) : List Byte := sent1 (xs.idxOf x + 1)

/-- An item of n bytes that may be absent: zeros then. -/
def sentOr {α : Type} (n : Nat) (f : α → List Byte) (x : Option α) : List Byte := (x.map f).getD (List.replicate n 0)

/-- A text padded with spaces on the right. -/
def sentText (n : Nat) (t : Text) : List Byte := t ++ List.replicate (n - t.length) 0x20

/-- A date: year − 2000, month, day. -/
def sentDate (d : Date) : List Byte := sent1 (d.year - 2000) ++ sent1 d.month ++ sent1 d.day

/-- A month: year − 2000, month. -/
def sentMonth (m : YearMonth) : List Byte := sent1 (m.year - 2000) ++ sent1 m.month

/-- A severity: NOTE 1, REFER 2, CONDEMN 3, with 0 for NONE. -/
def sentSeverity (v : Severity) : List Byte := sent1 ([Severity.none, .note, .refer, .condemn].idxOf v)

/-- A finding: code; severity, source and value-present in one byte; value. -/
def sentFinding (f : Finding) : List Byte :=
  sent1 f.code ++
    sent1 ([Severity.none, .note, .refer, .condemn].idxOf f.severity +
      4 * ([Source.inspection, .unit, .supervisor].idxOf f.source + 1) + (if f.value = none then 0 else 16)) ++
    sentOr 2 sent2 f.value

/-- A test's outcome and its two reasons. -/
def sentOutcome (r : TestRecord) : List Byte :=
  let reason := sentPlace
    [Reason.permanent, .elastic, .overpressure, .zeroFault, .zeroTimeout, .rampTimeout, .pressureLoss, .releaseTimeout,
      .settleTimeout, .repressurised, .noExpansion, .sensor, .aborted, .reset]
  sentOr 1 (sentPlace [TestOutcome.pass, .condemn, .invalid, .proved, .notProved]) r.outcome ++
    sentOr 1 reason r.reasons[0]? ++ sentOr 1 reason r.reasons[1]?

/-- Five counters, then their five saturated marks. -/
def sentStats (x : Stats) : List Byte :=
  let counters := [x.begun, x.passed, x.condemned, x.invalid, x.losses]
  (counters.flatMap fun c => sent2 c.n) ++ counters.flatMap fun c => sentYes (c.saturated = true)

/-- The five error flags in one byte, lowest bit first, and the five counts, in the order of the flags
(notes/assumptions/13.md). -/
def sentFaults (k : Link) : List Byte :=
  let bit (b : Bool) (n : Nat) : Nat := if b = true then n else 0
  sent1 (bit k.flags.parity 1 + bit k.flags.framing 2 + bit k.flags.check 4 + bit k.flags.fragment 8 + bit k.flags.overrun 16) ++
    [k.counts.parity, k.counts.framing, k.counts.check, k.counts.fragment, k.counts.overrun].flatMap sent1

/-! ### Figures of a test -/

/-- A head whose test is in flight on slot k under type ty (R62, R85). -/
structure TestOn (s : State) (h : HeadId) (k : SlotId) (c : Nat) (ty : TypeFields) (ps : Pressures) : Prop where
  powered : s.powered = true
  mount : (s.head h).mount = some ⟨k, c⟩
  type : s.typeOfSlot (s.slot k) = some ty
  pressures : (s.head h).pressures = some ps

end Sys2Proof.Safety
end

