-- ==== Sys2Proof/Certificates/Slice0/Obligations.lean ====
section
/-! DEFINITION. The statements for the provers. Each is about the model alone, over every state that meets its
hypotheses; a request's effect is written as the whole next state, so its frame is in the equation. That an
answer awaited begins on an empty queue is the model's choice (notes/assumptions/4.md). Where the bytes of an
answer are spelled out, the positions, widths and padding that R175 leaves to inference are the model's
(notes/assumptions/10.md to 13.md), and so is the code of a character, ASCII (notes/assumptions/22.md). -/

open Sys2Proof Sys2Proof.Machine Sys2Proof.Safety

/-! ### Steps, power and reset -/

/-- A step carries out the command at the front of the queue on the unit with the rest of the queue. On an
empty queue the unit idles: with power, every answer that is awaited begins, opening with its link's error flags as they
stand at that moment, one being sent stands, and nothing else changes. The moment, and with it the flags, are
the model's choice (notes/assumptions/2.md and 4.md). -/
def Obligations.StepTakesFrontCommand : Prop :=
  (∀ (s : State) (c : Instr) (rest : List Instr), s.pending = c :: rest → step s = exec c { s with pending := rest }) ∧
    ∀ s : State, s.pending = [] → ∃ t, step s = .next t ∧ t = { s with links := t.links } ∧
      ∀ l, t.link l =
        if s.powered = true then
          { s.link l with
            tx := (s.link l).tx.map fun o =>
              if o.stage = .awaited then ⟨.sending, { o.answer with flags := (s.link l).flags }⟩ else o }
        else s.link l

/-- Every command, in every state, answers a next state and leaves the queue as it was: none faults, none is
refused. -/
def Obligations.EveryCommandCompletes : Prop :=
  ∀ (c : Instr) (s : State), ∃ t, exec c s = .next t ∧ t.pending = s.pending

/-- The state of reset holds the factory store, and meets every law. That reset is the factory's first start is
the model's reading (notes/assumptions/15.md), and that the four dashes are ASCII its choice
(notes/assumptions/22.md). -/
def Obligations.ResetIsFactoryStartAndLawful : Prop :=
  (∀ i, State.reset.typeEntry i = ⟨none, 0⟩) ∧ State.reset.mark = [0x2D, 0x2D, 0x2D, 0x2D] ∧
    State.reset.limits = ⟨480, 200, 10, .onDate⟩ ∧ State.reset.recordCounter = 1 ∧
    State.reset.pageA = ⟨.filling, [], none⟩ ∧ State.reset.pageB = ⟨.empty, [], none⟩ ∧ State.reset.presented = none ∧
    PermitLaw State.reset ∧ AllowanceLaw State.reset ∧ TypesLaw State.reset ∧ PagesLaw State.reset ∧
    RollLaw State.reset ∧ VerdictLaw State.reset ∧ RecordsLaw State.reset ∧ DrainLaw State.reset ∧
    HeadsLaw State.reset ∧ LinksLaw State.reset

/-- A power-on, from any state: the roll is empty, every head and link stands as the handbook gives, and what
the nonvolatile store holds is kept. That a powered unit starts likewise (notes/assumptions/5.md), and that a
link starts with no answer on it and its receiver hunting (notes/assumptions/15.md), are the model's. -/
def Obligations.PowerOnStartsTheUnit : Prop :=
  ∀ s : State, ∃ t, exec .powerOn s = .next t ∧ t.powered = true ∧
    (∀ k, t.slot k = Slot.empty) ∧ (∀ i : Fin 255, t.index[i] = none) ∧ t.referral = [] ∧ t.closingQueue = [] ∧
    (∀ c : Condition, c ≠ .exportBlocked → c.holds t = false) ∧
    (∀ h, t.head h =
      { phase := .idle, mount := none, pressures := none, phaseCount := 0, holdCount := 0, tailCount := 0, runCount := 0,
        lowRun := 0, gather := [], tWindow := [], ripple := none, z := none, t := none, livePressure := ⟨0, .none⟩,
        liveJacket := ⟨0, .none⟩, lag := 0, band := 20, permit := false, proving := none, live := Stats.zero,
        snap := Stats.zero }) ∧
    (∀ l, t.link l =
      { state := .running, rx := .hunting, tx := none, flags := ⟨false, false, false, false, false⟩,
        counts := ⟨0, 0, 0, 0, 0⟩, timer := 0, pending := [], enables := 0x3FF, edges := 0 }) ∧
    t.calendar = none ∧ t.manualDate = false ∧ t.snapHeader = none ∧ t.clock = 0 ∧
    t.types = s.types ∧ t.mark = s.mark ∧ t.limits = s.limits ∧ t.recordCounter = s.recordCounter ∧
    t.presented = s.presented ∧ t.pageB = s.pageB ∧ t.pending = s.pending ∧
    t.pageA = if s.pageA.state = .empty ∧ s.pageB.state = .empty then { s.pageA with state := .filling } else s.pageA

/-- A loss of power keeps the nonvolatile store alone; until a power-on no other command does anything, which
is the model's choice (notes/assumptions/5.md), and the power-on finds the store as it was. -/
def Obligations.PowerLossKeepsTheStore : Prop :=
  ∀ s : State, ∃ t, exec .powerLoss s = .next t ∧ t.powered = false ∧ t.types = s.types ∧ t.mark = s.mark ∧
    t.limits = s.limits ∧ t.recordCounter = s.recordCounter ∧ t.pageA = s.pageA ∧ t.pageB = s.pageB ∧
    t.presented = s.presented ∧ t.closingQueue = [] ∧ t.calendar = none ∧
    (∀ c : Instr, c ≠ .powerOn → c ≠ .powerLoss → exec c t = .next t) ∧ exec .powerOn t = exec .powerOn s

/-! ### Frames and links -/

/-- A request frame that its link does not take: without power or on a STOPPED link or to a discarding receiver
it does nothing; while an answer occupies the line it is an overrun, which sets the flag, raises the count and
discards the frame. The rows that name a frame whole make this the model's reading (notes/assumptions/4.md). -/
def Obligations.FrameNotTaken : Prop :=
  ∀ (i : Instr) (l : LinkId) (code : Nat) (b : List Byte) (s : State), encodeRequest i = some (l, code, b) →
    (s.powered = false → exec i s = .next s) ∧
    ((s.link l).state = .stopped ∨ (s.link l).rx = .discarding → exec i s = .next s) ∧
    (s.powered = true → (s.link l).state ≠ .stopped → (s.link l).rx = .hunting → (s.link l).tx ≠ none →
      exec i s = .next (s.updLink l fun k =>
        { k with
          rx := .discarding
          flags := { k.flags with overrun := true }
          counts := { k.counts with overrun := min (k.counts.overrun + 1) 255 } }))

/-- A good frame is checked for its role, then for its body's length; a frame that fails either is answered
with its code echoed and an empty body, and nothing else happens. A code that names no request is answered
ROLE. -/
def Obligations.RoleThenLengthRefused : Prop :=
  ∀ (s : State) (l : LinkId) (code : Nat) (b : List Byte), CanTake s l →
    (code ∉ admittedCodes l → exec (decodeRequest l code b) s = .next (refusedWith s l code .role)) ∧
    (code ∈ admittedCodes l → bodyFits code b = false →
      exec (decodeRequest l code b) s = .next (refusedWith s l code .length)) ∧
    (code = 0 ∨ 41 < code → exec (.unknownCode l code) s = .next (refusedWith s l code .role))

/-- Decoding the frame of a well-formed request gives the request back. -/
def Obligations.DecodeOfEncodeIsTheCommand : Prop :=
  ∀ (i : Instr) (l : LinkId) (f : List Byte), wellFormed i = true → encodeFrame i = some (l, f) → decodeFrame l f = some i

/-- A frame with a bad byte sum is CHECK, one with a length byte of 0 or above 250 is LENGTH_BYTE_FAULT, and
some frames written out from the handbook's layouts decode to their requests. -/
def Obligations.FramesDecodeToTheirRows : Prop :=
  (∀ (l : LinkId) (n : Byte) (rest : List Byte), 1 ≤ n.toNat → n.toNat ≤ 250 → rest.length = n.toNat + 1 →
    byteSum (n :: rest) % 256 ≠ 0 → decodeFrame l (0xC3 :: n :: rest) = some (.check l)) ∧
  (∀ (l : LinkId) (n : Byte) (rest : List Byte), n.toNat = 0 ∨ 250 < n.toNat →
    decodeFrame l (0xC3 :: n :: rest) = some (.lengthByteFault l n.toNat)) ∧
  decodeFrame .L3 [0xC3, 0x01, 0x01, 0xFE] = some (.status .L3 (.fields ())) ∧
  decodeFrame .L2 [0xC3, 0x03, 0x17, 0x01, 0x3E, 0xA7] = some (.mount .L2 (.fields ⟨1, 62⟩)) ∧
  decodeFrame .L5 [0xC3, 0x05, 0x27, 0x00, 0x00, 0x03, 0xF1, 0xE0] = some (.turnPage .L5 (.fields 1009)) ∧
  decodeFrame .L4 [0xC3, 0x03, 0x20, 0x17, 0x02, 0xC4] = some (.scrapped .L4 (.fields ⟨23, some .crush⟩))

/-- An answer frame opens with the start byte, length, code, status and flags, and its byte sum is a multiple
of 256. A record takes 133 bytes, with each field at its offset of R176, absent groups as zeros; a READ_PAGE
answer carries letter, count, first number, position and record, and has n = 143. How a head, a page letter, a
date and a text are sent is the model's (notes/assumptions/10.md to 12.md). -/
def Obligations.AnswerAndRecordLayout : Prop :=
  (∀ a : Answer, ∃ check : Byte,
    a.frame =
      [0xC3, BitVec.ofNat 8 (a.body.length + 3), BitVec.ofNat 8 a.code, BitVec.ofNat 8 ([Status.ok, .role, .length, .field,
        .noCarrier, .state, .notHolder, .held, .full, .duplicate, .bound, .noDate, .typeInUse, .noType, .headBusy, .unproved,
        .notCovered, .spent, .notWeighed, .weighed, .empty, .stale, .condemned, .self].idxOf a.status),
        BitVec.ofNat 8 (a.flags.parity.toNat + 2 * a.flags.framing.toNat + 4 * a.flags.check.toNat +
          8 * a.flags.fragment.toNat + 16 * a.flags.overrun.toNat)] ++ a.body ++ [check] ∧
    byteSum (a.frame.drop 1) % 256 = 0) ∧
  ∀ (number : Nat) (manual : Bool) (c : CylinderRecord) (cl : Option ClosingRecord),
    c.ident.serial.length ≤ 16 → c.typeName.length ≤ 8 → c.findings.length ≤ 8 →
    (∀ x, c.stamp = some x → x.line.length ≤ 12) →
    let one (n : Nat) : List Byte := [BitVec.ofNat 8 n]
    let two (n : Nat) : List Byte := one (n / 256) ++ one n
    let four (n : Nat) : List Byte := two (n / 65536) ++ two n
    let spaced (n : Nat) (x : Text) : Text := x ++ List.replicate (n - x.length) 0x20
    let date (d : Option Date) : List Byte := (d.map fun d => one (d.year - 2000) ++ one d.month ++ one d.day).getD [0, 0, 0]
    let month (m : YearMonth) : List Byte := one (m.year - 2000) ++ one m.month
    let severity (v : Severity) : Nat := match v with | .none => 0 | .note => 1 | .refer => 2 | .condemn => 3
    let source (v : Source) : Nat := match v with | .inspection => 1 | .unit => 2 | .supervisor => 3
    let head (h : HeadId) : Nat := match h with | .H0 => 0 | .H1 => 1 | .H2 => 2 | .H3 => 3
    let reason (r : Option Reason) : Nat := toPosition
      [.permanent, .elastic, .overpressure, .zeroFault, .zeroTimeout, .rampTimeout, .pressureLoss, .releaseTimeout,
        .settleTimeout, .repressurised, .noExpansion, .sensor, .aborted, .reset] r
    let bytes := recordBytes number manual c cl
    let part (offset size : Nat) : List Byte := (bytes.drop offset).take size
    let scrap := cl.bind ClosingRecord.scrapReason
    bytes.length = 133 ∧ part 0 4 = four number ∧
    part 4 1 = one (toPosition [.stamped, .scrapped, .withdrawn, .proving] (cl.map ClosingRecord.outcome)) ∧
    part 5 1 = one
      (manual.toNat + 2 * c.ident.proving.toNat + 4 * c.overflow.toNat + 8 * c.ree.isSome.toNat + 16 * c.weight.isSome.toNat +
        32 * c.test.isSome.toNat + 64 * c.stamp.isSome.toNat + 128 * scrap.isSome.toNat) ∧
    part 6 16 = spaced 16 c.ident.serial ∧ part 22 1 = one c.ident.typeIdx.val ∧ part 23 1 = one c.ident.typeRev ∧
    part 24 8 = spaced 8 c.typeName ∧ part 32 1 = one c.carrier ∧ part 33 3 = date (cl.bind ClosingRecord.closeDate) ∧
    part 36 2 = (c.made.map month).getD [0, 0] ∧ part 38 2 = two (c.tare.getD 0) ∧ part 40 2 = two (c.ree.getD 0) ∧
    part 42 4 = (c.weight.map fun w => two w.wm ++ two w.loss).getD [0, 0, 0, 0] ∧
    part 46 1 = one (severity c.worst) ∧ part 47 1 = one c.findings.length ∧
    (∀ i f, c.findings[i]? = some f → part (48 + 4 * i) 4 =
      one f.code ++ one (severity f.severity + 4 * source f.source + 16 * f.value.isSome.toNat) ++ two (f.value.getD 0)) ∧
    (∀ i, c.findings.length ≤ i → i < 8 → part (48 + 4 * i) 4 = [0, 0, 0, 0]) ∧
    part 80 1 = one c.attempts ∧ part 81 1 = one c.grants ∧
    (c.test = none → part 82 31 = List.replicate 31 0) ∧
    (∀ t, c.test = some t →
      part 82 1 = one (head t.head) ∧ part 83 1 = one t.attempt ∧ part 84 2 = two t.pa ∧ part 86 3 = date t.date ∧
      part 89 1 = one (toPosition [.pass, .condemn, .invalid, .proved, .notProved] t.outcome) ∧
      part 90 1 = one (reason t.reasons[0]?) ∧ part 91 1 = one (reason t.reasons[1]?) ∧
      part 92 1 = one
        (t.z.isSome.toNat + 2 * t.t.isSome.toNat + 4 * t.p.isSome.toNat + 8 * t.q.isSome.toNat + 16 * t.ripple.isSome.toNat +
          32 * t.star.toNat) ∧
      part 93 2 = two (t.z.getD 0) ∧ part 95 4 = four (BitVec.ofInt 32 (t.t.getD 0)).toNat ∧
      part 99 4 = four (BitVec.ofInt 32 (t.p.getD 0)).toNat ∧ part 103 2 = two (t.q.getD 0) ∧ part 105 2 = two (t.e.getD 0) ∧
      part 107 6 = (t.ripple.map fun r => two r.max ++ two r.min ++ two (r.max - r.min)).getD [0, 0, 0, 0, 0, 0]) ∧
    (c.stamp = none → part 113 14 = List.replicate 14 0) ∧
    (∀ x, c.stamp = some x → part 113 12 = spaced 12 x.line ∧ part 125 2 = month x.due) ∧
    part 127 1 = one (toPosition [.cut, .crush, .punch] c.method) ∧ part 128 1 = one (scrap.getD 0) ∧
    part 129 4 = ((cl.bind ClosingRecord.provingResult).map fun r =>
      one (if r.proved then 1 else 2) ++ one (head r.head) ++ two (r.pv.getD 0)).getD [0, 0, 0, 0] ∧
    ∀ (s : State) (p : PageId) (i : Nat),
      let items := readPageItems s p i ⟨number, manual, ⟨(cl.map ClosingRecord.outcome).getD .withdrawn,
        cl.bind ClosingRecord.closeDate, c, scrap, cl.bind ClosingRecord.provingResult⟩⟩
      items.length + 3 = 143 ∧
      items.take 7 = one (match p with | .A => 1 | .B => 2) ++ one (s.page p).records.length ++ four ((s.page p).first.getD 0) ++
        one i ∧
      (cl ≠ none → items.drop 7 = bytes)

/-- The requests on a link's own notices and flags: NOTICES returns and removes every pending item;
NOTICE_SETUP replaces the named bits when each names a kind (or a condition) directed to the link, and is
refused FIELD otherwise; CLEAR_ERRORS clears the named flags and answers the flags and the five counts. The
model's own: that CLEAR_ERRORS ignores the bits above OVERRUN (notes/assumptions/7.md), that NOTICES answers in
the order of the table of R182 (9.md), that the five counts come in the order of the flag byte,
that the flags come twice in the answer of CLEAR_ERRORS, and the four fields as sent in that of NOTICE_SETUP (13.md). -/
def Obligations.LinkRequestsAct : Prop :=
  ∀ (s : State) (l : LinkId), CanTake s l →
    exec (.notices l (.fields ())) s =
      .next (answered ((heard s l).updLink l fun k => { k with pending := [] }) l 2 .ok
        (sent1 (s.link l).pending.length ++ (s.link l).pending.flatMap fun n =>
          sentPlace [NoticeKind.holdDone, .testDone, .headUnproved, .stampReady, .scrapReady, .pageFinished, .linkLost,
            .referralWaiting, .registerFull, .exportBlocked] n.kind ++
          sent1 (match n with
            | .holdDone h | .testDone h | .headUnproved h => [HeadId.H0, .H1, .H2, .H3].idxOf h
            | .linkLost m => [LinkId.L0, .L1, .L2, .L3, .L4, .L5].idxOf m
            | _ => 0))) ∧
    (∀ a : NoticeSetupArgs,
      let named := (∀ i, a.enableNames.getLsbD i = true → ∃ k, NoticeKind.list[i]? = some k ∧ l ∈ towards k) ∧
        ∀ i, a.edgeNames.getLsbD i = true → ∃ c, allConditions[i]? = some c ∧ l ∈ towards c.notice.kind
      (named → ∃ en ed,
        exec (.noticeSetup l (.fields a)) s =
          .next (answered ((heard s l).updLink l fun k => { k with enables := en, edges := ed }) l 3 .ok
            (u16 a.enableNames.toNat ++ u16 a.enableValues.toNat ++ [a.edgeNames, a.edgeValues])) ∧
        (∀ i, en.getLsbD i = if a.enableNames.getLsbD i then a.enableValues.getLsbD i else (s.link l).enables.getLsbD i) ∧
        ∀ i, ed.getLsbD i = if a.edgeNames.getLsbD i then a.edgeValues.getLsbD i else (s.link l).edges.getLsbD i) ∧
      (¬ named → exec (.noticeSetup l (.fields a)) s = .next (refusedWith s l 3 .field))) ∧
    ∀ names : BitVec 8,
      let old := (s.link l).flags
      let kept : PerFault Bool :=
        ⟨old.parity && !names.getLsbD 0, old.framing && !names.getLsbD 1, old.check && !names.getLsbD 2,
          old.fragment && !names.getLsbD 3, old.overrun && !names.getLsbD 4⟩
      exec (.clearErrors l (.fields names)) s =
        .next (answered ((heard s l).updLink l fun k => { k with flags := kept }) l 4 .ok
          (sentFaults { s.link l with flags := kept }))

/-- What each fault on reception does to its link (10.3): on a STOPPED link, whatever its operands, nothing; on a hunting receiver of a
free line, on one inside a frame, on a line whose answer is awaited or being sent, and on a discarding receiver,
its effect on the receiver, the flags and the counts. Where a row comes in a state that its name does not fit,
what it does is the model's reading: an OVERRUN with no answer on the line is nothing, a row marked in-frame
brings its start byte, a frame on an occupied line is the overrun, and a fault while the receiver discards
counts where R177 speaks of characters (notes/assumptions/4.md and 7.md). -/
def Obligations.LinkFaultsAct : Prop :=
  ∀ (s : State) (l : LinkId), s.powered = true →
    let acts (f : Link → Link) : Host.Outcome State Fault Refusal := .next (s.updLink l f)
    let overran (k : Link) : Link := Link.fault .overrun { k with rx := .discarding }
    ((s.link l).state = .stopped →
      (∀ b, exec (.parity l b) s = .next s ∧ exec (.framing l b) s = .next s) ∧
      (∀ c : Byte, exec (.fragment l c) s = .next s) ∧ (∀ n, exec (.lengthByteFault l n) s = .next s) ∧
      exec (.check l) s = .next s ∧ exec (.overrun l) s = .next s ∧ exec (.gapOver20ms l) s = .next s) ∧
    ((s.link l).state ≠ .stopped →
      ((s.link l).rx ≠ .inFrame →
        exec (.parity l false) s = acts (Link.fault .parity) ∧ exec (.framing l false) s = acts (Link.fault .framing)) ∧
      ((s.link l).rx = .hunting → (s.link l).tx = none →
        exec (.parity l true) s = acts (fun k => Link.fault .parity { k with rx := .discarding }) ∧
        exec (.framing l true) s = acts (fun k => Link.fault .framing { k with rx := .discarding }) ∧
        (∀ c : Byte, exec (.fragment l c) s =
          acts (fun k => Link.fault .fragment { k with rx := if c = 0xC3 then .inFrame else .hunting })) ∧
        exec (.check l) s = acts (Link.fault .check)) ∧
      ((s.link l).rx = .inFrame → (s.link l).tx = none →
        (∀ b, exec (.parity l b) s = acts (fun k => Link.fault .parity { k with rx := .discarding }) ∧
          exec (.framing l b) s = acts (fun k => Link.fault .framing { k with rx := .discarding })) ∧
        (∀ c : Byte, exec (.fragment l c) s =
          acts (fun k => Link.fault .fragment { k with rx := if c = 0xC3 then .inFrame else .hunting })) ∧
        exec (.check l) s = acts (fun k => Link.fault .check { k with rx := .hunting })) ∧
      ((s.link l).rx ≠ .discarding → (s.link l).tx = none → ∀ n, exec (.lengthByteFault l n) s =
        acts (fun k => { k with rx := .discarding, tx := some ⟨.sending, 0, .length, k.flags, []⟩ })) ∧
      ((s.link l).rx = .hunting → (s.link l).tx ≠ none →
        exec (.overrun l) s = acts overran ∧ exec (.check l) s = acts overran ∧
        (∀ n, exec (.lengthByteFault l n) s = acts overran) ∧
        exec (.parity l true) s = acts (fun k => Link.fault .parity (overran k)) ∧
        exec (.framing l true) s = acts (fun k => Link.fault .framing (overran k)) ∧
        ∀ c : Byte, exec (.fragment l c) s =
          acts (fun k => if c = 0xC3 then overran (overran k) else { overran k with rx := .hunting })) ∧
      ((s.link l).tx = none → exec (.overrun l) s = .next s) ∧
      ((s.link l).rx = .hunting → exec (.gapOver20ms l) s = .next s) ∧
      ((s.link l).rx = .discarding →
        exec (.gapOver20ms l) s = acts (fun k => { k with rx := .hunting }) ∧ exec (.check l) s = .next s ∧
        exec (.overrun l) s = .next s ∧
        (∀ n, exec (.lengthByteFault l n) s = .next s) ∧
        exec (.parity l true) s = acts (Link.fault .parity) ∧ exec (.framing l true) s = acts (Link.fault .framing) ∧
        ∀ c : Byte, exec (.fragment l c) s =
          acts (fun k =>
            if c = 0xC3 then (if k.tx = none then { k with rx := .inFrame } else overran k) else { k with rx := .hunting })) ∧
      ((s.link l).rx = .inFrame → exec (.gapOver20ms l) s = acts (fun k => Link.fault .fragment { k with rx := .hunting }))) ∧
    ∀ (f : LinkFault) (k : Link),
      Link.fault f k = { k with flags := (Link.fault f k).flags, counts := (Link.fault f k).counts } ∧
        (Link.fault f k).flags = k.flags.set f true ∧
        (Link.fault f k).counts = k.counts.set f (if k.counts.get f < 255 then k.counts.get f + 1 else 255)

/-! ### Laws that every step keeps -/

/-- The pump permit line stays asserted exactly in RAMP, HOLD and TAIL. -/
def Obligations.StepKeepsPermitLaw : Prop := ∀ s t : State, PermitLaw s → step s = .next t → PermitLaw t

/-- The archive pages keep their combinations, their counts and their consecutive numbers; and the closing queue
stays empty whenever a page is FILLING. -/
def Obligations.StepKeepsPagesAndDrainLaws : Prop :=
  (∀ s t : State, PagesLaw s → step s = .next t → PagesLaw t) ∧
    ∀ s t : State, RollLaw s → DrainLaw s → step s = .next t → DrainLaw t

/-- The roll stays of a piece: index, holders, mounts, queues, serials and types agree. -/
def Obligations.StepKeepsRollLaw : Prop := ∀ s t : State, RollLaw s → step s = .next t → RollLaw t

/-- Only a PASS below CONDEMN waits to be stamped, and only a CONDEMN waits to be scrapped. -/
def Obligations.StepKeepsVerdictLaw : Prop :=
  ∀ s t : State, RollLaw s → VerdictLaw s → step s = .next t → VerdictLaw t

/-- The outcome and the worst severity agree in every closing record, waiting or on a page. -/
def Obligations.StepKeepsRecordsLaw : Prop :=
  ∀ s t : State, RollLaw s → VerdictLaw s → RecordsLaw s → step s = .next t → RecordsLaw t

/-- A slot's attempts never exceed 2 plus its grants, and its grants never exceed 253; every LOADED type entry
keeps its ranges and the revision of its last load. -/
def Obligations.StepKeepsAllowanceAndTypesLaws : Prop :=
  (∀ s t : State, AllowanceLaw s → step s = .next t → AllowanceLaw t) ∧
    ∀ s t : State, TypesLaw s → step s = .next t → TypesLaw t

/-- A head's working items stay present exactly in the phases of R62: the attempt pressures from BEGIN on, z
from RAMP, the ripple and the T window from HOLD, T from RELEASE. Each count stands in its own phases and stays in
its range: the hold count within H, the tail count within the lag, the phase count within the limit of its phase, the
runs within 3 and 5, the statistics within 65,535. The gathering window stays within W readings, and the T window
is as long as the readings counted in HOLD and TAIL make it, and at most W (which readings it holds is in
HoldAndTailPairs). The lag and settle band stay in their ranges. That a count or window is 0 or empty outside the
phases that keep it is the model's choice (notes/assumptions/8.md). -/
def Obligations.StepKeepsHeadsLaw : Prop :=
  ∀ s t : State, RollLaw s → TypesLaw s → HeadsLaw s → step s = .next t → HeadsLaw t

/-- The station links stay of a piece: L0 RUNNING, no item twice in a pending set or in the set of a link it is
not directed to, a STOPPED link without items, timer, begun frame or awaited answer, no frame begun on a line that
an answer occupies, no fault count above 255, and no timed RUNNING link at or above a silence limit that is not 0. -/
def Obligations.StepKeepsLinksLaw : Prop := ∀ s t : State, LinksLaw s → step s = .next t → LinksLaw t

/-- While an open slot refers to a type index, its entry is locked: no command changes or drops it, and a
LOAD_TYPE of it is refused TYPE_IN_USE, as is a DROP_TYPE of it, the entry being LOADED, as every entry that an open
slot of a lawful roll refers to is; when none does, both are accepted, the DROP_TYPE of a LOADED entry. Slots in
CLOSED and FREE lock nothing. -/
def Obligations.OpenSlotLocksItsType : Prop :=
  (∀ (c : Instr) (s t : State) (k : SlotId) (i : Identity), (s.slot k).state.isOpen = true → (s.slot k).ident = some i →
    exec c s = .next t → t.typeEntry i.typeIdx = s.typeEntry i.typeIdx) ∧
  (∀ x : SlotState, x.isOpen = true ↔ x ≠ .free ∧ x ≠ .closed) ∧
  ∀ s : State, CanTake s .L5 → ∀ i : TypeId,
    let held := ∃ k d, (s.slot k).state.isOpen = true ∧ (s.slot k).ident = some d ∧ d.typeIdx = i
    (held →
      (∀ a f, readTypeFields a = some (i, f) → exec (.loadType .L5 (.fields a)) s = .next (refusedWith s .L5 33 .typeInUse)) ∧
      ((s.typeEntry i).loaded ≠ none → exec (.dropType .L5 (.fields i.val)) s = .next (refusedWith s .L5 34 .typeInUse)) ∧
      (RollLaw s → (s.typeEntry i).loaded ≠ none)) ∧
    (¬ held →
      (∀ a f, readTypeFields a = some (i, f) → ∃ rev body, exec (.loadType .L5 (.fields a)) s =
        .next (answered ((heard s .L5).setType i ⟨some ⟨f, rev⟩, rev⟩) .L5 33 .ok body)) ∧
      ((s.typeEntry i).loaded ≠ none → ∃ body, exec (.dropType .L5 (.fields i.val)) s =
        .next (answered ((heard s .L5).setType i ⟨none, (s.typeEntry i).lastRev⟩) .L5 34 .ok body)))

/-- While a slot stays bound or CLOSED, no command lowers its worst severity, its attempts or its grants,
removes or changes a stored finding, clears its overflow mark, changes its weight record once written, or
changes its serial, type, revision, proving mark, manufacture month, stamped tare or REE. A CLOSED slot of a
lawful roll changes in nothing, closing record included, until it is FREE. -/
def Obligations.FindingsCountsAndClosedSlotsAreKept : Prop :=
  (∀ (c : Instr) (s t : State) (k : SlotId), (s.slot k).state ≠ .free → exec c s = .next t → (t.slot k).state ≠ .free →
    severityRank (s.slot k).worst ≤ severityRank (t.slot k).worst ∧ (s.slot k).findings <+: (t.slot k).findings ∧
      ((s.slot k).overflow = true → (t.slot k).overflow = true) ∧ (s.slot k).attempts ≤ (t.slot k).attempts ∧
      (s.slot k).grants ≤ (t.slot k).grants ∧ (t.slot k).ident = (s.slot k).ident ∧ (t.slot k).made = (s.slot k).made ∧
      (t.slot k).tare = (s.slot k).tare ∧ (t.slot k).ree = (s.slot k).ree ∧
      ((s.slot k).weight ≠ none → (t.slot k).weight = (s.slot k).weight)) ∧
  ∀ (c : Instr) (s t : State) (k : SlotId), RollLaw s → (s.slot k).state = .closed → exec c s = .next t →
    t.slot k = s.slot k ∨ t.slot k = Slot.empty

/-! ### Notices, conditions, closing and moving -/

/-- Each of the ten kinds is directed to its links and has its enable bit by its place in the table. Raising an item
adds it, once, to the set of each link of its kind that is not STOPPED, and does nothing else; a call line is asserted while its link is not STOPPED and holds an item of an enabled kind. -/
def Obligations.RaisedItemReachesItsLinks : Prop :=
  (towards .holdDone = [.L2] ∧ towards .testDone = [.L2] ∧ towards .headUnproved = [.L0, .L2] ∧ towards .stampReady = [.L3] ∧
    towards .scrapReady = [.L4] ∧ towards .pageFinished = [.L5] ∧ towards .linkLost = [.L0] ∧
    towards .referralWaiting = [.L0] ∧ towards .registerFull = [.L0, .L1] ∧ towards .exportBlocked = [.L0, .L5]) ∧
  (∀ k : NoticeKind, [NoticeKind.holdDone, .testDone, .headUnproved, .stampReady, .scrapReady, .pageFinished, .linkLost,
    .referralWaiting, .registerFull, .exportBlocked][kindBit k]? = some k ∧ NoticeKind.list[kindBit k]? = some k) ∧
  (∀ (n : Notice) (s : State),
    (∀ l, (raise n s).link l = if l ∈ towards n.kind then noted n (s.link l) else s.link l) ∧
      raise n s = { s with links := (raise n s).links }) ∧
  (∀ (n m : Notice) (p : List Notice), (m ∈ withNotice n p ↔ m = n ∨ m ∈ p) ∧ (withNotice n p).Nodup) ∧
  ∀ k : Link, k.callLine = true ↔
    (k.state = .running ∨ k.state = .lost) ∧ ∃ n ∈ k.pending, k.enables.getLsbD (kindBit n.kind) = true

/-- A change of the roll or the pages reports each of the three conditions that it changed to the links it is
directed to, by their edge selections, and does nothing else. The three are the referral queue not empty, no slot FREE
and no page FILLING, each with its notice and, in this order, its edge bit. -/
def Obligations.ConditionChangesAreReported : Prop :=
  (allConditions = [.referralWaiting, .registerFull, .exportBlocked] ∧ (∀ c : Condition, allConditions[c.edgeBit]? = some c) ∧
    Condition.referralWaiting.notice = .referralWaiting ∧ Condition.registerFull.notice = .registerFull ∧
    Condition.exportBlocked.notice = .exportBlocked) ∧
  (∀ s : State, (s.lowestFree = none ↔ ∀ k, (s.slot k).state ≠ .free) ∧
    (s.fillingPage = none ↔ s.pageA.state ≠ .filling ∧ s.pageB.state ≠ .filling)) ∧
  ∀ (f : State → State) (s : State),
    (∀ l, (reporting f s).link l =
      reported .exportBlocked (s.fillingPage.isNone) ((f s).fillingPage.isNone) l
        (reported .registerFull (s.lowestFree.isNone) ((f s).lowestFree.isNone) l
          (reported .referralWaiting (!s.referral.isEmpty) (!(f s).referral.isEmpty) l ((f s).link l)))) ∧
    reporting f s = { f s with links := (reporting f s).links }

/-- Closing a slot, before the pages take records: its record is composed as it stands, its holder and carrier
go, its outcome is set, its carrier is unbound, it leaves the referral queue, and it joins the closing
queue. -/
def Obligations.ClosingSetsTheSlotAside : Prop :=
  ∀ (k : SlotId) (o : ClosingOutcome) (i : Identity) (s : State), (s.slot k).ident = some i →
    let x := s.slot k
    let record : ClosingRecord :=
      { outcome := o, closeDate := s.calendar
        cylinder :=
          { ident := i, typeName := (((s.typeEntry i.typeIdx).loaded.map fun t => t.fields.name)).getD [],
            carrier := x.carrier.getD 0, made := x.made, tare := x.tare, ree := x.ree, weight := x.weight,
            findings := x.findings, overflow := x.overflow, worst := x.worst, attempts := x.attempts, grants := x.grants,
            test := x.test, stamp := x.stamp, method := x.method }
        scrapReason :=
          if o = .scrapped then
            some (((x.findings.filter fun f => decide (f.severity = .condemn)).head?.map Finding.code).getD 209)
          else none
        provingResult :=
          if o = .proving then
            x.test.map fun t => ⟨decide (t.outcome = some .proved), t.head, if t.outcome = some .proved then some t.pa else none⟩
          else none }
    ∃ u : State, closeSlot k o s = moveRecords u ∧
      u.slots = s.slots.set k.val
        { x with state := .closed, carrier := none, holder := none, outcome := some o, closing := some record } k.isLt ∧
      (∀ c : Fin 255, u.index[c] = if x.carrier = some (c.val + 1) then none else s.index[c]) ∧
      u.referral = (if x.state = .referred then s.referral.filter fun j => decide (j ≠ k) else s.referral) ∧
      u.closingQueue = s.closingQueue ++ [k] ∧
      (∀ l, u.link l = reported .referralWaiting (!s.referral.isEmpty) (!u.referral.isEmpty) l (s.link l)) ∧
      u = { s with
        slots := u.slots, index := u.index, referral := u.referral, closingQueue := u.closingQueue, links := u.links }

/-- Moving records: with no page FILLING, or nothing waiting, nothing moves; else the slot at the head of the
closing queue gives its record, numbered and marked, to the FILLING page, becomes FREE, and the moving goes
on; an eighth record finishes the page first. -/
def Obligations.RecordsMoveOntoTheFillingPage : Prop :=
  ∀ s : State, s.powered = true →
    exec .moveRecords s = .next (moveRecords s) ∧
    (s.fillingPage = none ∨ s.closingQueue = [] → exec .moveRecords s = .next s) ∧
    ∀ (p : PageId) (k : SlotId) (rest : List SlotId) (c : ClosingRecord),
      s.fillingPage = some p → s.closingQueue = k :: rest → (s.slot k).closing = some c →
      let old := s.page p
      let entered : State :=
        { s.setPage p
            { state := old.state, records := old.records ++ [⟨s.recordCounter, s.manualDate, c⟩]
              first := if old.records = [] then some s.recordCounter else old.first } with
          recordCounter := if s.recordCounter = 99999999 then 1 else s.recordCounter + 1 }
      let freed := reporting (fun s => { s.setSlot k Slot.empty with closingQueue := rest }) entered
      (old.records.length < 7 → exec .moveRecords s = exec .moveRecords freed) ∧
        (7 ≤ old.records.length → exec .moveRecords s = exec .moveRecords (finishPageOp p freed))

/-- STAMPED, SCRAPPED and WITHDRAW: the checks in their order, and the closing of the slot they complete. -/
def Obligations.CompletionsCloseTheSlot : Prop :=
  ∀ (s : State) (c : Nat) (k : SlotId), s.bound c = some k →
    (CanTake s .L3 →
      ((s.slot k).holder ≠ some (.link .L3) → exec (.stamped .L3 (.fields c)) s = .next (refusedWith s .L3 30 .notHolder)) ∧
      ((s.slot k).holder = some (.link .L3) →
        exec (.stamped .L3 (.fields c)) s =
          .next (answered (closeSlot k .stamped (heard s .L3)) .L3 30 .ok
            (u8 k.val ++ u8 1 ++ sentOr 14 (fun p => sentText 12 p.line ++ sentMonth p.due) (s.slot k).stamp)))) ∧
    (CanTake s .L4 → ∀ m : Option ScrapMethod,
      ((s.slot k).holder ≠ some (.link .L4) →
        exec (.scrapped .L4 (.fields ⟨c, m⟩)) s = .next (refusedWith s .L4 32 .notHolder)) ∧
      ((s.slot k).holder = some (.link .L4) →
        exec (.scrapped .L4 (.fields ⟨c, m⟩)) s = .next
          (match m with
          | none => refusedWith s .L4 32 .field
          | some d =>
            answered (closeSlot k .scrapped ((heard s .L4).setSlot k { s.slot k with method := some d })) .L4 32 .ok
              (u8 k.val ++ u8 2 ++ sentPlace [ScrapMethod.cut, .crush, .punch] d ++
                sent1 ((((s.slot k).findings.filter fun f => decide (f.severity = .condemn)).head?.map Finding.code).getD 209))))) ∧
    (CanTake s .L0 →
      ((s.slot k).holder ≠ none → exec (.withdraw .L0 (.fields c)) s = .next (refusedWith s .L0 8 .held)) ∧
      ((s.slot k).holder = none → (s.slot k).worst = .condemn →
        exec (.withdraw .L0 (.fields c)) s = .next (refusedWith s .L0 8 .condemned)) ∧
      ((s.slot k).holder = none → (s.slot k).worst ≠ .condemn →
        ((s.slot k).state ∉ [.admitted, .awaitTest, .referred, .awaitStamp] →
          exec (.withdraw .L0 (.fields c)) s = .next (refusedWith s .L0 8 .state)) ∧
        ((s.slot k).state ∈ [.admitted, .awaitTest, .referred, .awaitStamp] →
          exec (.withdraw .L0 (.fields c)) s =
            .next (answered (closeSlot k .withdrawn (heard s .L0)) .L0 8 .ok (u8 k.val ++ u8 3)))))

/-- A request that names a carrier bound to no slot is refused NO_CARRIER, carrier 0 included. A carrier is bound to
the slot that the carrier index holds for it, and only 1 to 255 are carriers of the index. -/
def Obligations.UnboundCarrierIsRefused : Prop :=
  (∀ (s : State) (c : Nat) (k : SlotId), s.bound c = some k ↔ ∃ i : Fin 255, i.val + 1 = c ∧ s.index[i] = some k) ∧
  ∀ (s : State) (c : Nat), s.bound c = none →
    s.bound 0 = none ∧
    (CanTake s .L0 → exec (.withdraw .L0 (.fields c)) s = .next (refusedWith s .L0 8 .noCarrier) ∧
      exec (.breakClaim .L0 (.fields c)) s = .next (refusedWith s .L0 9 .noCarrier)) ∧
    (CanTake s .L1 → exec (.claim .L1 (.fields c)) s = .next (refusedWith s .L1 17 .noCarrier) ∧
      (∀ n v m, exec (.finding .L1 (.fields ⟨c, n, v, m⟩)) s = .next (refusedWith s .L1 18 .noCarrier)) ∧
      (∀ w, exec (.weigh .L1 (.fields ⟨c, w⟩)) s = .next (refusedWith s .L1 19 .noCarrier)) ∧
      exec (.inspected .L1 (.fields c)) s = .next (refusedWith s .L1 20 .noCarrier)) ∧
    (CanTake s .L2 → ∀ h, h < 4 → exec (.mount .L2 (.fields ⟨h, c⟩)) s = .next (refusedWith s .L2 23 .noCarrier)) ∧
    (CanTake s .L3 → exec (.claimStamp .L3 (.fields c)) s = .next (refusedWith s .L3 29 .noCarrier) ∧
      exec (.stamped .L3 (.fields c)) s = .next (refusedWith s .L3 30 .noCarrier)) ∧
    (CanTake s .L4 → exec (.claimScrap .L4 (.fields c)) s = .next (refusedWith s .L4 31 .noCarrier) ∧
      ∀ m, exec (.scrapped .L4 (.fields ⟨c, m⟩)) s = .next (refusedWith s .L4 32 .noCarrier)) ∧
    ∀ l, l = .L1 ∨ l = .L3 ∨ l = .L4 → CanTake s l →
      exec (.release l (.fields c)) s = .next (refusedWith s l 21 .noCarrier)

/-! ### Reports -/

/-- STATUS, READ_STATS, HEAD_STATUS, READ_TYPE, LOOKUP, NEXT_REFERRAL and READ_PAGE: their checks in order, and
an answer of what they report, item by item (READ_PAGE's is in AnswerAndRecordLayout, as is the record's layout); they
change nothing else. The attempt number and pressures of a head are sent while it holds pressures, which StepKeepsHeadsLaw
puts from BEGIN to IDLE. The positions, widths and absent items that R175 leaves to inference are the model's
(notes/assumptions/10.md to 13.md). -/
def Obligations.ReportsChangeNothing : Prop :=
  (∀ s : State,
    let count (p : SlotState → Bool) : List Byte := sent1 ((List.finRange 48).filter fun k => p (s.slot k).state).length
    let page (p : Page) : List Byte := sentPlace [PageState.empty, .filling, .finished] p.state ++ sent1 p.records.length
    let heads := [HeadId.H0, .H1, .H2, .H3]
    let phase := sentPlace [Phase.idle, .mounted, .zeroing, .ramp, .hold, .tail, .release, .settle, .done]
    statusItems s =
      count (fun x => decide (x = .free)) ++ count (fun x => decide (x ≠ .free ∧ x ≠ .closed)) ++
      count (fun x => decide (x = .closed)) ++ sent1 s.referral.length ++ sent1 s.closingQueue.length ++
      sentYes (∀ k, (s.slot k).state ≠ .free) ++
      page s.pageA ++ page s.pageB ++ sentOr 1 (sentPlace [PageId.A, .B]) s.presented ++
      sentYes (s.pageA.state ≠ .filling ∧ s.pageB.state ≠ .filling) ++ sent4 s.recordCounter ++
      (heads.flatMap fun h => phase (s.head h).phase) ++ (heads.flatMap fun h => sentYes ((s.head h).proving ≠ none)) ++
      sentOr 3 sentDate s.calendar ++ sentYes (s.manualDate = true) ++ sentText 4 s.mark ++
      ([LinkId.L0, .L1, .L2, .L3, .L4, .L5].flatMap fun l =>
        sentPlace [LinkState.running, .lost, .stopped] (s.link l).state ++ sentFaults (s.link l)) ∧
    statsItems s =
      sentYes (s.snapHeader ≠ none) ++ sentOr 3 sentDate (s.snapHeader.bind SnapHeader.period) ++
      sentOr 4 (fun x => sent4 x.clock) s.snapHeader ++ (heads.flatMap fun h => sentStats (s.head h).snap) ∧
    (∀ h,
      let x := s.head h
      let record := x.mount.bind fun m => (s.slot m.slot).test
      let live (r : Live) : List Byte :=
        sent2 r.value ++ sent1 (match r.mark with | .good => 1 | .faulted => 2 | .none => 0)
      headStatusItems s h =
        phase x.phase ++ sentOr 2 (fun m => sent1 m.slot.val ++ sent1 m.carrier) x.mount ++
        sentOr 1 (fun r => sent1 r.attempt) (if x.pressures = none then none else record) ++
        sentOr 8 (fun p => sent2 p.pa ++ sent2 p.po ++ sent2 p.pl ++ sent2 p.pr) x.pressures ++
        sent2 x.phaseCount ++ sent1 x.runCount ++ sent2 x.holdCount ++ sent1 x.tailCount ++ sent1 x.lowRun ++
        sent1 x.gather.length ++ sentOr 2 sent2 x.z ++ sentOr 4 sentSigned x.t ++
        sentOr 4 (fun r => sent2 r.max ++ sent2 r.min) x.ripple ++
        sentOr 3 sentOutcome (if x.phase = .done then record else none) ++ live x.livePressure ++ live x.liveJacket ++
        sent1 (if x.permit = true then 1 else 2) ++ sent1 x.lag ++ sent2 x.band ++
        sent1 (if x.proving = none then 1 else 2) ++
        sentOr 8 (fun p => sent2 p.pv ++ sent4 p.provedAt ++ sent2 p.count) x.proving) ∧
    ∀ k,
      let x := s.slot k
      let name := (((x.ident.bind fun i => (s.typeEntry i.typeIdx).loaded).map fun t => t.fields.name)).getD []
      lookupItems s k =
        sent1 k.val ++
        sentPlace
          [SlotState.free, .admitted, .inspecting, .awaitTest, .testing, .referred, .awaitStamp, .stamping, .awaitScrap,
            .scrapping, .closed] x.state ++
        sent1 (match x.holder with
          | some (.link .L1) => 1 | some (.link .L3) => 2 | some (.link .L4) => 3
          | some (.head h) => 4 + heads.idxOf h | _ => 0) ++
        (if k ∈ s.referral then sent1 1 ++ sent1 (s.referral.idxOf k)
          else if k ∈ s.closingQueue then sent1 2 ++ sent1 (s.closingQueue.idxOf k) else sent1 0 ++ sent1 0) ++
        (if x.state = .free then []
          else match if x.state = .closed then x.closing else none with
            | some r => recordBytes 0 false r.cylinder (some r)
            | none => sentOr 0
              (fun i => recordBytes 0 false
                { ident := i, typeName := name, carrier := x.carrier.getD 0, made := x.made, tare := x.tare, ree := x.ree,
                  weight := x.weight, findings := x.findings, overflow := x.overflow, worst := x.worst,
                  attempts := x.attempts, grants := x.grants, test := x.test, stamp := x.stamp, method := x.method } none)
              x.ident) ∧
      referralItems s k =
        sent1 s.referral.length ++ sent1 k.val ++ sentOr 1 sent1 x.carrier ++
        sentOr 16 (fun i => sentText 16 i.serial) x.ident ++ sentOr 1 (fun i => sent1 i.typeIdx.val) x.ident ++
        sentOr 1 (fun i => sent1 i.typeRev) x.ident ++ sentOr 1 (fun i => sentYes (i.proving = true)) x.ident ++
        sent1 x.attempts ++ sent1 x.grants ++ sentSeverity x.worst ++ sent1 x.findings.length ++ sentYes (x.overflow = true) ++
        sentOr 9 (fun r => sentOutcome r ++ sent1 r.attempt ++ sent2 r.pa ++ sentOr 3 sentDate r.date) x.test) ∧
  (∀ (t : LoadedType) (inUse : Bool),
    let f := t.fields
    let raised := f.pt + f.pt * f.lr / 1000
    typeItems t inUse =
      sentText 8 f.name ++ sentYes (f.proving = true) ++ sent2 f.pt ++ sent1 f.holdSeconds ++ sent1 f.w ++ sent1 f.lp ++
      sent2 f.ree ++ sent1 f.lo ++ sent1 f.ld ++ sent1 f.lr ++ sent1 f.lw ++ sent1 f.lifeYears ++ sent1 f.interval ++
      sent1 f.ls ++ sent1 f.starInterval ++ sent2 f.rampLimit ++ sent2 f.settleLimit ++ sentOr 2 sent2 f.tn ++
      sentOr 1 sent1 f.lt ++ sent1 t.rev ++ sent2 (raised + raised * f.lo / 1000) ++ sentYes (inUse = true)) ∧
  ∀ s : State,
    (∀ l, CanTake s l →
      exec (.status l (.fields ())) s = .next (answered (heard s l) l 1 .ok (statusItems (heard s l)))) ∧
    (∀ l, l = .L0 ∨ l = .L5 → CanTake s l →
      exec (.readStats l (.fields ())) s = .next (answered (heard s l) l 15 .ok (statsItems s))) ∧
    (CanTake s .L2 → ∀ n,
      (4 ≤ n → exec (.headStatus .L2 (.fields n)) s = .next (refusedWith s .L2 28 .field)) ∧
      ∀ h, headNumber h = n →
        exec (.headStatus .L2 (.fields n)) s = .next (answered (heard s .L2) .L2 28 .ok (headStatusItems s h))) ∧
    (CanTake s .L5 → ∀ n,
      (32 ≤ n → exec (.readType .L5 (.fields n)) s = .next (refusedWith s .L5 35 .field)) ∧
      ∀ i : TypeId, i.val = n →
        exec (.readType .L5 (.fields n)) s = .next
          (match (s.typeEntry i).loaded with
          | none => answered (heard s .L5) .L5 35 .empty (u8 n ++ u8 (s.typeEntry i).lastRev)
          | some t => answered (heard s .L5) .L5 35 .ok (typeItems t (s.locked i)))) ∧
    (∀ l, CanTake s l → ∀ n,
      exec (.lookup l (.fields ⟨none, n⟩)) s = .next (refusedWith s l 5 .field) ∧
      (255 < n → exec (.lookup l (.fields ⟨some .carrier, n⟩)) s = .next (refusedWith s l 5 .field)) ∧
      (n ≤ 255 → s.bound n = none →
        exec (.lookup l (.fields ⟨some .carrier, n⟩)) s = .next (refusedWith s l 5 .noCarrier)) ∧
      (∀ k, s.bound n = some k →
        exec (.lookup l (.fields ⟨some .carrier, n⟩)) s = .next (answered (heard s l) l 5 .ok (lookupItems s k))) ∧
      (48 ≤ n → exec (.lookup l (.fields ⟨some .slot, n⟩)) s = .next (refusedWith s l 5 .field)) ∧
      ∀ k : SlotId, k.val = n →
        exec (.lookup l (.fields ⟨some .slot, n⟩)) s = .next (answered (heard s l) l 5 .ok (lookupItems s k))) ∧
    (CanTake s .L0 →
      (s.referral = [] → exec (.nextReferral .L0 (.fields ())) s = .next (refusedWith s .L0 6 .empty)) ∧
      ∀ k rest, s.referral = k :: rest →
        exec (.nextReferral .L0 (.fields ())) s = .next (answered (heard s .L0) .L0 6 .ok (referralItems s k))) ∧
    (CanTake s .L5 → ∀ i,
      (7 < i → exec (.readPage .L5 (.fields i)) s = .next (refusedWith s .L5 38 .field)) ∧
      (i ≤ 7 → s.presented = none → exec (.readPage .L5 (.fields i)) s = .next (refusedWith s .L5 38 .empty)) ∧
      ∀ p, i ≤ 7 → s.presented = some p →
        ((s.page p).records.length ≤ i → exec (.readPage .L5 (.fields i)) s = .next (refusedWith s .L5 38 .field)) ∧
        ∀ r, (s.page p).records[i]? = some r →
          exec (.readPage .L5 (.fields i)) s = .next (answered (heard s .L5) .L5 38 .ok (readPageItems s p i r)))

/-! ### Statistics -/

/-- Over every command, each live counter of a head is raised at its own event and at no other, and a counter found
at 65,535 by its event stays there and its saturated mark becomes yes, the other marks untouched: "begun" at a BEGIN
that starts a test; "passed", "condemned" and "invalid" at the entry into DONE of an ordinary slot with that outcome,
"invalid" also when a line reset ends an ordinary test; "losses" at an end by PRESSURE_LOSS. Or the command takes a
snapshot, which copies all five with their marks and starts them from zero, marks no. A power-on sets them to zero,
marks no. -/
def Obligations.LiveCountersSaturateUntilASnapshot : Prop :=
  let up (c : Counter) : Counter := if c.n = 65535 then ⟨65535, true⟩ else ⟨c.n + 1, c.saturated⟩
  let zero : Stats := ⟨⟨0, false⟩, ⟨0, false⟩, ⟨0, false⟩, ⟨0, false⟩, ⟨0, false⟩⟩
  (∀ c : Counter, c.raise = up c) ∧
  (∀ (s t : State) (h : HeadId), exec .powerOn s = .next t → (t.head h).live = zero) ∧
  ∀ (i : Instr) (s t : State) (h : HeadId), RollLaw s → VerdictLaw s → i ≠ .powerOn → i ≠ .powerLoss → exec i s = .next t →
    let x := s.head h
    let y := t.head h
    let ended := x.phase.inFlight = true ∧ y.phase = .done
    let ordinary := (x.mount.map fun m => (s.slot m.slot).isProving) = some false
    let record := x.mount.bind fun m => (t.slot m.slot).test
    let outcome := record.bind TestRecord.outcome
    let moved (event : Prop) (c d : Counter) : Prop := (event → d = up c) ∧ (¬ event → d = c)
    (y.snap = x.live ∧ y.live = zero ∧ ((∃ l b, i = .snapshot l b) ∨ ∃ l b, i = .setDate l b)) ∨
    (y.snap = x.snap ∧
      moved (x.phase = .mounted ∧ y.phase = .zeroing) x.live.begun y.live.begun ∧
      moved (ended ∧ ordinary ∧ outcome = some .pass) x.live.passed y.live.passed ∧
      moved (ended ∧ ordinary ∧ outcome = some .condemn) x.live.condemned y.live.condemned ∧
      moved (ordinary ∧ (ended ∧ outcome = some .invalid ∨ x.phase.inFlight = true ∧ y.phase = .idle)) x.live.invalid
        y.live.invalid ∧
      moved (ended ∧ record.map TestRecord.reasons = some [.pressureLoss]) x.live.losses y.live.losses)

/-! ### The supervisor -/

/-- RULE: the checks in the order of R139, and the three rulings on a REFERRED slot. That a RULE WITHDRAW of a
slot that is not REFERRED is answered STATE, as R139 and R144 have it, and not HELD (R13, R95) where it is held or
CONDEMNED (R13) where its worst severity is CONDEMN, follows from R8 and R10, by which a request makes its checks in the
order that its own chapter gives: the model's reading of the rules that differ (notes/assumptions/21.md). -/
def Obligations.RuleActsOnReferredSlots : Prop :=
  ∀ s : State, CanTake s .L0 →
    (∀ n r, 48 ≤ n → exec (.rule .L0 (.fields ⟨n, r⟩)) s = .next (refusedWith s .L0 7 .field)) ∧
    ∀ k : SlotId,
      let x := s.slot k
      let left := reporting (fun s => { s with referral := s.referral.filter fun j => decide (j ≠ k) }) (heard s .L0)
      exec (.rule .L0 (.fields ⟨k.val, none⟩)) s = .next (refusedWith s .L0 7 .field) ∧
      (∀ r, x.state ≠ .referred → exec (.rule .L0 (.fields ⟨k.val, some r⟩)) s = .next (refusedWith s .L0 7 .state)) ∧
      (x.state = .referred →
        (x.grants = 253 → exec (.rule .L0 (.fields ⟨k.val, some .retest⟩)) s = .next (refusedWith s .L0 7 .field)) ∧
        (x.grants ≠ 253 →
          exec (.rule .L0 (.fields ⟨k.val, some .retest⟩)) s =
            .next (answered
              (left.setSlot k { x with state := .awaitTest, holder := none, grants := x.grants + 1 }) .L0 7 .ok
              (u8 k.val ++ u8 4 ++ u8 (x.grants + 1)))) ∧
        exec (.rule .L0 (.fields ⟨k.val, some .condemn⟩)) s =
          .next (answered
            (raise .scrapReady
              (left.setSlot k
                { x.post ⟨205, .condemn, .supervisor, none⟩ with state := .awaitScrap, holder := none })) .L0 7 .ok
            (u8 k.val ++ u8 9 ++ u8 x.grants)) ∧
        (x.holder ≠ none → exec (.rule .L0 (.fields ⟨k.val, some .withdraw⟩)) s = .next (refusedWith s .L0 7 .held)) ∧
        (x.holder = none → x.worst = .condemn →
          exec (.rule .L0 (.fields ⟨k.val, some .withdraw⟩)) s = .next (refusedWith s .L0 7 .condemned)) ∧
        (x.holder = none → x.worst ≠ .condemn →
          exec (.rule .L0 (.fields ⟨k.val, some .withdraw⟩)) s =
            .next (answered (closeSlot k .withdrawn (heard s .L0)) .L0 7 .ok (u8 k.val ++ u8 11 ++ u8 x.grants))))

/-- RELEASE and BREAK_CLAIM give a link's claim up: the slot returns to the state it was claimed from, without
a holder, and AWAIT_STAMP and AWAIT_SCRAP raise their notices; a slot that the sender does not hold is refused
NOT_HOLDER, one held by a head HELD, one held by none STATE. -/
def Obligations.ClaimsAreGivenUp : Prop :=
  ∀ (s : State) (c : Nat) (k : SlotId), s.bound c = some k →
    let x := s.slot k
    (∀ l, l = .L1 ∨ l = .L3 ∨ l = .L4 → CanTake s l →
      (x.holder ≠ some (.link l) → exec (.release l (.fields c)) s = .next (refusedWith s l 21 .notHolder)) ∧
      (x.holder = some (.link l) →
        (x.state = .inspecting →
          exec (.release l (.fields c)) s =
            .next (answered ((heard s l).setSlot k { x with state := .admitted, holder := none }) l 21 .ok [])) ∧
        (x.state = .stamping →
          exec (.release l (.fields c)) s =
            .next (answered (raise .stampReady ((heard s l).setSlot k { x with state := .awaitStamp, holder := none })) l 21
              .ok [])) ∧
        (x.state = .scrapping →
          exec (.release l (.fields c)) s =
            .next (answered (raise .scrapReady ((heard s l).setSlot k { x with state := .awaitScrap, holder := none })) l 21
              .ok [])))) ∧
    (CanTake s .L0 →
      (x.holder = none → exec (.breakClaim .L0 (.fields c)) s = .next (refusedWith s .L0 9 .state)) ∧
      (∀ h, x.holder = some (.head h) → exec (.breakClaim .L0 (.fields c)) s = .next (refusedWith s .L0 9 .held)) ∧
      ∀ l, x.holder = some (.link l) →
        (x.state = .inspecting →
          exec (.breakClaim .L0 (.fields c)) s =
            .next (answered ((heard s .L0).setSlot k { x with state := .admitted, holder := none }) .L0 9 .ok
              (u8 k.val ++ u8 (linkNumber l) ++ u8 2))) ∧
        (x.state = .stamping →
          exec (.breakClaim .L0 (.fields c)) s =
            .next (answered (raise .stampReady ((heard s .L0).setSlot k { x with state := .awaitStamp, holder := none })) .L0 9
              .ok (u8 k.val ++ u8 (linkNumber l) ++ u8 7))) ∧
        (x.state = .scrapping →
          exec (.breakClaim .L0 (.fields c)) s =
            .next (answered (raise .scrapReady ((heard s .L0).setSlot k { x with state := .awaitScrap, holder := none })) .L0 9
              .ok (u8 k.val ++ u8 (linkNumber l) ++ u8 9))))

/-- STOP_LINK drops every claim of the link, then clears its pending items, and changes no other link; an answer
being sent on it stays to be completed, one that is still awaited is not sent; STOP_LINK of L0 is refused SELF, of
a STOPPED link changes nothing; START_LINK makes a link RUNNING with its flags cleared. A dropped claim returns
INSPECTING to ADMITTED, STAMPING to AWAIT_STAMP and SCRAPPING to AWAIT_SCRAP. -/
def Obligations.LinksStopAndStart : Prop :=
  (SlotState.inspecting.returned = .admitted ∧ SlotState.stamping.returned = .awaitStamp ∧
    SlotState.scrapping.returned = .awaitScrap) ∧
  ∀ s : State, CanTake s .L0 →
    (∀ n, 6 ≤ n → exec (.stopLink .L0 (.fields n)) s = .next (refusedWith s .L0 10 .field) ∧
      exec (.startLink .L0 (.fields n)) s = .next (refusedWith s .L0 11 .field)) ∧
    exec (.stopLink .L0 (.fields 0)) s = .next (refusedWith s .L0 10 .self) ∧
    (∀ m, m ≠ .L0 → (s.link m).state = .stopped →
      exec (.stopLink .L0 (.fields (linkNumber m))) s = .next (answered (heard s .L0) .L0 10 .ok [])) ∧
    (∀ m, RollLaw s → m ≠ .L0 → (s.link m).state ≠ .stopped →
      ∃ t, exec (.stopLink .L0 (.fields (linkNumber m))) s = .next (answered t .L0 10 .ok []) ∧
        (∀ k, t.slot k =
          if (s.slot k).holder = some (.link m) then
            { s.slot k with state := (s.slot k).state.returned, holder := none }
          else s.slot k) ∧
        t.link m =
          { s.link m with
            state := .stopped, rx := .hunting, timer := 0, pending := []
            tx := (s.link m).tx.bind fun o => if o.stage = .sending then some o else none } ∧
        (∀ l, l ≠ m → t.link l = (heard s .L0).link l) ∧
        t = { s with slots := t.slots, links := t.links }) ∧
    ∀ m, exec (.startLink .L0 (.fields (linkNumber m))) s =
      .next (answered
        ((heard s .L0).updLink m fun k =>
          { k with state := .running, rx := .hunting, timer := 0, flags := ⟨false, false, false, false, false⟩ })
        .L0 11 .ok [])

/-- FORCE_NOTICE adds one item to the set of the link named; a link, kind or number out of range is refused
FIELD, a STOPPED link STATE. -/
def Obligations.ForcedNoticeIsAdded : Prop :=
  ∀ s : State, CanTake s .L0 →
    (∀ n kd num, 6 ≤ n → exec (.forceNotice .L0 (.fields ⟨n, kd, num⟩)) s = .next (refusedWith s .L0 14 .field)) ∧
    (∀ n num, exec (.forceNotice .L0 (.fields ⟨n, none, num⟩)) s = .next (refusedWith s .L0 14 .field)) ∧
    (∀ m kd num, m ∉ towards kd →
      exec (.forceNotice .L0 (.fields ⟨linkNumber m, some kd, num⟩)) s = .next (refusedWith s .L0 14 .field)) ∧
    (∀ m kd num, (kd = .holdDone ∨ kd = .testDone ∨ kd = .headUnproved) ∧ 4 ≤ num ∨ kd = .linkLost ∧ (num = 0 ∨ 6 ≤ num) →
      exec (.forceNotice .L0 (.fields ⟨linkNumber m, some kd, num⟩)) s = .next (refusedWith s .L0 14 .field)) ∧
    ∀ m n num, m ∈ towards n.kind → n ≠ .linkLost .L0 →
      (n.kind = .holdDone ∨ n.kind = .testDone ∨ n.kind = .headUnproved ∨ n.kind = .linkLost → noticeNumber n = num) →
      ((s.link m).state = .stopped →
        exec (.forceNotice .L0 (.fields ⟨linkNumber m, some n.kind, num⟩)) s = .next (refusedWith s .L0 14 .state)) ∧
      ((s.link m).state ≠ .stopped →
        exec (.forceNotice .L0 (.fields ⟨linkNumber m, some n.kind, num⟩)) s =
          .next (answered ((heard s .L0).updLink m (noted n)) .L0 14 .ok []))

/-! ### Line reset -/

/-- LINE_RESET is answered OK and resets nothing yet; the end of that answer takes the line reset, the end of
any other answer only frees the line, and the pushbutton takes a line reset at once. That the reset waits for
the ANSWER_SENT row is the model's reading (notes/assumptions/4.md). -/
def Obligations.LineResetFollowsItsAnswer : Prop :=
  ∀ s : State,
    (CanTake s .L0 → exec (.lineReset .L0 (.fields ())) s = .next (answered (heard s .L0) .L0 12 .ok [])) ∧
    (s.powered = true → exec .resetPushbutton s = .next (lineReset s) ∧
      ∀ l, let quiet := s.updLink l fun k => { k with tx := none }
        ((s.link l).tx = none → exec (.answerSent l) s = .next s) ∧
        ∀ o, (s.link l).tx = some o →
          (o.answer.code = 12 ∧ o.answer.status = .ok → exec (.answerSent l) s = .next (lineReset quiet)) ∧
          (¬ (o.answer.code = 12 ∧ o.answer.status = .ok) → exec (.answerSent l) s = .next quiet))

/-- A line reset leaves every head IDLE, its permit dropped, UNPROVED, an ordinary test in flight counted
invalid, its settings, statistics and live readings kept; every link RUNNING with its flags cleared, its
counts, enables and edges kept; HEAD_UNPROVED pending for each head that was PROVED, no HOLD_DONE, TEST_DONE or
LINK_LOST; and the line settings and the clock as they were. An answer on a link's line stands: R185 says so of one being
sent, and that one still awaited stands too is the model's choice (notes/assumptions/4.md). -/
def Obligations.LineResetClearsHeadsAndLinks : Prop :=
  ∀ s : State, RollLaw s →
    let t := lineReset s
    (∀ h, t.head h =
      { s.head h with
        phase := .idle, mount := none, pressures := none, phaseCount := 0, holdCount := 0, tailCount := 0, runCount := 0,
        lowRun := 0, gather := [], tWindow := [], ripple := none, z := none, t := none, permit := false, proving := none
        live :=
          if (s.head h).phase.inFlight = true ∧
              ((s.head h).mount.map fun m => (s.slot m.slot).isProving) = some false then
            { (s.head h).live with invalid := (s.head h).live.invalid.raise }
          else (s.head h).live }) ∧
    (∀ l, t.link l =
      { s.link l with
        state := .running, rx := .hunting, timer := 0, flags := ⟨false, false, false, false, false⟩
        pending := (t.link l).pending }) ∧
    (∀ h, (Notice.headUnproved h ∈ (t.link .L0).pending ↔ (s.head h).proving ≠ none) ∧
      (Notice.headUnproved h ∈ (t.link .L2).pending ↔ (s.head h).proving ≠ none) ∧
      Notice.holdDone h ∉ (t.link .L2).pending ∧ Notice.testDone h ∉ (t.link .L2).pending) ∧
    (∀ l, Notice.linkLost l ∉ (t.link .L0).pending) ∧
    t.types = s.types ∧ t.mark = s.mark ∧ t.limits = s.limits ∧ t.calendar = s.calendar ∧ t.manualDate = s.manualDate ∧
    t.snapHeader = s.snapHeader ∧ t.clock = s.clock ∧ t.powered = s.powered

/-- What a line reset does to each slot: a link's claim is dropped, a mounted slot returns to AWAIT_TEST, a
test in flight ends with RESET and its slot is routed, an outcome already written is applied, a proving slot
closes, and a slot that is neither held nor CLOSED stands as it was. The slots it refers join the tail of the
referral queue, and those it closes the tail of the closing queue, each in the order of their numbers; and
STAMP_READY, SCRAP_READY and REFERRAL_WAITING are pending after it exactly when it made a slot await stamping, made
one await scrapping, or made the empty referral queue non-empty. -/
def Obligations.LineResetRoutesHeldSlots : Prop :=
  (∀ (s : State) (k : SlotId), RollLaw s →
    let x := s.slot k
    let y := (lineReset s).slot k
    (∀ l, x.holder = some (.link l) → y = { x with state := x.state.returned, holder := none }) ∧
    (x.holder = none → x.state ≠ .closed → y = x) ∧
    ∀ h, x.holder = some (.head h) →
      ((s.head h).phase = .mounted → y = { x with state := .awaitTest, holder := none }) ∧
      (x.isProving = true → (s.head h).phase ≠ .mounted →
        (y.state = .closed ∧ y.outcome = some .proving) ∨ y = Slot.empty) ∧
      (x.isProving = false →
        (∀ r, (s.head h).phase.inFlight = true → x.test = some r →
          let ended : TestRecord := { r with outcome := some .invalid, reasons := [.reset], ripple := (s.head h).ripple }
          (x.attempts < 2 + x.grants → y = { x with state := .awaitTest, holder := none, test := some ended }) ∧
          (2 + x.grants ≤ x.attempts →
            y = { x.post ⟨206, .refer, .unit, some x.attempts⟩ with
                  state := .referred, holder := none, test := some ended } ∧
              k ∈ (lineReset s).referral)) ∧
        ((s.head h).phase = .done →
          (outcomeOf x = some .pass → y = { x with state := .awaitStamp, holder := none }) ∧
          (outcomeOf x = some .condemn → y = { x with state := .awaitScrap, holder := none }) ∧
          (outcomeOf x = some .invalid → x.attempts < 2 + x.grants → y = { x with state := .awaitTest, holder := none }) ∧
          (outcomeOf x = some .invalid → 2 + x.grants ≤ x.attempts →
            y = { x.post ⟨206, .refer, .unit, some x.attempts⟩ with state := .referred, holder := none })))) ∧
  ∀ s : State, RollLaw s →
    let t := lineReset s
    let heldAt (k : SlotId) (h : HeadId) : Prop := (s.slot k).holder = some (.head h)
    let judged (k : SlotId) (o : TestOutcome) : Prop :=
      ∃ h, heldAt k h ∧ (s.head h).phase = .done ∧ (s.slot k).isProving = false ∧ outcomeOf (s.slot k) = some o
    let invalid (k : SlotId) : Prop := judged k .invalid ∨
      ∃ h, heldAt k h ∧ (s.head h).phase.inFlight = true ∧ (s.slot k).isProving = false ∧ (s.slot k).test ≠ none
    let closes (k : SlotId) : Prop := (s.slot k).isProving = true ∧ ∃ h, heldAt k h ∧ (s.head h).phase ≠ .mounted
    (∃ new : List SlotId, t.referral = s.referral ++ new ∧ new.Pairwise (· < ·) ∧
      ∀ k, k ∈ new ↔ invalid k ∧ 2 + (s.slot k).grants ≤ (s.slot k).attempts) ∧
    (∃ new moved : List SlotId, s.closingQueue ++ new = moved ++ t.closingQueue ∧ new.Pairwise (· < ·) ∧
      (∀ k, k ∈ new ↔ closes k) ∧ ∀ k ∈ moved, t.slot k = Slot.empty) ∧
    (Notice.stampReady ∈ (t.link .L3).pending ↔ ∃ k, (s.slot k).holder = some (.link .L3) ∨ judged k .pass) ∧
    (Notice.scrapReady ∈ (t.link .L4).pending ↔ ∃ k, (s.slot k).holder = some (.link .L4) ∨ judged k .condemn) ∧
    (Notice.referralWaiting ∈ (t.link .L0).pending ↔ s.referral = [] ∧ t.referral ≠ [])

/-! ### Settings, calendar and statistics -/

/-- SET_DATE sets the calendar to a date of the calendar, sets the manual-date mark from L0, and takes a
snapshot first when the mode is ON_DATE and the date changes; a date that does not exist is refused FIELD.
SNAPSHOT takes a snapshot: the live counters pass into it and start from zero, under a header with the date
held and the unit clock; its answer carries the header and each head's five snapshot counters and marks, sent as the
model has it (notes/assumptions/11.md and 12.md). -/
def Obligations.DatesAndSnapshots : Prop :=
  (∀ s : State, statsItems s =
    sentYes (s.snapHeader ≠ none) ++ sentOr 3 sentDate (s.snapHeader.bind SnapHeader.period) ++
    sentOr 4 (fun x => sent4 x.clock) s.snapHeader ++
    ([HeadId.H0, .H1, .H2, .H3].flatMap fun h => sentStats (s.head h).snap)) ∧
  ∀ s : State,
    let passed (x : Head) : Head := { x with snap := x.live, live := Stats.zero }
    let taken (u : State) : State :=
      { u with
        heads := ⟨passed s.heads.h0, passed s.heads.h1, passed s.heads.h2, passed s.heads.h3⟩
        snapHeader := some ⟨s.calendar, s.clock⟩ }
    (CanTake s .L5 →
      exec (.snapshot .L5 (.fields ())) s =
        .next (answered (taken (heard s .L5)) .L5 41 .ok (statsItems (taken (heard s .L5))))) ∧
    ∀ l, l = .L0 ∨ l = .L5 → CanTake s l → ∀ y m d,
      let last := if m = 2 then (if y % 4 = 0 then 29 else 28) else if m ∈ [4, 6, 9, 11] then 30 else 31
      let real := 2000 ≤ y ∧ y ≤ 2099 ∧ 1 ≤ m ∧ m ≤ 12 ∧ 1 ≤ d ∧ d ≤ last
      let base := if s.limits.mode = .onDate ∧ s.calendar ≠ some ⟨y, m, d⟩ then taken (heard s l) else heard s l
      (¬ real → exec (.setDate l (.fields ⟨y, m, d⟩)) s = .next (refusedWith s l 13 .field)) ∧
      (real →
        exec (.setDate l (.fields ⟨y, m, d⟩)) s =
          .next (answered
            { base with calendar := some ⟨y, m, d⟩, manualDate := if l = .L0 then true else s.manualDate } l 13 .ok
            (dateBytes ⟨y, m, d⟩)))

/-- LOAD_TYPE and DROP_TYPE: the checks in order; a load gives the entry the fields and the next revision of
its index, a drop empties it and keeps the last revision. A load's fields are accepted exactly when the entry is
0 to 31, the name is one, the proving mark is yes or no, every field is in its range, Tn and Lt are 0 for an
ordinary type, and Po_max is below 65,000; how a name field reads is in AdmissionBindsTheLowestFreeSlot. -/
def Obligations.TypeEntriesLoadAndDrop : Prop :=
  (∀ s : State, CanTake s .L5 →
     (∀ a, readTypeFields a = none → exec (.loadType .L5 (.fields a)) s = .next (refusedWith s .L5 33 .field)) ∧
     (∀ a i f, readTypeFields a = some (i, f) →
       let rev := if (s.typeEntry i).lastRev = 255 then 1 else (s.typeEntry i).lastRev + 1
       (s.locked i = true → exec (.loadType .L5 (.fields a)) s = .next (refusedWith s .L5 33 .typeInUse)) ∧
       (s.locked i = false →
         exec (.loadType .L5 (.fields a)) s =
           .next (answered ((heard s .L5).setType i ⟨some ⟨f, rev⟩, rev⟩) .L5 33 .ok (u8 i.val ++ u8 rev)))) ∧
     (∀ n, 32 ≤ n → exec (.dropType .L5 (.fields n)) s = .next (refusedWith s .L5 34 .field)) ∧
     (∀ i : TypeId,
       let e := s.typeEntry i
       (e.loaded = none → exec (.dropType .L5 (.fields i.val)) s = .next (refusedWith s .L5 34 .empty)) ∧
       (e.loaded ≠ none → s.locked i = true →
         exec (.dropType .L5 (.fields i.val)) s = .next (refusedWith s .L5 34 .typeInUse)) ∧
       (e.loaded ≠ none → s.locked i = false →
         exec (.dropType .L5 (.fields i.val)) s =
           .next (answered ((heard s .L5).setType i ⟨none, e.lastRev⟩) .L5 34 .ok (u8 i.val ++ u8 e.lastRev)))) ∧
     ∀ i, s.locked i = true ↔
       ∃ k d, (s.slot k).state.isOpen = true ∧ (s.slot k).ident = some d ∧ d.typeIdx = i) ∧
  (∀ (a : LoadTypeArgs) (i : TypeId) (f : TypeFields),
     readTypeFields a = some (i, f) ↔
       i.val = a.index ∧ readName a.name = some f.name ∧ a.proving = some f.proving ∧
       f.pt = a.pt ∧ f.holdSeconds = a.holdSeconds ∧ f.w = a.w ∧ f.lp = a.lp ∧ f.ree = a.ree ∧ f.lo = a.lo ∧ f.ld = a.ld ∧
       f.lr = a.lr ∧ f.lw = a.lw ∧ f.lifeYears = a.lifeYears ∧ f.interval = a.interval ∧ f.ls = a.ls ∧
       f.starInterval = a.starInterval ∧ f.rampLimit = a.rampLimit ∧ f.settleLimit = a.settleLimit ∧
       (f.proving = true → f.tn = some a.tn ∧ f.lt = some a.lt) ∧
       (f.proving = false → a.tn = 0 ∧ a.lt = 0) ∧ TypeSound f)

/-- SET_MARK stores one to four characters after the substitutions of R35: capitals for lowercase letters, then 1
for I and 0 for O and Q; it refuses a character that is not one of the 37 of R34, and a mark of spaces alone.
SET_LIMITS stores the four limits clamped, lapsing the heads and losing the links that the new limits make due, with
their claims dropped and LINK_LOST, HEAD_UNPROVED, STAMP_READY and SCRAP_READY pending short of a STOPPED link. That
the answer of SET_MARK is padded to four characters (notes/assumptions/12.md), and that characters are ASCII
(notes/assumptions/22.md), are the model's. -/
def Obligations.MarkAndLimitsAreStored : Prop :=
  let dieSet : List Byte :=
    [0x30, 0x31, 0x32, 0x33, 0x34, 0x35, 0x36, 0x37, 0x38, 0x39] ++
    [0x41, 0x42, 0x43, 0x44, 0x45, 0x46, 0x47, 0x48, 0x4A, 0x4B, 0x4C, 0x4D, 0x4E, 0x50, 0x52, 0x53, 0x54, 0x55, 0x56, 0x57,
      0x58, 0x59, 0x5A] ++ [0x2F, 0x2D, 0x2A, 0x20]
  let struck (c : Byte) : Byte :=
    if c = 0x49 ∨ c = 0x69 then 0x31
    else if c = 0x4F ∨ c = 0x6F ∨ c = 0x51 ∨ c = 0x71 then 0x30
    else if 0x61 ≤ c.toNat ∧ c.toNat ≤ 0x7A then BitVec.ofNat 8 (c.toNat - 0x20)
    else c
  dieSet.length = 37 ∧ (∀ c : Byte, (inDieSet c = true ↔ c ∈ dieSet) ∧ dieChar c = struck c) ∧
  (∀ u : State, RollLaw u →
    let t := loseSilentLinks (lapseExpired u)
    let lost (l : LinkId) := l ≠ .L0 ∧ (u.link l).state = .running ∧ u.limits.silence ≠ 0 ∧ u.limits.silence ≤ (u.link l).timer
    let expired (h : HeadId) := ∃ p, (u.head h).proving = some p ∧ p.provedAt + u.limits.validity * 60 ≤ u.clock
    (∀ l, (lost l → (t.link l).state = .lost) ∧ (¬ lost l → (t.link l).state = (u.link l).state)) ∧
    (∀ l, t.link l = { u.link l with state := (t.link l).state, pending := (t.link l).pending }) ∧
    (∀ h, (expired h → t.head h = { u.head h with proving := none }) ∧ (¬ expired h → t.head h = u.head h)) ∧
    (∀ k, (∀ l, lost l → (u.slot k).holder = some (.link l) →
        t.slot k = { u.slot k with state := (u.slot k).state.returned, holder := none }) ∧
      ((∀ l, lost l → (u.slot k).holder ≠ some (.link l)) → t.slot k = u.slot k)) ∧
    (∀ l n, n ∈ (t.link l).pending ↔ n ∈ (u.link l).pending ∨ ((u.link l).state ≠ .stopped ∧
      ((l = .L0 ∧ ∃ m, lost m ∧ n = .linkLost m) ∨ ((l = .L0 ∨ l = .L2) ∧ ∃ h, expired h ∧ n = .headUnproved h) ∨
        (l = .L3 ∧ n = .stampReady ∧ lost .L3 ∧ ∃ k, (u.slot k).holder = some (.link .L3)) ∨
        (l = .L4 ∧ n = .scrapReady ∧ lost .L4 ∧ ∃ k, (u.slot k).holder = some (.link .L4))))) ∧
    t = { u with links := t.links, heads := t.heads, slots := t.slots }) ∧
  ∀ s : State, CanTake s .L5 →
    (∀ cs : Text,
      let m := cs.map struck
      (cs.length = 0 ∨ 4 < cs.length ∨ (∃ c ∈ m, c ∉ dieSet) ∨ (∀ c ∈ m, c = 0x20) →
        exec (.setMark .L5 (.fields cs)) s = .next (refusedWith s .L5 36 .field)) ∧
      (1 ≤ cs.length → cs.length ≤ 4 → (∀ c ∈ m, c ∈ dieSet) → (∃ c ∈ m, c ≠ 0x20) →
        exec (.setMark .L5 (.fields cs)) s =
          .next (answered { heard s .L5 with mark := m } .L5 36 .ok (m ++ List.replicate (4 - m.length) 0x20)))) ∧
    (∀ v n q, exec (.setLimits .L5 (.fields ⟨v, n, q, none⟩)) s = .next (refusedWith s .L5 37 .field)) ∧
    ∀ v n q mode,
      let x : Limits := ⟨max 30 (min 1440 v), max 1 (min 500 n), max 0 (min 60 q), mode⟩
      exec (.setLimits .L5 (.fields ⟨v, n, q, some mode⟩)) s =
        .next (answered (loseSilentLinks (lapseExpired { heard s .L5 with limits := x })) .L5 37 .ok
          (sent2 x.validity ++ sent2 x.testLimit ++ sent1 x.silence ++ sentPlace [SnapMode.manual, .onDate] x.mode))

/-! ### Admission, claims and inspection -/

/-- ADMIT and ADMIT_PROVING answer the first of their checks that fails: NO_DATE, FIELD, NO_TYPE, BOUND,
DUPLICATE, FULL. A serial is a duplicate exactly when a slot in an open state, neither FREE nor CLOSED, carries it; the
roll is full exactly when no slot is FREE. -/
def Obligations.AdmissionChecksInOrder : Prop :=
  (∀ (s : State) (t : Text), s.serialOpen t = true ↔
    ∃ k i, (s.slot k).state ≠ .free ∧ (s.slot k).state ≠ .closed ∧ (s.slot k).ident = some i ∧ i.serial = t) ∧
  (∀ s : State, s.lowestFree = none ↔ ∀ k, (s.slot k).state ≠ .free) ∧
  ∀ s : State,
    (CanTake s .L1 → ∀ a,
      let r := fun st => exec (.admitOrdinary .L1 (.fields a)) s = .next (refusedWith s .L1 16 st)
      (s.calendar = none → r .noDate) ∧
      ∀ d, s.calendar = some d →
        (readBinding a.carrier a.serial a.type = none ∨ readOrdinary d a = none → r .field) ∧
        ∀ p o, readBinding a.carrier a.serial a.type = some p → readOrdinary d a = some o →
          ((s.typeEntry p.typeIdx).loaded = none → r .noType) ∧
          ∀ t, (s.typeEntry p.typeIdx).loaded = some t →
            (t.fields.proving = true → r .noType) ∧
            (t.fields.proving = false →
              (s.bound a.carrier ≠ none → r .bound) ∧
              (s.bound a.carrier = none → s.serialOpen p.serial = true → r .duplicate) ∧
              (s.bound a.carrier = none → s.serialOpen p.serial = false → s.lowestFree = none → r .full))) ∧
    (CanTake s .L2 → ∀ a,
      let r := fun st => exec (.admitProving .L2 (.fields a)) s = .next (refusedWith s .L2 22 st)
      (s.calendar = none → r .noDate) ∧
      (s.calendar ≠ none →
        (readBinding a.carrier a.serial a.type = none → r .field) ∧
        ∀ p, readBinding a.carrier a.serial a.type = some p →
          ((s.typeEntry p.typeIdx).loaded = none → r .noType) ∧
          ∀ t, (s.typeEntry p.typeIdx).loaded = some t →
            (t.fields.proving = false → r .noType) ∧
            (t.fields.proving = true →
              (s.bound a.carrier ≠ none → r .bound) ∧
              (s.bound a.carrier = none → s.serialOpen p.serial = true → r .duplicate) ∧
              (s.bound a.carrier = none → s.serialOpen p.serial = false → s.lowestFree = none → r .full))))

/-- An admission that passes its checks writes the lowest FREE slot, binds the carrier and reports the roll;
the ranges of its parameters are those of R43. A serial or name field reads as its characters before the first
space, each a letter, a digit or a dash, in capitals, with nothing but spaces after them and at least one character;
the field has 16 characters for a serial and 8 for a type name. What makes a serial a duplicate is in
AdmissionChecksInOrder. That characters are ASCII is the model's choice
(notes/assumptions/22.md). -/
def Obligations.AdmissionBindsTheLowestFreeSlot : Prop :=
  (∀ (s : State) (k : SlotId) (t : LoadedType) (p : BindingParams),
    s.lowestFree = some k → (s.typeEntry p.typeIdx).loaded = some t → s.bound (p.carrier.val + 1) = none →
    s.serialOpen p.serial = false →
    let blank : Slot :=
      { state := .admitted, carrier := some (p.carrier.val + 1), ident := some ⟨p.serial, p.typeIdx, t.rev, t.fields.proving⟩,
        made := none, tare := none, ree := none, holder := none, weight := none, findings := [], overflow := false,
        worst := .none, attempts := 0, grants := 0, test := none, stamp := none, method := none, outcome := none,
        closing := none }
    (s.slot k).state = .free ∧ (∀ j, (s.slot j).state = .free → k ≤ j) ∧
    (CanTake s .L1 → t.fields.proving = false → ∀ a d o, s.calendar = some d →
      readBinding a.carrier a.serial a.type = some p → readOrdinary d a = some o →
      exec (.admitOrdinary .L1 (.fields a)) s =
        .next (answered
          (reporting
            (fun s => (s.setSlot k { blank with made := some o.made, tare := some o.tare, ree := o.ree }).bind p.carrier (some k))
            (heard s .L1)) .L1 16 .ok (u8 k.val ++ u8 t.rev))) ∧
    (CanTake s .L2 → t.fields.proving = true → ∀ a, s.calendar ≠ none →
      readBinding a.carrier a.serial a.type = some p →
      exec (.admitProving .L2 (.fields a)) s =
        .next (answered
          (reporting (fun s => (s.setSlot k { blank with state := .awaitTest }).bind p.carrier (some k)) (heard s .L2))
          .L2 22 .ok (u8 k.val ++ u8 t.rev)))) ∧
  (∀ field name : Text, readName field = some name ↔
    ∃ (body : Text) (n : Nat), field = body ++ List.replicate n 0x20 ∧ body ≠ [] ∧
      (∀ c ∈ body,
        0x41 ≤ c.toNat ∧ c.toNat ≤ 0x5A ∨ 0x61 ≤ c.toNat ∧ c.toNat ≤ 0x7A ∨ 0x30 ≤ c.toNat ∧ c.toNat ≤ 0x39 ∨ c = 0x2D) ∧
      name = body.map fun c => if 0x61 ≤ c.toNat then BitVec.ofNat 8 (c.toNat - 0x20) else c) ∧
  (∀ l a, wellFormed (.admitOrdinary l (.fields a)) = true → a.serial.length = 16) ∧
  (∀ l a, wellFormed (.admitProving l (.fields a)) = true → a.serial.length = 16) ∧
  (∀ l a, wellFormed (.loadType l (.fields a)) = true → a.name.length = 8) ∧
  (∀ c serial type p, readBinding c serial type = some p ↔
    1 ≤ c ∧ c ≤ 255 ∧ p.carrier.val + 1 = c ∧ readName serial = some p.serial ∧ p.typeIdx.val = type) ∧
  ∀ (d : Date) a o, readOrdinary d a = some o ↔
    2000 ≤ a.year ∧ a.year ≤ 2099 ∧ 1 ≤ a.month ∧ a.month ≤ 12 ∧ a.year * 12 + a.month ≤ d.year * 12 + d.month ∧
      1 ≤ a.tare ∧ a.tare ≤ 65000 ∧ a.ree ≤ 65000 ∧ o = ⟨⟨a.year, a.month⟩, a.tare, if a.ree = 0 then none else some a.ree⟩

/-- CLAIM and CLAIM_SCRAP: a slot the sender holds is answered as it stands, one held by another HELD, one in
another state STATE; else the claim is taken. The answer carries the items of R49 or R150, the scrap reason being the
code of the first stored CONDEMN finding, or 209, with that finding's value; how they are sent is the model's
(notes/assumptions/11.md and 12.md). -/
def Obligations.ClaimsAreTaken : Prop :=
  (∀ (u : State) (k : SlotId),
    let x := u.slot k
    let entry := x.ident.bind fun i => (u.typeEntry i.typeIdx).loaded
    let reason := (x.findings.filter fun f => decide (f.severity = .condemn)).head?
    claimItems u k =
      sent1 k.val ++ sentOr 16 (fun i => sentText 16 i.serial) x.ident ++ sentOr 1 (fun i => sent1 i.typeIdx.val) x.ident ++
      sentOr 1 (fun i => sent1 i.typeRev) x.ident ++ sentOr 2 sentMonth x.made ++ sentOr 2 sent2 x.tare ++ sentOr 2 sent2 x.ree ++
      sentOr 1 (fun t => sentYes (0 < t.fields.lw)) entry ++ sentOr 4 (fun w => sent2 w.wm ++ sent2 w.loss) x.weight ++
      sent1 x.findings.length ++ x.findings.flatMap sentFinding ++ sentYes (x.overflow = true) ++ sentSeverity x.worst ∧
    claimScrapItems u k =
      sent1 k.val ++ sentOr 16 (fun i => sentText 16 i.serial) x.ident ++ sentOr 1 (fun i => sent1 i.typeIdx.val) x.ident ++
      sentOr 8 (fun t => sentText 8 t.fields.name) entry ++ sent1 ((reason.map Finding.code).getD 209) ++
      sentOr 2 sent2 (reason.bind Finding.value) ++ sentSeverity x.worst ++ sent1 x.findings.length ++
      sentYes (x.overflow = true)) ∧
  ∀ (s : State) (c : Nat) (k : SlotId), s.bound c = some k →
    let x := s.slot k
    (CanTake s .L1 →
      (x.holder = some (.link .L1) →
        exec (.claim .L1 (.fields c)) s = .next (answered (heard s .L1) .L1 17 .ok (claimItems s k))) ∧
      (x.holder ≠ none → x.holder ≠ some (.link .L1) →
        exec (.claim .L1 (.fields c)) s = .next (refusedWith s .L1 17 .held)) ∧
      (x.holder = none → x.state ≠ .admitted → exec (.claim .L1 (.fields c)) s = .next (refusedWith s .L1 17 .state)) ∧
      (x.holder = none → x.state = .admitted →
        let t := (heard s .L1).setSlot k { x with state := .inspecting, holder := some (.link .L1) }
        exec (.claim .L1 (.fields c)) s = .next (answered t .L1 17 .ok (claimItems t k)))) ∧
    (CanTake s .L4 →
      (x.holder = some (.link .L4) →
        exec (.claimScrap .L4 (.fields c)) s = .next (answered (heard s .L4) .L4 31 .ok (claimScrapItems s k))) ∧
      (x.holder ≠ none → x.holder ≠ some (.link .L4) →
        exec (.claimScrap .L4 (.fields c)) s = .next (refusedWith s .L4 31 .held)) ∧
      (x.holder = none → x.state ≠ .awaitScrap →
        exec (.claimScrap .L4 (.fields c)) s = .next (refusedWith s .L4 31 .state)) ∧
      (x.holder = none → x.state = .awaitScrap →
        let t := (heard s .L4).setSlot k { x with state := .scrapping, holder := some (.link .L4) }
        exec (.claimScrap .L4 (.fields c)) s = .next (answered t .L4 31 .ok (claimScrapItems t k))))

/-- CLAIM_STAMP: its checks in order; a claim taken composes the stamp line from the mark, the test date and the
star, and the due date from the type's interval, and stores both in the slot; the answer carries the items of R147.
That the characters are ASCII (notes/assumptions/22.md), and how the items are sent (notes/assumptions/11.md and 12.md),
are the model's. -/
def Obligations.StampClaimComposesTheLine : Prop :=
  (∀ (u : State) (k : SlotId),
    let x := u.slot k
    claimStampItems u k =
      sent1 k.val ++ sentOr 16 (fun i => sentText 16 i.serial) x.ident ++
      sentOr 8 (fun t => sentText 8 t.fields.name) (x.ident.bind fun i => (u.typeEntry i.typeIdx).loaded) ++
      sentOr 14 (fun p => sentText 12 p.line ++ sentMonth p.due) x.stamp ++
      sentOr 1 (fun r => sentYes (r.star = true)) x.test ++ sentOr 3 sentDate (x.test.bind TestRecord.date) ++
      sentOr 1 (fun r => sent1 r.attempt) x.test) ∧
  ∀ (s : State) (c : Nat) (k : SlotId), CanTake s .L3 → s.bound c = some k →
    let x := s.slot k
    (x.holder = some (.link .L3) →
      exec (.claimStamp .L3 (.fields c)) s = .next (answered (heard s .L3) .L3 29 .ok (claimStampItems s k))) ∧
    (x.holder ≠ none → x.holder ≠ some (.link .L3) →
      exec (.claimStamp .L3 (.fields c)) s = .next (refusedWith s .L3 29 .held)) ∧
    (x.holder = none → x.state ≠ .awaitStamp →
      exec (.claimStamp .L3 (.fields c)) s = .next (refusedWith s .L3 29 .state)) ∧
    (x.holder = none → x.state = .awaitStamp → s.calendar = none →
      exec (.claimStamp .L3 (.fields c)) s = .next (refusedWith s .L3 29 .noDate)) ∧
    ∀ r d ty, x.holder = none → x.state = .awaitStamp → s.calendar ≠ none → x.test = some r → r.date = some d →
      s.typeOfSlot x = some ty →
      let digits (n : Nat) : Text := [BitVec.ofNat 8 (48 + n / 10 % 10), BitVec.ofNat 8 (48 + n % 10)]
      let line := s.mark ++ List.replicate (4 - s.mark.length) 0x20 ++ [0x20] ++ digits d.month ++ [0x2F] ++ digits d.year ++
        (if r.star then [0x20, 0x2A] else [])
      let m := d.year * 12 + (d.month - 1) + (if r.star then ty.starInterval else ty.interval)
      let due : YearMonth := if 2099 < m / 12 then ⟨2099, 12⟩ else ⟨m / 12, m % 12 + 1⟩
      let t := (heard s .L3).setSlot k { x with state := .stamping, holder := some (.link .L3), stamp := some ⟨line, due⟩ }
      exec (.claimStamp .L3 (.fields c)) s = .next (answered t .L3 29 .ok (claimStampItems t k)) ∧
      (s.mark.length ≤ 4 → line.length = if r.star then 12 else 10) ∧
      ((∀ b ∈ s.mark, inDieSet b = true) → ∀ b ∈ line, inDieSet b = true)

/-- FINDING posts one finding to the slot that L1 holds, and WEIGH writes its weight record once, posting
finding 200 when the loss exceeds the limit on the exact products. -/
def Obligations.FindingsAndWeighings : Prop :=
  ∀ (s : State) (c : Nat) (k : SlotId), CanTake s .L1 → s.bound c = some k →
    let x := s.slot k
    (x.holder ≠ some (.link .L1) →
      (∀ n v m, exec (.finding .L1 (.fields ⟨c, n, v, m⟩)) s = .next (refusedWith s .L1 18 .notHolder)) ∧
      ∀ w, exec (.weigh .L1 (.fields ⟨c, w⟩)) s = .next (refusedWith s .L1 19 .notHolder)) ∧
    (x.holder = some (.link .L1) →
      (∀ n v m, n = 0 ∨ 199 < n ∨ v = none ∨ v = some .none →
        exec (.finding .L1 (.fields ⟨c, n, v, m⟩)) s = .next (refusedWith s .L1 18 .field)) ∧
      (∀ n v m, 1 ≤ n → n ≤ 199 → v ≠ .none →
        let y := x.post ⟨n, v, .inspection, m⟩
        exec (.finding .L1 (.fields ⟨c, n, some v, m⟩)) s =
          .next (answered ((heard s .L1).setSlot k y) .L1 18 .ok
            (yesNo (decide (x.findings.length < 8)) ++ u8 y.findings.length ++ yesNo y.overflow ++ u8 (severityRank y.worst)))) ∧
      (∀ w, w = 0 ∨ 65000 < w → exec (.weigh .L1 (.fields ⟨c, w⟩)) s = .next (refusedWith s .L1 19 .field)) ∧
      (∀ w, 1 ≤ w → w ≤ 65000 → x.weight ≠ none →
        exec (.weigh .L1 (.fields ⟨c, w⟩)) s = .next (refusedWith s .L1 19 .weighed)) ∧
      ∀ w ws ty, 1 ≤ w → w ≤ 65000 → x.weight = none → x.tare = some ws → s.typeOfSlot x = some ty →
        let loss := if w < ws then ws - w else 0
        let heavy := 0 < ty.lw ∧ ty.lw * ws < loss * 1000
        let weighed : Slot := { x with weight := some ⟨w, loss * 1000 / ws⟩ }
        let y := if heavy then weighed.post ⟨200, .condemn, .unit, some (loss * 1000 / ws)⟩ else weighed
        exec (.weigh .L1 (.fields ⟨c, w⟩)) s =
          .next (answered ((heard s .L1).setSlot k y) .L1 19 .ok
            (u16 w ++ u16 (loss * 1000 / ws) ++ yesNo (decide heavy) ++ u8 (severityRank y.worst)))) ∧
    ∀ f : Finding,
      (x.post f).worst = (if severityRank x.worst < severityRank f.severity then f.severity else x.worst) ∧
      (x.findings.length < 8 → (x.post f).findings = x.findings ++ [f] ∧ (x.post f).overflow = x.overflow) ∧
      (8 ≤ x.findings.length → (x.post f).findings = x.findings ∧ (x.post f).overflow = true) ∧
      x.post f = { x with worst := (x.post f).worst, findings := (x.post f).findings, overflow := (x.post f).overflow }

/-- INSPECTED: NOT_HOLDER, NOT_WEIGHED, then the age check and the routing on the worst severity. -/
def Obligations.InspectedRoutesTheSlot : Prop :=
  ∀ (s : State) (c : Nat) (k : SlotId), CanTake s .L1 → s.bound c = some k →
    let x := s.slot k
    (x.holder ≠ some (.link .L1) → exec (.inspected .L1 (.fields c)) s = .next (refusedWith s .L1 20 .notHolder)) ∧
    ∀ ty d m, x.holder = some (.link .L1) → s.typeOfSlot x = some ty → s.calendar = some d → x.made = some m →
      (0 < ty.lw → x.weight = none → exec (.inspected .L1 (.fields c)) s = .next (refusedWith s .L1 20 .notWeighed)) ∧
      (¬ (0 < ty.lw ∧ x.weight = none) →
        let age : Int := ((d.year * 12 + d.month : Nat) : Int) - ((m.year * 12 + m.month : Nat) : Int)
        let old := 0 < ty.lifeYears ∧ ((ty.lifeYears * 12 : Nat) : Int) ≤ age
        let y := if old then x.post ⟨201, .condemn, .unit, some age.toNat⟩ else x
        let body (n : Nat) := u8 n ++ u8 (severityRank y.worst) ++ i16 age ++ yesNo (decide old)
        (y.worst = .none ∨ y.worst = .note →
          exec (.inspected .L1 (.fields c)) s =
            .next (answered ((heard s .L1).setSlot k { y with state := .awaitTest, holder := none }) .L1 20 .ok (body 4))) ∧
        (y.worst = .refer →
          exec (.inspected .L1 (.fields c)) s =
            .next (answered
              (reporting
                (fun u => { u.setSlot k { y with state := .referred, holder := none } with referral := s.referral ++ [k] })
                ((heard s .L1).setSlot k y)) .L1 20 .ok (body 6))) ∧
        (y.worst = .condemn →
          exec (.inspected .L1 (.fields c)) s =
            .next (answered
              (raise .scrapReady ((heard s .L1).setSlot k { y with state := .awaitScrap, holder := none })) .L1 20 .ok
              (body 9))))

/-! ### The bench -/

/-- MOUNT and HEAD_SETUP: their checks in order, and their effect. -/
def Obligations.MountAndHeadSetup : Prop :=
  ∀ s : State, CanTake s .L2 →
    (∀ n c, 4 ≤ n → exec (.mount .L2 (.fields ⟨n, c⟩)) s = .next (refusedWith s .L2 23 .field)) ∧
    (∀ n g b, 4 ≤ n → exec (.headSetup .L2 (.fields ⟨n, g, b⟩)) s = .next (refusedWith s .L2 27 .field)) ∧
    (∀ h c k, s.bound c = some k →
      let x := s.slot k
      let mount := exec (.mount .L2 (.fields ⟨headNumber h, c⟩)) s
      (x.holder ≠ none → mount = .next (refusedWith s .L2 23 .held)) ∧
      (x.holder = none → x.state ≠ .awaitTest → mount = .next (refusedWith s .L2 23 .state)) ∧
      (x.holder = none → x.state = .awaitTest →
        ((s.head h).phase ≠ .idle → mount = .next (refusedWith s .L2 23 .headBusy)) ∧
        ((s.head h).phase = .idle →
          mount = .next (answered
            (((heard s .L2).setSlot k { x with state := .testing, holder := some (.head h) }).setHead h
              { s.head h with phase := .mounted, mount := some ⟨k, c⟩ }) .L2 23 .ok
            (sent1 k.val ++ sentOr 16 (fun i => sentText 16 i.serial) x.ident ++ sentOr 1 (fun i => sent1 i.typeIdx.val) x.ident ++
              sentYes (x.isProving = true)))))) ∧
    ∀ h g b,
      ((s.head h).phase ≠ .idle →
        exec (.headSetup .L2 (.fields ⟨headNumber h, g, b⟩)) s = .next (refusedWith s .L2 27 .headBusy)) ∧
      ((s.head h).phase = .idle →
        exec (.headSetup .L2 (.fields ⟨headNumber h, g, b⟩)) s =
          .next (answered
            ((heard s .L2).setHead h { s.head h with lag := max 0 (min 15 g), band := max 1 (min 500 b) }) .L2 27 .ok
            (u8 (max 0 (min 15 g)) ++ u16 (max 1 (min 500 b)))))

/-- BEGIN: its eight checks in order; a BEGIN taken counts the attempt, starts a new test record, sets the head
afresh in ZEROING at the attempt's pressures, counts "begun", and for an ordinary slot raises the proving
count, lapsing the record that it brings to the limit. -/
def Obligations.BeginStartsTheTest : Prop :=
  ∀ s : State, CanTake s .L2 →
    (∀ n, 4 ≤ n → exec (.begin .L2 (.fields n)) s = .next (refusedWith s .L2 24 .field)) ∧
    ∀ h,
      let y := s.head h
      let out := exec (.begin .L2 (.fields (headNumber h))) s
      (y.phase ≠ .mounted → out = .next (refusedWith s .L2 24 .state)) ∧
      ∀ m, y.phase = .mounted → y.mount = some m →
        let x := s.slot m.slot
        (s.calendar = none → out = .next (refusedWith s .L2 24 .noDate)) ∧
        (s.calendar ≠ none → s.typeOfSlot x = none → out = .next (refusedWith s .L2 24 .noType)) ∧
        ∀ ty, s.calendar ≠ none → s.typeOfSlot x = some ty →
          let n := x.attempts + 1
          let pa := if x.isProving = true ∨ n = 1 then ty.pt else ty.pt + ty.pt * ty.lr / 1000
          let ps : Pressures := ⟨pa, pa + pa * ty.lo / 1000, pa - pa * ty.ld / 1000, pa * 50 / 1000⟩
          (2 + x.grants ≤ x.attempts → out = .next (refusedWith s .L2 24 .spent)) ∧
          (x.attempts < 2 + x.grants →
            (x.isProving = false → y.proving = none → out = .next (refusedWith s .L2 24 .unproved)) ∧
            (∀ v, x.isProving = false → y.proving = some v → v.pv < pa → out = .next (refusedWith s .L2 24 .notCovered)) ∧
            (x.isProving = true ∨ (∃ v, y.proving = some v ∧ pa ≤ v.pv) →
              (ty.w ≤ y.lag → out = .next (refusedWith s .L2 24 .field)) ∧
              (y.lag < ty.w →
                let record : TestRecord :=
                  { head := h, attempt := n, pa := pa, date := s.calendar, outcome := none, reasons := [], z := none, t := none,
                    p := none, q := none, e := none, ripple := none, star := false }
                let z : Head :=
                  { y with
                    phase := .zeroing, pressures := some ps, phaseCount := 0, holdCount := 0, tailCount := 0, runCount := 0,
                    lowRun := 0, gather := [], tWindow := [], ripple := none, z := none, t := none
                    live := { y.live with begun := y.live.begun.raise } }
                let u := (heard s .L2).setSlot m.slot { x with attempts := n, test := some record }
                let body := u8 n ++ (u16 ps.pa ++ u16 ps.po ++ u16 ps.pl ++ u16 ps.pr)
                (x.isProving = true → out = .next (answered (u.setHead h z) .L2 24 .ok body)) ∧
                ∀ v, x.isProving = false → y.proving = some v →
                  (v.count + 1 < s.limits.testLimit →
                    out = .next (answered (u.setHead h { z with proving := some { v with count := v.count + 1 } }) .L2 24 .ok
                      body)) ∧
                  (s.limits.testLimit ≤ v.count + 1 →
                    out = .next (answered (raise (.headUnproved h) (u.setHead h { z with proving := none })) .L2 24 .ok
                      body)))))

/-- ABORT and DISMOUNT: their checks; an ABORT ends the test in flight with ABORTED, a DISMOUNT makes the head
IDLE and returns a slot not begun to AWAIT_TEST, or applies the outcome written. -/
def Obligations.AbortAndDismount : Prop :=
  ∀ s : State, CanTake s .L2 →
    (∀ n, 4 ≤ n → exec (.abort .L2 (.fields n)) s = .next (refusedWith s .L2 25 .field) ∧
      exec (.dismount .L2 (.fields n)) s = .next (refusedWith s .L2 26 .field)) ∧
    ∀ h,
      let y := s.head h
      let abort := exec (.abort .L2 (.fields (headNumber h))) s
      let dismount := exec (.dismount .L2 (.fields (headNumber h))) s
      (y.phase.inFlight = false → abort = .next (refusedWith s .L2 25 .state)) ∧
      (y.phase.inFlight = true → dismount = .next (refusedWith s .L2 26 .headBusy)) ∧
      (y.phase = .idle → y.mount = none → dismount = .next (refusedWith s .L2 26 .state)) ∧
      ∀ m, y.mount = some m →
        let x := s.slot m.slot
        let idle : State := (heard s .L2).setHead h
          { y with
            phase := .idle, mount := none, pressures := none, phaseCount := 0, holdCount := 0, tailCount := 0, runCount := 0,
            lowRun := 0, gather := [], tWindow := [], ripple := none, z := none, t := none, permit := false }
        (y.phase.inFlight = true →
          abort = .next (answered (endByCause h m.slot (.invalid .aborted) (heard s .L2)) .L2 25 .ok
            (sentPlace [Phase.idle, .mounted, .zeroing, .ramp, .hold, .tail, .release, .settle, .done] y.phase))) ∧
        (y.phase = .mounted →
          dismount = .next (answered (idle.setSlot m.slot { x with state := .awaitTest, holder := none }) .L2 26 .ok (u8 4))) ∧
        (y.phase = .done →
          (x.isProving = true → dismount = .next (answered (closeSlot m.slot .proving idle) .L2 26 .ok (u8 11))) ∧
          (x.isProving = false →
            (outcomeOf x = some .pass →
              dismount = .next (answered
                (raise .stampReady (idle.setSlot m.slot { x with state := .awaitStamp, holder := none })) .L2 26 .ok (u8 7))) ∧
            (outcomeOf x = some .condemn →
              dismount = .next (answered
                (raise .scrapReady (idle.setSlot m.slot { x with state := .awaitScrap, holder := none })) .L2 26 .ok (u8 9))) ∧
            (outcomeOf x = some .invalid → x.attempts < 2 + x.grants →
              dismount = .next (answered (idle.setSlot m.slot { x with state := .awaitTest, holder := none }) .L2 26 .ok (u8 4))) ∧
            (outcomeOf x = some .invalid → 2 + x.grants ≤ x.attempts →
              let z := x.post ⟨206, .refer, .unit, some x.attempts⟩
              dismount = .next (answered
                (reporting
                  (fun u => { u.setSlot m.slot { z with state := .referred, holder := none } with
                    referral := s.referral ++ [m.slot] })
                  (idle.setSlot m.slot z)) .L2 26 .ok (u8 6)))))

/-! ### The archive pages -/

/-- TURN_PAGE and FINISH_PAGE: their checks in order, and what they do to the pages, the marker, the notices
and the waiting records. -/
def Obligations.PagesTurnAndFinish : Prop :=
  ∀ s : State,
    (CanTake s .L5 →
      (∀ n, n = 0 ∨ 99999999 < n → exec (.turnPage .L5 (.fields n)) s = .next (refusedWith s .L5 39 .field)) ∧
      (∀ n, 1 ≤ n → n ≤ 99999999 → s.presented = none →
        exec (.turnPage .L5 (.fields n)) s = .next (refusedWith s .L5 39 .empty)) ∧
      (∀ n p, 1 ≤ n → n ≤ 99999999 → s.presented = some p →
        ((s.page p).first ≠ some n → exec (.turnPage .L5 (.fields n)) s = .next (refusedWith s .L5 39 .stale)) ∧
        ((s.page p).first = some n →
          let t := moveRecords (reporting
            (fun u =>
              { u.setPage p ⟨if s.fillingPage = none then .filling else .empty, [], none⟩ with
                presented := if (s.page p.other).state = .finished then some p.other else none })
            (heard s .L5))
          exec (.turnPage .L5 (.fields n)) s =
            .next (answered t .L5 39 .ok
              (u8 (pageByte p) ++
                match t.presented with
                | some q => u8 (pageByte q) ++ u8 (t.page q).records.length ++ opt 4 u32 (t.page q).first
                | none => zeros 6)))) ∧
      (s.fillingPage = none → exec (.finishPage .L5 (.fields ())) s = .next (refusedWith s .L5 40 .empty)) ∧
      ∀ p, s.fillingPage = some p →
        ((s.page p).records = [] → exec (.finishPage .L5 (.fields ())) s = .next (refusedWith s .L5 40 .empty)) ∧
        ((s.page p).records ≠ [] →
          exec (.finishPage .L5 (.fields ())) s =
            .next (answered (moveRecords (finishPageOp p (heard s .L5))) .L5 40 .ok
              (u8 (pageByte p) ++ u8 (s.page p).records.length ++ opt 4 u32 (s.page p).first)))) ∧
    ∀ p, finishPageOp p s =
      raise .pageFinished (reporting
        (fun u =>
          let v : State := { u.setPage p { s.page p with state := .finished } with
            presented := if s.presented = none then some p else s.presented }
          if (s.page p.other).state = .empty then v.setPage p.other { s.page p.other with state := .filling } else v) s)

/-! ### Reading pairs -/

/-- ZEROING: SENSOR, then ZERO_FAULT, then the window: a stable one gives z and starts RAMP with the permit
asserted, an unstable one is emptied, and the 600th pair without a stable window is ZERO_TIMEOUT. The row of the named
event is that pair, and a reading above 65,000 is taken as 65,000: the model's readings (notes/assumptions/3.md and
16.md). -/
def Obligations.ZeroingPairs : Prop :=
  ∀ (s : State) (h : HeadId) (k : SlotId) (c : Nat) (ty : TypeFields) (ps : Pressures) (p j : Reading),
    TestOn s h k c ty ps → (s.head h).phase = .zeroing →
    let x := (s.head h).see p j
    (p = .fault ∨ j = .fault →
      exec (.readingPair h p j) s = .next (endByCause h k (.invalid .sensor) (s.setHead h x))) ∧
    ∀ v u, p = .value v → j = .value u →
      (ps.pr ≤ min v 65000 →
        exec (.readingPair h p j) s = .next (endByCause h k (.invalid .zeroFault) (s.setHead h x))) ∧
      (min v 65000 < ps.pr →
        let window := x.gather ++ [min u 65000]
        let full := ty.w ≤ window.length
        let n := x.phaseCount + 1
        let y : Head := { x with phaseCount := n, gather := if full then [] else window }
        (full → spread window ≤ x.band →
          let z := meanRaw ty.w window
          exec (.readingPair h p j) s =
            .next ((s.setHead h
              { x with phase := .ramp, z := some z, permit := true, phaseCount := 0, runCount := 0, gather := [] }).setSlot k
              { s.slot k with test := (s.slot k).test.map fun t => { t with z := some z } })) ∧
        (¬ full ∨ x.band < spread window →
          (n < 600 → exec (.readingPair h p j) s = .next (s.setHead h y)) ∧
          (600 ≤ n →
            exec (.readingPair h p j) s = .next (endByCause h k (.invalid .zeroTimeout) (s.setHead h y)) ∧
            exec (.zeroTimeout h p j) s = .next (endByCause h k (.invalid .zeroTimeout) (s.setHead h y)))))

/-- RAMP: three pairs in a row at Pa or above start the hold, and the pair that reaches the ramp limit without
them is RAMP_TIMEOUT. RELEASE: three pairs in a row below Pr start SETTLE, and the 1,200th pair without them is
RELEASE_TIMEOUT. The row of the named
event is that pair, and a reading above 65,000 is taken as 65,000: the model's readings (notes/assumptions/3.md and
16.md). -/
def Obligations.RampAndReleasePairs : Prop :=
  (∀ (s : State) (h : HeadId) (k : SlotId) (c : Nat) (ty : TypeFields) (ps : Pressures) (v u : Nat),
     TestOn s h k c ty ps → (s.head h).phase = .ramp → min v 65000 ≤ ps.po →
     let x := (s.head h).see (.value v) (.value u)
     let run := if ps.pa ≤ min v 65000 then x.runCount + 1 else 0
     let n := x.phaseCount + 1
     let y : Head := { x with phaseCount := n, runCount := run }
     (3 ≤ run →
       exec (.readingPair h (.value v) (.value u)) s =
         .next (s.setHead h
           { x with
             phase := .hold, phaseCount := 0, runCount := 0, holdCount := 0, tailCount := 0, lowRun := 0,
             ripple := some ⟨min v 65000, min v 65000⟩, tWindow := [] })) ∧
     (run < 3 → n < ty.rampLimit * 10 → exec (.readingPair h (.value v) (.value u)) s = .next (s.setHead h y)) ∧
     (run < 3 → ty.rampLimit * 10 ≤ n →
       exec (.readingPair h (.value v) (.value u)) s = .next (endByCause h k (.invalid .rampTimeout) (s.setHead h y)) ∧
       exec (.rampTimeout h (.value v) (.value u)) s = .next (endByCause h k (.invalid .rampTimeout) (s.setHead h y)))) ∧
  (∀ (s : State) (h : HeadId) (k : SlotId) (c : Nat) (ty : TypeFields) (ps : Pressures) (v u : Nat),
     TestOn s h k c ty ps → (s.head h).phase = .release → min v 65000 ≤ ps.po →
     let x := (s.head h).see (.value v) (.value u)
     let run := if min v 65000 < ps.pr then x.runCount + 1 else 0
     let n := x.phaseCount + 1
     let y : Head := { x with phaseCount := n, runCount := run }
     (3 ≤ run →
       exec (.readingPair h (.value v) (.value u)) s =
         .next (s.setHead h { x with phase := .settle, phaseCount := 0, runCount := 0, gather := [] })) ∧
     (run < 3 → n < 1200 → exec (.readingPair h (.value v) (.value u)) s = .next (s.setHead h y)) ∧
     (run < 3 → 1200 ≤ n →
       exec (.readingPair h (.value v) (.value u)) s = .next (endByCause h k (.invalid .releaseTimeout) (s.setHead h y)) ∧
       exec (.releaseTimeout h (.value v) (.value u)) s = .next (endByCause h k (.invalid .releaseTimeout) (s.setHead h y))))

/-- HOLD and TAIL: the ripple, then the low run, whose fifth pair is PRESSURE_LOSS, then the T window, then the
count; the H-th pair of HOLD starts TAIL, and the pair that brings the tail count to the lag, or the H-th pair
when the lag is 0, ends TAIL: T is formed, the permit dropped, HOLD_DONE raised, and RELEASE entered. The row of the named
event is that pair, and a reading above 65,000 is taken as 65,000: the model's readings (notes/assumptions/3.md and
16.md). -/
def Obligations.HoldAndTailPairs : Prop :=
  ∀ (s : State) (h : HeadId) (k : SlotId) (c : Nat) (ty : TypeFields) (ps : Pressures) (r : Ripple) (z v u : Nat),
    TestOn s h k c ty ps → (s.head h).phase = .hold ∨ (s.head h).phase = .tail → (s.head h).ripple = some r →
    (s.head h).z = some z → min v 65000 ≤ ps.po →
    let x := (s.head h).see (.value v) (.value u)
    let low := if min v 65000 < ps.pl then x.lowRun + 1 else 0
    let held : Head := { x with ripple := some ⟨max r.max (min v 65000), min r.min (min v 65000)⟩, lowRun := low }
    let window := x.tWindow.drop (x.tWindow.length + 1 - ty.w) ++ [min u 65000]
    let total := meanAligned ty.w z window
    let released (y : Head) : State :=
      raise (.holdDone h)
        ((s.setHead h
          { y with phase := .release, permit := false, phaseCount := 0, runCount := 0, lowRun := 0, t := some total }).setSlot k
          { s.slot k with test := (s.slot k).test.map fun t => { t with t := some total } })
    (5 ≤ low →
      exec (.readingPair h (.value v) (.value u)) s = .next (endByCause h k (.invalid .pressureLoss) (s.setHead h held))) ∧
    (low < 5 → x.phase = .hold →
      let y : Head := { held with tWindow := window, holdCount := x.holdCount + 1 }
      (y.holdCount < ty.holdSeconds * 10 → exec (.readingPair h (.value v) (.value u)) s = .next (s.setHead h y)) ∧
      (ty.holdSeconds * 10 ≤ y.holdCount →
        (x.lag ≠ 0 →
          exec (.readingPair h (.value v) (.value u)) s = .next (s.setHead h { y with phase := .tail, tailCount := 0 }) ∧
          exec (.holdComplete h (.value v) (.value u)) s = .next (s.setHead h { y with phase := .tail, tailCount := 0 })) ∧
        (x.lag = 0 →
          exec (.readingPair h (.value v) (.value u)) s = .next (released { y with tailCount := 0 }) ∧
          exec (.holdComplete h (.value v) (.value u)) s = .next (released { y with tailCount := 0 }) ∧
          exec (.tailEnd h (.value v) (.value u)) s = .next (released { y with tailCount := 0 })))) ∧
    (low < 5 → x.phase = .tail →
      let y : Head := { held with tWindow := window, tailCount := x.tailCount + 1 }
      (y.tailCount < x.lag → exec (.readingPair h (.value v) (.value u)) s = .next (s.setHead h y)) ∧
      (x.lag ≤ y.tailCount →
        exec (.readingPair h (.value v) (.value u)) s = .next (released y) ∧
        exec (.tailEnd h (.value v) (.value u)) s = .next (released y)))

/-- SETTLE: a pressure of Pr or more is REPRESSURISED; a stable window gives P and the verdict; an unstable one
is emptied; the pair that reaches the settle limit without a stable window is SETTLE_TIMEOUT. The row of the named
event is that pair, and a reading above 65,000 is taken as 65,000: the model's readings (notes/assumptions/3.md and
16.md). -/
def Obligations.SettlePairs : Prop :=
  ∀ (s : State) (h : HeadId) (k : SlotId) (c : Nat) (ty : TypeFields) (ps : Pressures) (z v u : Nat),
    TestOn s h k c ty ps → (s.head h).phase = .settle → (s.head h).z = some z → min v 65000 ≤ ps.po →
    let x := (s.head h).see (.value v) (.value u)
    let window := x.gather ++ [min u 65000]
    let full := ty.w ≤ window.length
    let n := x.phaseCount + 1
    let y : Head := { x with phaseCount := n, gather := if full then [] else window }
    (ps.pr ≤ min v 65000 →
      exec (.readingPair h (.value v) (.value u)) s = .next (endByCause h k (.invalid .repressurised) (s.setHead h x))) ∧
    (min v 65000 < ps.pr →
      (full → spread window ≤ x.band →
        exec (.readingPair h (.value v) (.value u)) s =
          .next (evaluate h k ty (meanAligned ty.w z window)
            (s.setHead h { x with phaseCount := n, gather := window }))) ∧
      (¬ full ∨ x.band < spread window →
        (n < ty.settleLimit * 10 → exec (.readingPair h (.value v) (.value u)) s = .next (s.setHead h y)) ∧
        (ty.settleLimit * 10 ≤ n →
          exec (.readingPair h (.value v) (.value u)) s = .next (endByCause h k (.invalid .settleTimeout) (s.setHead h y)) ∧
          exec (.settleTimeout h (.value v) (.value u)) s =
            .next (endByCause h k (.invalid .settleTimeout) (s.setHead h y)))))

/-- A pair outside a test updates the head's live readings and does nothing more: a value replaces the live
value, saturated at 65,000, a FAULT only marks it. In RAMP to SETTLE a pressure above Po ends the test by
overpressure, whatever the jacket reads; else a FAULT in either reading ends it by SENSOR. -/
def Obligations.LiveReadingsAndWatches : Prop :=
  let live (x : Live) (r : Reading) : Live :=
    match r with
    | .value n => ⟨if 65000 < n then 65000 else n, .good⟩
    | .fault => ⟨x.value, .faulted⟩
  (∀ p : Phase, p.inFlight = true ↔ p ∈ [.zeroing, .ramp, .hold, .tail, .release, .settle]) ∧
  (∀ (x : Head) (p j : Reading),
    x.see p j = { x with livePressure := live x.livePressure p, liveJacket := live x.liveJacket j }) ∧
  (∀ (s : State) (h : HeadId) (p j : Reading), s.powered = true → (s.head h).phase.inFlight = false →
     exec (.readingPair h p j) s =
       .next (s.setHead h
         { s.head h with
           livePressure := live (s.head h).livePressure p, liveJacket := live (s.head h).liveJacket j })) ∧
  (∀ (s : State) (h : HeadId) (k : SlotId) (c : Nat) (ty : TypeFields) (ps : Pressures) (p j : Reading),
     TestOn s h k c ty ps → (s.head h).phase ∈ [.ramp, .hold, .tail, .release, .settle] →
     let x := (s.head h).see p j
     (∀ v, p = .value v → ps.po < min v 65000 →
       exec (.readingPair h p j) s = .next (endByCause h k (.overpressure (min v 65000)) (s.setHead h x))) ∧
     (p = .fault → exec (.readingPair h p j) s = .next (endByCause h k (.invalid .sensor) (s.setHead h x))) ∧
     (∀ v, p = .value v → min v 65000 ≤ ps.po → j = .fault →
       exec (.readingPair h p j) s = .next (endByCause h k (.invalid .sensor) (s.setHead h x))))

/-- Entry into DONE: the slot's record takes the outcome, its reasons and the ripple, the permit drops, the
outcome is counted, a proving outcome sets the proving record, TEST_DONE is raised, an overpressure posts
finding 202 to an ordinary slot, and the verdict at a stable SETTLE window posts its findings. A counter is raised
by one, and one at 65,535 is only marked saturated. -/
def Obligations.TestsEndInDone : Prop :=
  ∀ (s : State) (h : HeadId) (k : SlotId),
    let x := s.slot k
    let y := s.head h
    let unproved (u : State) : State := if y.proving = none then u else raise (.headUnproved h) u
    let counted (o : TestOutcome) (lost : Bool) : Stats :=
      { begun := y.live.begun
        passed := if o = .pass then y.live.passed.raise else y.live.passed
        condemned := if o = .condemn then y.live.condemned.raise else y.live.condemned
        invalid := if o = .invalid then y.live.invalid.raise else y.live.invalid
        losses := if lost then y.live.losses.raise else y.live.losses }
    let written (o : TestOutcome) (rs : List Reason) (t : TestRecord) : TestRecord :=
      { t with outcome := some o, reasons := rs, ripple := y.ripple }
    (∀ r, x.isProving = false →
      endByCause h k (.invalid r) s =
        raise (.testDone h)
          ((s.setSlot k { x with test := x.test.map (written .invalid [r]) }).setHead h
            { y with phase := .done, permit := false, live := counted .invalid (r = .pressureLoss) })) ∧
    (∀ v, x.isProving = false →
      endByCause h k (.overpressure v) s =
        raise (.testDone h)
          ((s.setSlot k
            { x.post ⟨202, .condemn, .unit, some v⟩ with test := x.test.map (written .condemn [.overpressure]) }).setHead h
            { y with phase := .done, permit := false, live := counted .condemn false })) ∧
    (∀ cause : EndCause, x.isProving = true →
      endByCause h k cause s =
        raise (.testDone h) (unproved
          ((s.setSlot k { x with test := x.test.map (written .notProved [cause.reason]) }).setHead h
            { y with
              phase := .done, permit := false, proving := none,
              live := counted .notProved (cause.reason = .pressureLoss) }))) ∧
    (∀ c : Counter, c.raise = if c.n = 65535 then ⟨65535, true⟩ else ⟨c.n + 1, c.saturated⟩) ∧
    ∀ (ty : TypeFields) (t p : Int), y.t = some t →
      (x.isProving = false →
        let v := ordinaryVerdict ty x.ree t p
        evaluate h k ty p s =
          raise (.testDone h)
            ((s.setSlot k
              { v.findings.foldl Slot.post x with
                test := x.test.map fun r =>
                  { written v.outcome v.reasons r with p := some p, q := v.q, e := v.e, star := v.star } }).setHead h
              { y with phase := .done, permit := false, live := counted v.outcome false })) ∧
      ∀ (tn lt : Nat) (ps : Pressures), x.isProving = true → ty.tn = some tn → ty.lt = some lt → y.pressures = some ps →
        let good := 0 < t ∧ (t - (tn : Int)).natAbs * 1000 ≤ lt * tn
        let o : TestOutcome := if good then .proved else .notProved
        let u := (s.setSlot k
          { x with
            test := x.test.map fun r =>
              { written o (if t ≤ 0 then [.noExpansion] else []) r with p := some p, q := none, e := none, star := false } }).setHead
          h
          { y with
            phase := .done, permit := false, live := counted o false
            proving := if good then some ⟨ps.pa, s.clock, 0⟩ else none }
        evaluate h k ty p s = raise (.testDone h) (if good then u else unproved u)

/-! ### The clock -/

/-- A second of the unit clock: the timers of L1 to L5 rise, a RUNNING one that reaches the limit is LOST and
its claims dropped, a PROVED record that runs out lapses, and the pending sets take exactly LINK_LOST towards L0,
HEAD_UNPROVED towards L0 and L2, and STAMP_READY and SCRAP_READY of the dropped claims, short of a STOPPED link. The
model's readings: the timers rise with a limit of 0 and on a LOST link too (notes/assumptions/14.md);
SILENCE_TIMEOUT and LAPSE_BY_TIME are that second when it makes them due, and the timers stop with the clock
(notes/assumptions/3.md). -/
def Obligations.ClockAdvances : Prop :=
  ∀ s : State, s.powered = true → RollLaw s →
    (4294967295 ≤ s.clock → exec .unitClockAdvance s = .next s) ∧
    (s.clock < 4294967295 → ∃ t, exec .unitClockAdvance s = .next t ∧
      let lost (l : LinkId) := l ≠ .L0 ∧ (s.link l).state = .running ∧ s.limits.silence ≠ 0 ∧
        s.limits.silence ≤ (s.link l).timer + 1
      let expired (h : HeadId) := ∃ p, (s.head h).proving = some p ∧ p.provedAt + s.limits.validity * 60 ≤ s.clock + 1
      t.clock = s.clock + 1 ∧
      (∀ l, (t.link l).timer = if l = .L0 ∨ (s.link l).state = .stopped then (s.link l).timer else (s.link l).timer + 1) ∧
      (∀ l, (lost l → (t.link l).state = .lost) ∧ (¬ lost l → (t.link l).state = (s.link l).state)) ∧
      (∀ l, t.link l =
        { s.link l with state := (t.link l).state, timer := (t.link l).timer, pending := (t.link l).pending }) ∧
      (∀ h, (expired h → t.head h = { s.head h with proving := none }) ∧ (¬ expired h → t.head h = s.head h)) ∧
      (∀ k, (∀ l, lost l → (s.slot k).holder = some (.link l) →
          t.slot k = { s.slot k with state := (s.slot k).state.returned, holder := none }) ∧
        ((∀ l, lost l → (s.slot k).holder ≠ some (.link l)) → t.slot k = s.slot k)) ∧
      (let raised (l : LinkId) (n : Notice) : Prop :=
         (l = .L0 ∧ ∃ m, lost m ∧ n = .linkLost m) ∨ ((l = .L0 ∨ l = .L2) ∧ ∃ h, expired h ∧ n = .headUnproved h) ∨
         (l = .L3 ∧ n = .stampReady ∧ lost .L3 ∧ ∃ k, (s.slot k).holder = some (.link .L3)) ∨
         (l = .L4 ∧ n = .scrapReady ∧ lost .L4 ∧ ∃ k, (s.slot k).holder = some (.link .L4))
       ∀ l n, n ∈ (t.link l).pending ↔ n ∈ (s.link l).pending ∨ ((s.link l).state ≠ .stopped ∧ raised l n)) ∧
      t = { s with clock := t.clock, links := t.links, heads := t.heads, slots := t.slots } ∧
      (∀ l, lost l → exec (.silenceTimeout l) s = .next t) ∧
      ∀ h, expired h → exec (.lapseByTime h) s = .next t)

/-! ### Arithmetic -/

/-- The attempt pressures of a LOADED type, for every attempt: the formulas, their fixed order, and Po below a
saturated reading. -/
def Obligations.AttemptPressuresAreOrdered : Prop :=
  ∀ (ty : TypeFields) (proving : Bool) (n : Nat), TypeSound ty → 1 ≤ n →
    let pa := attemptPa ty proving n
    let ps := pressuresAt ty pa
    pa = (if proving = true ∨ n = 1 then ty.pt else ty.pt + ty.pt * ty.lr / 1000) ∧
      ps = ⟨pa, pa + pa * ty.lo / 1000, pa - pa * ty.ld / 1000, pa * 50 / 1000⟩ ∧
      ps.pr < ps.pl ∧ ps.pl + 5 ≤ ps.pa ∧ ps.pa ≤ ps.po ∧ ps.po ≤ 64999 ∧ 50 ≤ ps.pr ∧ ty.pt ≤ pa ∧ 1000 ≤ pa

/-- The rounded mean of W values: the integer nearest to S / W, an exact half rounded up for every sign; z is
that mean of the raw readings, T and P that of the readings less z, and all stay in their ranges. The spread of a
window is its greatest raw reading less its least. -/
def Obligations.MeansRoundHalfUp : Prop :=
  (∀ (window : List Nat) (greatest least : Nat), greatest ∈ window → least ∈ window →
    (∀ r ∈ window, least ≤ r ∧ r ≤ greatest) → spread window = greatest - least) ∧
  ∀ w : Nat, w = 8 ∨ w = 16 ∨ w = 32 ∨ w = 64 →
    (∀ sum m : Int, roundedMean w sum = m ↔ 2 * w * m - w ≤ 2 * sum ∧ 2 * sum < 2 * w * m + w) ∧
    ∀ window : List Nat, window.length = w → (∀ r ∈ window, r ≤ 65000) →
      (meanRaw w window : Int) = roundedMean w (window.map fun r => (r : Int)).sum ∧ meanRaw w window ≤ 65000 ∧
      ∀ z, z ≤ 65000 →
        meanAligned w z window = roundedMean w (window.map fun r => (r : Int) - (z : Int)).sum ∧
          -65000 ≤ meanAligned w z window ∧ meanAligned w z window ≤ 65000

/-- The verdict of an ordinary slot: INVALID with NO_EXPANSION when T is not above 0; else P clamped into 0 to
T decides both criteria on exact products, q and E are formed, the star is earned, and the findings of a
CONDEMN are given, 203 before 204. -/
def Obligations.OrdinaryVerdictByExactProducts : Prop :=
  ∀ (ty : TypeFields) (ree : Option Nat) (t p : Int),
    let v := ordinaryVerdict ty ree t p
    (t ≤ 0 → v = ⟨.invalid, [.noExpansion], none, none, false, []⟩) ∧
    (0 < t → ∃ total pc : Nat, (total : Int) = t ∧ pc ≤ total ∧
      (p < 0 → pc = 0) ∧ (0 ≤ p → p ≤ t → (pc : Int) = p) ∧ (t < p → pc = total) ∧
      let perm := ty.lp * total < pc * 1000
      let limit := ree.getD ty.ree
      let elas := 0 < limit ∧ limit < total - pc
      ∃ q, v.q = some q ∧ v.e = some (total - pc) ∧ q * total ≤ pc * 10000 + total / 2 ∧
        pc * 10000 + total / 2 < (q + 1) * total ∧ q ≤ 10000 ∧ (pc = 0 → q = 0) ∧ (pc = total → q = 10000) ∧
        (v.outcome = .pass ↔ ¬ perm ∧ ¬ elas) ∧ (v.outcome = .condemn ↔ perm ∨ elas) ∧
        (perm → ¬ elas → v.reasons = [.permanent] ∧ v.findings = [⟨203, .condemn, .unit, some q⟩]) ∧
        (¬ perm → elas → v.reasons = [.elastic] ∧ v.findings = [⟨204, .condemn, .unit, some (total - pc)⟩]) ∧
        (perm → elas → v.reasons = [.permanent, .elastic] ∧
          v.findings = [⟨203, .condemn, .unit, some q⟩, ⟨204, .condemn, .unit, some (total - pc)⟩]) ∧
        (¬ perm → ¬ elas → v.reasons = [] ∧ v.findings = []) ∧
        (v.star = true ↔ v.outcome = .pass ∧ 0 < ty.ls ∧ pc * 1000 ≤ ty.ls * total))
end

