-- ==== Sys2Proof/Laws/State.lean ====
section
/-! SUPPORT. The small lemmas of State: what each update of one part leaves of every field, and what a read of
a part gives after it. Tagged for simp, so that no later proof unfolds a record update. -/

namespace Sys2Proof.Machine

/-! ### One value per link, per head, per fault -/

@[simp] theorem PerLink.get_set_self {α : Type} (v : PerLink α) (l : LinkId) (x : α) : (v.set l x).get l = x := by
  cases l <;> rfl

@[simp] theorem PerLink.get_set_other {α : Type} (v : PerLink α) (l m : LinkId) (x : α) (h : m ≠ l) :
    (v.set l x).get m = v.get m := by
  cases l <;> cases m <;> first | rfl | exact absurd rfl h

@[simp] theorem PerLink.set_set {α : Type} (v : PerLink α) (l : LinkId) (x y : α) : (v.set l x).set l y = v.set l y := by
  cases l <;> rfl

@[simp] theorem PerLink.set_get {α : Type} (v : PerLink α) (l : LinkId) : v.set l (v.get l) = v := by cases l <;> rfl

@[simp] theorem PerLink.get_all {α : Type} (x : α) (l : LinkId) : (PerLink.all x).get l = x := by cases l <;> rfl

/-- Two per-link values that agree at every link are equal. -/
theorem PerLink.ext_get {α : Type} (v w : PerLink α) (h : ∀ l, v.get l = w.get l) : v = w := by
  obtain ⟨a, b, c, d, e, f⟩ := v
  obtain ⟨a', b', c', d', e', f'⟩ := w
  have h0 : a = a' := h .L0
  have h1 : b = b' := h .L1
  have h2 : c = c' := h .L2
  have h3 : d = d' := h .L3
  have h4 : e = e' := h .L4
  have h5 : f = f' := h .L5
  rw [h0, h1, h2, h3, h4, h5]

@[simp] theorem PerHead.get_set_self {α : Type} (v : PerHead α) (h : HeadId) (x : α) : (v.set h x).get h = x := by
  cases h <;> rfl

@[simp] theorem PerHead.get_set_other {α : Type} (v : PerHead α) (h g : HeadId) (x : α) (n : g ≠ h) :
    (v.set h x).get g = v.get g := by
  cases h <;> cases g <;> first | rfl | exact absurd rfl n

@[simp] theorem PerHead.set_set {α : Type} (v : PerHead α) (h : HeadId) (x y : α) : (v.set h x).set h y = v.set h y := by
  cases h <;> rfl

@[simp] theorem PerHead.set_get {α : Type} (v : PerHead α) (h : HeadId) : v.set h (v.get h) = v := by cases h <;> rfl

@[simp] theorem PerHead.get_all {α : Type} (x : α) (h : HeadId) : (PerHead.all x).get h = x := by cases h <;> rfl

/-- Two per-head values that agree at every head are equal. -/
theorem PerHead.ext_get {α : Type} (v w : PerHead α) (n : ∀ h, v.get h = w.get h) : v = w := by
  obtain ⟨a, b, c, d⟩ := v
  obtain ⟨a', b', c', d'⟩ := w
  have h0 : a = a' := n .H0
  have h1 : b = b' := n .H1
  have h2 : c = c' := n .H2
  have h3 : d = d' := n .H3
  rw [h0, h1, h2, h3]

@[simp] theorem PerFault.get_set_self {α : Type} (v : PerFault α) (f : LinkFault) (x : α) : (v.set f x).get f = x := by
  cases f <;> rfl

@[simp] theorem PerFault.get_set_other {α : Type} (v : PerFault α) (f g : LinkFault) (x : α) (n : g ≠ f) :
    (v.set f x).get g = v.get g := by
  cases f <;> cases g <;> first | rfl | exact absurd rfl n

/-! ### Every field after every update -/

@[simp] theorem State.setSlot_powered (s : State) (k : SlotId) (x : Slot) : (s.setSlot k x).powered = s.powered := rfl
@[simp] theorem State.setSlot_links (s : State) (k : SlotId) (x : Slot) : (s.setSlot k x).links = s.links := rfl
@[simp] theorem State.setSlot_index (s : State) (k : SlotId) (x : Slot) : (s.setSlot k x).index = s.index := rfl
@[simp] theorem State.setSlot_referral (s : State) (k : SlotId) (x : Slot) :
    (s.setSlot k x).referral = s.referral := rfl
@[simp] theorem State.setSlot_closingQueue (s : State) (k : SlotId) (x : Slot) :
    (s.setSlot k x).closingQueue = s.closingQueue := rfl
@[simp] theorem State.setSlot_types (s : State) (k : SlotId) (x : Slot) : (s.setSlot k x).types = s.types := rfl
@[simp] theorem State.setSlot_mark (s : State) (k : SlotId) (x : Slot) : (s.setSlot k x).mark = s.mark := rfl
@[simp] theorem State.setSlot_limits (s : State) (k : SlotId) (x : Slot) : (s.setSlot k x).limits = s.limits := rfl
@[simp] theorem State.setSlot_calendar (s : State) (k : SlotId) (x : Slot) :
    (s.setSlot k x).calendar = s.calendar := rfl
@[simp] theorem State.setSlot_manualDate (s : State) (k : SlotId) (x : Slot) :
    (s.setSlot k x).manualDate = s.manualDate := rfl
@[simp] theorem State.setSlot_recordCounter (s : State) (k : SlotId) (x : Slot) :
    (s.setSlot k x).recordCounter = s.recordCounter := rfl
@[simp] theorem State.setSlot_heads (s : State) (k : SlotId) (x : Slot) : (s.setSlot k x).heads = s.heads := rfl
@[simp] theorem State.setSlot_snapHeader (s : State) (k : SlotId) (x : Slot) :
    (s.setSlot k x).snapHeader = s.snapHeader := rfl
@[simp] theorem State.setSlot_clock (s : State) (k : SlotId) (x : Slot) : (s.setSlot k x).clock = s.clock := rfl
@[simp] theorem State.setSlot_pageA (s : State) (k : SlotId) (x : Slot) : (s.setSlot k x).pageA = s.pageA := rfl
@[simp] theorem State.setSlot_pageB (s : State) (k : SlotId) (x : Slot) : (s.setSlot k x).pageB = s.pageB := rfl
@[simp] theorem State.setSlot_presented (s : State) (k : SlotId) (x : Slot) :
    (s.setSlot k x).presented = s.presented := rfl
@[simp] theorem State.setSlot_pending (s : State) (k : SlotId) (x : Slot) : (s.setSlot k x).pending = s.pending := rfl

@[simp] theorem State.updLink_powered (s : State) (l : LinkId) (f : Link → Link) :
    (s.updLink l f).powered = s.powered := rfl
@[simp] theorem State.updLink_slots (s : State) (l : LinkId) (f : Link → Link) :
    (s.updLink l f).slots = s.slots := rfl
@[simp] theorem State.updLink_index (s : State) (l : LinkId) (f : Link → Link) :
    (s.updLink l f).index = s.index := rfl
@[simp] theorem State.updLink_referral (s : State) (l : LinkId) (f : Link → Link) :
    (s.updLink l f).referral = s.referral := rfl
@[simp] theorem State.updLink_closingQueue (s : State) (l : LinkId) (f : Link → Link) :
    (s.updLink l f).closingQueue = s.closingQueue := rfl
@[simp] theorem State.updLink_types (s : State) (l : LinkId) (f : Link → Link) :
    (s.updLink l f).types = s.types := rfl
@[simp] theorem State.updLink_mark (s : State) (l : LinkId) (f : Link → Link) : (s.updLink l f).mark = s.mark := rfl
@[simp] theorem State.updLink_limits (s : State) (l : LinkId) (f : Link → Link) :
    (s.updLink l f).limits = s.limits := rfl
@[simp] theorem State.updLink_calendar (s : State) (l : LinkId) (f : Link → Link) :
    (s.updLink l f).calendar = s.calendar := rfl
@[simp] theorem State.updLink_manualDate (s : State) (l : LinkId) (f : Link → Link) :
    (s.updLink l f).manualDate = s.manualDate := rfl
@[simp] theorem State.updLink_recordCounter (s : State) (l : LinkId) (f : Link → Link) :
    (s.updLink l f).recordCounter = s.recordCounter := rfl
@[simp] theorem State.updLink_heads (s : State) (l : LinkId) (f : Link → Link) :
    (s.updLink l f).heads = s.heads := rfl
@[simp] theorem State.updLink_snapHeader (s : State) (l : LinkId) (f : Link → Link) :
    (s.updLink l f).snapHeader = s.snapHeader := rfl
@[simp] theorem State.updLink_clock (s : State) (l : LinkId) (f : Link → Link) :
    (s.updLink l f).clock = s.clock := rfl
@[simp] theorem State.updLink_pageA (s : State) (l : LinkId) (f : Link → Link) :
    (s.updLink l f).pageA = s.pageA := rfl
@[simp] theorem State.updLink_pageB (s : State) (l : LinkId) (f : Link → Link) :
    (s.updLink l f).pageB = s.pageB := rfl
@[simp] theorem State.updLink_presented (s : State) (l : LinkId) (f : Link → Link) :
    (s.updLink l f).presented = s.presented := rfl
@[simp] theorem State.updLink_pending (s : State) (l : LinkId) (f : Link → Link) :
    (s.updLink l f).pending = s.pending := rfl

@[simp] theorem State.setHead_powered (s : State) (h : HeadId) (x : Head) : (s.setHead h x).powered = s.powered := rfl
@[simp] theorem State.setHead_links (s : State) (h : HeadId) (x : Head) : (s.setHead h x).links = s.links := rfl
@[simp] theorem State.setHead_slots (s : State) (h : HeadId) (x : Head) : (s.setHead h x).slots = s.slots := rfl
@[simp] theorem State.setHead_index (s : State) (h : HeadId) (x : Head) : (s.setHead h x).index = s.index := rfl
@[simp] theorem State.setHead_referral (s : State) (h : HeadId) (x : Head) :
    (s.setHead h x).referral = s.referral := rfl
@[simp] theorem State.setHead_closingQueue (s : State) (h : HeadId) (x : Head) :
    (s.setHead h x).closingQueue = s.closingQueue := rfl
@[simp] theorem State.setHead_types (s : State) (h : HeadId) (x : Head) : (s.setHead h x).types = s.types := rfl
@[simp] theorem State.setHead_mark (s : State) (h : HeadId) (x : Head) : (s.setHead h x).mark = s.mark := rfl
@[simp] theorem State.setHead_limits (s : State) (h : HeadId) (x : Head) : (s.setHead h x).limits = s.limits := rfl
@[simp] theorem State.setHead_calendar (s : State) (h : HeadId) (x : Head) :
    (s.setHead h x).calendar = s.calendar := rfl
@[simp] theorem State.setHead_manualDate (s : State) (h : HeadId) (x : Head) :
    (s.setHead h x).manualDate = s.manualDate := rfl
@[simp] theorem State.setHead_recordCounter (s : State) (h : HeadId) (x : Head) :
    (s.setHead h x).recordCounter = s.recordCounter := rfl
@[simp] theorem State.setHead_snapHeader (s : State) (h : HeadId) (x : Head) :
    (s.setHead h x).snapHeader = s.snapHeader := rfl
@[simp] theorem State.setHead_clock (s : State) (h : HeadId) (x : Head) : (s.setHead h x).clock = s.clock := rfl
@[simp] theorem State.setHead_pageA (s : State) (h : HeadId) (x : Head) : (s.setHead h x).pageA = s.pageA := rfl
@[simp] theorem State.setHead_pageB (s : State) (h : HeadId) (x : Head) : (s.setHead h x).pageB = s.pageB := rfl
@[simp] theorem State.setHead_presented (s : State) (h : HeadId) (x : Head) :
    (s.setHead h x).presented = s.presented := rfl
@[simp] theorem State.setHead_pending (s : State) (h : HeadId) (x : Head) : (s.setHead h x).pending = s.pending := rfl

@[simp] theorem State.setType_powered (s : State) (i : TypeId) (e : TypeEntry) :
    (s.setType i e).powered = s.powered := rfl
@[simp] theorem State.setType_links (s : State) (i : TypeId) (e : TypeEntry) : (s.setType i e).links = s.links := rfl
@[simp] theorem State.setType_slots (s : State) (i : TypeId) (e : TypeEntry) : (s.setType i e).slots = s.slots := rfl
@[simp] theorem State.setType_index (s : State) (i : TypeId) (e : TypeEntry) : (s.setType i e).index = s.index := rfl
@[simp] theorem State.setType_referral (s : State) (i : TypeId) (e : TypeEntry) :
    (s.setType i e).referral = s.referral := rfl
@[simp] theorem State.setType_closingQueue (s : State) (i : TypeId) (e : TypeEntry) :
    (s.setType i e).closingQueue = s.closingQueue := rfl
@[simp] theorem State.setType_mark (s : State) (i : TypeId) (e : TypeEntry) : (s.setType i e).mark = s.mark := rfl
@[simp] theorem State.setType_limits (s : State) (i : TypeId) (e : TypeEntry) :
    (s.setType i e).limits = s.limits := rfl
@[simp] theorem State.setType_calendar (s : State) (i : TypeId) (e : TypeEntry) :
    (s.setType i e).calendar = s.calendar := rfl
@[simp] theorem State.setType_manualDate (s : State) (i : TypeId) (e : TypeEntry) :
    (s.setType i e).manualDate = s.manualDate := rfl
@[simp] theorem State.setType_recordCounter (s : State) (i : TypeId) (e : TypeEntry) :
    (s.setType i e).recordCounter = s.recordCounter := rfl
@[simp] theorem State.setType_heads (s : State) (i : TypeId) (e : TypeEntry) : (s.setType i e).heads = s.heads := rfl
@[simp] theorem State.setType_snapHeader (s : State) (i : TypeId) (e : TypeEntry) :
    (s.setType i e).snapHeader = s.snapHeader := rfl
@[simp] theorem State.setType_clock (s : State) (i : TypeId) (e : TypeEntry) : (s.setType i e).clock = s.clock := rfl
@[simp] theorem State.setType_pageA (s : State) (i : TypeId) (e : TypeEntry) : (s.setType i e).pageA = s.pageA := rfl
@[simp] theorem State.setType_pageB (s : State) (i : TypeId) (e : TypeEntry) : (s.setType i e).pageB = s.pageB := rfl
@[simp] theorem State.setType_presented (s : State) (i : TypeId) (e : TypeEntry) :
    (s.setType i e).presented = s.presented := rfl
@[simp] theorem State.setType_pending (s : State) (i : TypeId) (e : TypeEntry) :
    (s.setType i e).pending = s.pending := rfl

@[simp] theorem State.bind_powered (s : State) (i : Fin 255) (k : Option SlotId) :
    (s.bind i k).powered = s.powered := rfl
@[simp] theorem State.bind_links (s : State) (i : Fin 255) (k : Option SlotId) : (s.bind i k).links = s.links := rfl
@[simp] theorem State.bind_slots (s : State) (i : Fin 255) (k : Option SlotId) : (s.bind i k).slots = s.slots := rfl
@[simp] theorem State.bind_referral (s : State) (i : Fin 255) (k : Option SlotId) :
    (s.bind i k).referral = s.referral := rfl
@[simp] theorem State.bind_closingQueue (s : State) (i : Fin 255) (k : Option SlotId) :
    (s.bind i k).closingQueue = s.closingQueue := rfl
@[simp] theorem State.bind_types (s : State) (i : Fin 255) (k : Option SlotId) : (s.bind i k).types = s.types := rfl
@[simp] theorem State.bind_mark (s : State) (i : Fin 255) (k : Option SlotId) : (s.bind i k).mark = s.mark := rfl
@[simp] theorem State.bind_limits (s : State) (i : Fin 255) (k : Option SlotId) :
    (s.bind i k).limits = s.limits := rfl
@[simp] theorem State.bind_calendar (s : State) (i : Fin 255) (k : Option SlotId) :
    (s.bind i k).calendar = s.calendar := rfl
@[simp] theorem State.bind_manualDate (s : State) (i : Fin 255) (k : Option SlotId) :
    (s.bind i k).manualDate = s.manualDate := rfl
@[simp] theorem State.bind_recordCounter (s : State) (i : Fin 255) (k : Option SlotId) :
    (s.bind i k).recordCounter = s.recordCounter := rfl
@[simp] theorem State.bind_heads (s : State) (i : Fin 255) (k : Option SlotId) : (s.bind i k).heads = s.heads := rfl
@[simp] theorem State.bind_snapHeader (s : State) (i : Fin 255) (k : Option SlotId) :
    (s.bind i k).snapHeader = s.snapHeader := rfl
@[simp] theorem State.bind_clock (s : State) (i : Fin 255) (k : Option SlotId) : (s.bind i k).clock = s.clock := rfl
@[simp] theorem State.bind_pageA (s : State) (i : Fin 255) (k : Option SlotId) : (s.bind i k).pageA = s.pageA := rfl
@[simp] theorem State.bind_pageB (s : State) (i : Fin 255) (k : Option SlotId) : (s.bind i k).pageB = s.pageB := rfl
@[simp] theorem State.bind_presented (s : State) (i : Fin 255) (k : Option SlotId) :
    (s.bind i k).presented = s.presented := rfl
@[simp] theorem State.bind_pending (s : State) (i : Fin 255) (k : Option SlotId) :
    (s.bind i k).pending = s.pending := rfl

@[simp] theorem State.setPage_powered (s : State) (p : PageId) (x : Page) :
    (s.setPage p x).powered = s.powered := by cases p <;> rfl
@[simp] theorem State.setPage_links (s : State) (p : PageId) (x : Page) :
    (s.setPage p x).links = s.links := by cases p <;> rfl
@[simp] theorem State.setPage_slots (s : State) (p : PageId) (x : Page) :
    (s.setPage p x).slots = s.slots := by cases p <;> rfl
@[simp] theorem State.setPage_index (s : State) (p : PageId) (x : Page) :
    (s.setPage p x).index = s.index := by cases p <;> rfl
@[simp] theorem State.setPage_referral (s : State) (p : PageId) (x : Page) :
    (s.setPage p x).referral = s.referral := by cases p <;> rfl
@[simp] theorem State.setPage_closingQueue (s : State) (p : PageId) (x : Page) :
    (s.setPage p x).closingQueue = s.closingQueue := by cases p <;> rfl
@[simp] theorem State.setPage_types (s : State) (p : PageId) (x : Page) :
    (s.setPage p x).types = s.types := by cases p <;> rfl
@[simp] theorem State.setPage_mark (s : State) (p : PageId) (x : Page) :
    (s.setPage p x).mark = s.mark := by cases p <;> rfl
@[simp] theorem State.setPage_limits (s : State) (p : PageId) (x : Page) :
    (s.setPage p x).limits = s.limits := by cases p <;> rfl
@[simp] theorem State.setPage_calendar (s : State) (p : PageId) (x : Page) :
    (s.setPage p x).calendar = s.calendar := by cases p <;> rfl
@[simp] theorem State.setPage_manualDate (s : State) (p : PageId) (x : Page) :
    (s.setPage p x).manualDate = s.manualDate := by cases p <;> rfl
@[simp] theorem State.setPage_recordCounter (s : State) (p : PageId) (x : Page) :
    (s.setPage p x).recordCounter = s.recordCounter := by cases p <;> rfl
@[simp] theorem State.setPage_heads (s : State) (p : PageId) (x : Page) :
    (s.setPage p x).heads = s.heads := by cases p <;> rfl
@[simp] theorem State.setPage_snapHeader (s : State) (p : PageId) (x : Page) :
    (s.setPage p x).snapHeader = s.snapHeader := by cases p <;> rfl
@[simp] theorem State.setPage_clock (s : State) (p : PageId) (x : Page) :
    (s.setPage p x).clock = s.clock := by cases p <;> rfl
@[simp] theorem State.setPage_presented (s : State) (p : PageId) (x : Page) :
    (s.setPage p x).presented = s.presented := by cases p <;> rfl
@[simp] theorem State.setPage_pending (s : State) (p : PageId) (x : Page) :
    (s.setPage p x).pending = s.pending := by cases p <;> rfl

@[simp] theorem State.unbind_powered (s : State) (c : Nat) :
    (s.unbind c).powered = s.powered := by unfold State.unbind; split <;> rfl
@[simp] theorem State.unbind_links (s : State) (c : Nat) :
    (s.unbind c).links = s.links := by unfold State.unbind; split <;> rfl
@[simp] theorem State.unbind_slots (s : State) (c : Nat) :
    (s.unbind c).slots = s.slots := by unfold State.unbind; split <;> rfl
@[simp] theorem State.unbind_referral (s : State) (c : Nat) :
    (s.unbind c).referral = s.referral := by unfold State.unbind; split <;> rfl
@[simp] theorem State.unbind_closingQueue (s : State) (c : Nat) :
    (s.unbind c).closingQueue = s.closingQueue := by unfold State.unbind; split <;> rfl
@[simp] theorem State.unbind_types (s : State) (c : Nat) :
    (s.unbind c).types = s.types := by unfold State.unbind; split <;> rfl
@[simp] theorem State.unbind_mark (s : State) (c : Nat) :
    (s.unbind c).mark = s.mark := by unfold State.unbind; split <;> rfl
@[simp] theorem State.unbind_limits (s : State) (c : Nat) :
    (s.unbind c).limits = s.limits := by unfold State.unbind; split <;> rfl
@[simp] theorem State.unbind_calendar (s : State) (c : Nat) :
    (s.unbind c).calendar = s.calendar := by unfold State.unbind; split <;> rfl
@[simp] theorem State.unbind_manualDate (s : State) (c : Nat) :
    (s.unbind c).manualDate = s.manualDate := by unfold State.unbind; split <;> rfl
@[simp] theorem State.unbind_recordCounter (s : State) (c : Nat) :
    (s.unbind c).recordCounter = s.recordCounter := by unfold State.unbind; split <;> rfl
@[simp] theorem State.unbind_heads (s : State) (c : Nat) :
    (s.unbind c).heads = s.heads := by unfold State.unbind; split <;> rfl
@[simp] theorem State.unbind_snapHeader (s : State) (c : Nat) :
    (s.unbind c).snapHeader = s.snapHeader := by unfold State.unbind; split <;> rfl
@[simp] theorem State.unbind_clock (s : State) (c : Nat) :
    (s.unbind c).clock = s.clock := by unfold State.unbind; split <;> rfl
@[simp] theorem State.unbind_pageA (s : State) (c : Nat) :
    (s.unbind c).pageA = s.pageA := by unfold State.unbind; split <;> rfl
@[simp] theorem State.unbind_pageB (s : State) (c : Nat) :
    (s.unbind c).pageB = s.pageB := by unfold State.unbind; split <;> rfl
@[simp] theorem State.unbind_presented (s : State) (c : Nat) :
    (s.unbind c).presented = s.presented := by unfold State.unbind; split <;> rfl
@[simp] theorem State.unbind_pending (s : State) (c : Nat) :
    (s.unbind c).pending = s.pending := by unfold State.unbind; split <;> rfl

/-! ### Slots -/

/-- A slot read after a slot is written. -/
theorem State.slot_setSlot (s : State) (k j : SlotId) (x : Slot) : (s.setSlot k x).slot j = if j = k then x else s.slot j := by
  simp only [State.slot, State.setSlot, Fin.getElem_fin, Vector.getElem_set]
  by_cases h : j = k
  · simp [h]
  · have : k.val ≠ j.val := fun e => h (Fin.ext e.symm)
    simp [h, this]

@[simp] theorem State.slot_setSlot_self (s : State) (k : SlotId) (x : Slot) : (s.setSlot k x).slot k = x := by
  simp [State.slot_setSlot]

@[simp] theorem State.slot_setSlot_other (s : State) (k j : SlotId) (x : Slot) (h : j ≠ k) :
    (s.setSlot k x).slot j = s.slot j := by
  simp [State.slot_setSlot, h]

@[simp] theorem State.setSlot_setSlot (s : State) (k : SlotId) (x y : Slot) : (s.setSlot k x).setSlot k y = s.setSlot k y := by
  simp [State.setSlot]

@[simp] theorem State.setSlot_slot (s : State) (k : SlotId) : s.setSlot k (s.slot k) = s := by
  simp [State.setSlot, State.slot]

@[simp] theorem State.updSlot_eq (s : State) (k : SlotId) (f : Slot → Slot) : s.updSlot k f = s.setSlot k (f (s.slot k)) := rfl

@[simp] theorem State.slot_updLink (s : State) (l : LinkId) (f : Link → Link) (k : SlotId) : (s.updLink l f).slot k = s.slot k := rfl

@[simp] theorem State.slot_setHead (s : State) (h : HeadId) (x : Head) (k : SlotId) : (s.setHead h x).slot k = s.slot k := rfl

@[simp] theorem State.slot_setType (s : State) (i : TypeId) (e : TypeEntry) (k : SlotId) : (s.setType i e).slot k = s.slot k := rfl

@[simp] theorem State.slot_bind (s : State) (i : Fin 255) (j : Option SlotId) (k : SlotId) : (s.bind i j).slot k = s.slot k := rfl

@[simp] theorem State.slot_setPage (s : State) (p : PageId) (x : Page) (k : SlotId) : (s.setPage p x).slot k = s.slot k := by
  cases p <;> rfl

@[simp] theorem State.slot_unbind (s : State) (c : Nat) (k : SlotId) : (s.unbind c).slot k = s.slot k := by
  simp [State.slot]

/-- Two rolls that agree at every slot are equal. -/
theorem slots_ext (s t : State) (h : ∀ k, s.slot k = t.slot k) : s.slots = t.slots := by
  apply Vector.ext
  intro i hi
  exact h ⟨i, hi⟩

/-! ### Links -/

/-- A link read after a link is changed. -/
theorem State.link_updLink (s : State) (l m : LinkId) (f : Link → Link) :
    (s.updLink l f).link m = if m = l then f (s.link l) else s.link m := by
  by_cases h : m = l
  · simp [h, State.link, State.updLink]
  · simp [h, State.link, State.updLink]

@[simp] theorem State.link_updLink_self (s : State) (l : LinkId) (f : Link → Link) : (s.updLink l f).link l = f (s.link l) := by
  simp [State.link_updLink]

@[simp] theorem State.link_updLink_other (s : State) (l m : LinkId) (f : Link → Link) (h : m ≠ l) :
    (s.updLink l f).link m = s.link m := by
  simp [State.link_updLink, h]

@[simp] theorem State.updLink_updLink (s : State) (l : LinkId) (f g : Link → Link) :
    (s.updLink l f).updLink l g = s.updLink l fun k => g (f k) := by
  simp [State.updLink]

/-- Two changes that give a link the same value are one. -/
theorem State.updLink_congr (s : State) (l : LinkId) (f g : Link → Link) (h : f (s.link l) = g (s.link l)) :
    s.updLink l f = s.updLink l g := by
  simp only [State.updLink, State.link] at *
  rw [h]

/-- A change that gives a link what it holds is none. -/
theorem State.updLink_same (s : State) (l : LinkId) (f : Link → Link) (h : f (s.link l) = s.link l) : s.updLink l f = s := by
  simp only [State.updLink, State.link] at *
  rw [h, PerLink.set_get]

@[simp] theorem State.link_setSlot (s : State) (k : SlotId) (x : Slot) (l : LinkId) : (s.setSlot k x).link l = s.link l := rfl

@[simp] theorem State.link_setHead (s : State) (h : HeadId) (x : Head) (l : LinkId) : (s.setHead h x).link l = s.link l := rfl

@[simp] theorem State.link_setType (s : State) (i : TypeId) (e : TypeEntry) (l : LinkId) : (s.setType i e).link l = s.link l := rfl

@[simp] theorem State.link_bind (s : State) (i : Fin 255) (j : Option SlotId) (l : LinkId) : (s.bind i j).link l = s.link l := rfl

@[simp] theorem State.link_setPage (s : State) (p : PageId) (x : Page) (l : LinkId) : (s.setPage p x).link l = s.link l := by
  cases p <;> rfl

@[simp] theorem State.link_unbind (s : State) (c : Nat) (l : LinkId) : (s.unbind c).link l = s.link l := by
  simp [State.link]

/-! ### Heads -/

/-- A head read after a head is written. -/
theorem State.head_setHead (s : State) (h g : HeadId) (x : Head) : (s.setHead h x).head g = if g = h then x else s.head g := by
  by_cases e : g = h
  · simp [e, State.head, State.setHead]
  · simp [e, State.head, State.setHead]

@[simp] theorem State.head_setHead_self (s : State) (h : HeadId) (x : Head) : (s.setHead h x).head h = x := by
  simp [State.head_setHead]

@[simp] theorem State.head_setHead_other (s : State) (h g : HeadId) (x : Head) (e : g ≠ h) :
    (s.setHead h x).head g = s.head g := by
  simp [State.head_setHead, e]

@[simp] theorem State.setHead_setHead (s : State) (h : HeadId) (x y : Head) : (s.setHead h x).setHead h y = s.setHead h y := by
  simp [State.setHead]

@[simp] theorem State.setHead_head (s : State) (h : HeadId) : s.setHead h (s.head h) = s := by
  simp [State.setHead, State.head]

@[simp] theorem State.updHead_eq (s : State) (h : HeadId) (f : Head → Head) : s.updHead h f = s.setHead h (f (s.head h)) := rfl

@[simp] theorem State.head_setSlot (s : State) (k : SlotId) (x : Slot) (h : HeadId) : (s.setSlot k x).head h = s.head h := rfl

@[simp] theorem State.head_updLink (s : State) (l : LinkId) (f : Link → Link) (h : HeadId) : (s.updLink l f).head h = s.head h := rfl

@[simp] theorem State.head_setType (s : State) (i : TypeId) (e : TypeEntry) (h : HeadId) : (s.setType i e).head h = s.head h := rfl

@[simp] theorem State.head_bind (s : State) (i : Fin 255) (j : Option SlotId) (h : HeadId) : (s.bind i j).head h = s.head h := rfl

@[simp] theorem State.head_setPage (s : State) (p : PageId) (x : Page) (h : HeadId) : (s.setPage p x).head h = s.head h := by
  cases p <;> rfl

/-! ### Updates of different parts commute -/

theorem State.setHead_setSlot (s : State) (h : HeadId) (x : Head) (k : SlotId) (y : Slot) :
    (s.setHead h x).setSlot k y = (s.setSlot k y).setHead h x := rfl

theorem State.updLink_setSlot (s : State) (l : LinkId) (f : Link → Link) (k : SlotId) (y : Slot) :
    (s.updLink l f).setSlot k y = (s.setSlot k y).updLink l f := rfl

theorem State.updLink_setHead (s : State) (l : LinkId) (f : Link → Link) (h : HeadId) (x : Head) :
    (s.updLink l f).setHead h x = (s.setHead h x).updLink l f := rfl

/-! ### Pages -/

@[simp] theorem PageId.other_other (p : PageId) : p.other.other = p := by cases p <;> rfl

@[simp] theorem PageId.other_ne (p : PageId) : p.other ≠ p := by cases p <;> decide

@[simp] theorem State.page_setPage_self (s : State) (p : PageId) (x : Page) : (s.setPage p x).page p = x := by cases p <;> rfl

@[simp] theorem State.page_setPage_other (s : State) (p : PageId) (x : Page) : (s.setPage p x).page p.other = s.page p.other := by
  cases p <;> rfl

@[simp] theorem State.page_setSlot (s : State) (k : SlotId) (x : Slot) (p : PageId) : (s.setSlot k x).page p = s.page p := by
  cases p <;> rfl

@[simp] theorem State.page_updLink (s : State) (l : LinkId) (f : Link → Link) (p : PageId) : (s.updLink l f).page p = s.page p := by
  cases p <;> rfl

@[simp] theorem State.page_setHead (s : State) (h : HeadId) (x : Head) (p : PageId) : (s.setHead h x).page p = s.page p := by
  cases p <;> rfl

/-! ### Type entries -/

/-- A type entry read after an entry is written. -/
theorem State.typeEntry_setType (s : State) (i j : TypeId) (e : TypeEntry) :
    (s.setType i e).typeEntry j = if j = i then e else s.typeEntry j := by
  simp only [State.typeEntry, State.setType, Fin.getElem_fin, Vector.getElem_set]
  by_cases h : j = i
  · simp [h]
  · have : i.val ≠ j.val := fun n => h (Fin.ext n.symm)
    simp [h, this]

@[simp] theorem State.typeEntry_setSlot (s : State) (k : SlotId) (x : Slot) (i : TypeId) :
    (s.setSlot k x).typeEntry i = s.typeEntry i := rfl

@[simp] theorem State.typeEntry_updLink (s : State) (l : LinkId) (f : Link → Link) (i : TypeId) :
    (s.updLink l f).typeEntry i = s.typeEntry i := rfl

@[simp] theorem State.typeEntry_setHead (s : State) (h : HeadId) (x : Head) (i : TypeId) :
    (s.setHead h x).typeEntry i = s.typeEntry i := rfl

@[simp] theorem State.typeOfSlot_setSlot (s : State) (k : SlotId) (x y : Slot) : (s.setSlot k x).typeOfSlot y = s.typeOfSlot y := rfl

@[simp] theorem State.typeOfSlot_updLink (s : State) (l : LinkId) (f : Link → Link) (y : Slot) :
    (s.updLink l f).typeOfSlot y = s.typeOfSlot y := rfl

@[simp] theorem State.typeOfSlot_setHead (s : State) (h : HeadId) (x : Head) (y : Slot) :
    (s.setHead h x).typeOfSlot y = s.typeOfSlot y := rfl

/-! ### The carrier index -/

/-- The carrier index read after an entry is written. -/
theorem State.index_bind (s : State) (i j : Fin 255) (k : Option SlotId) :
    (s.bind i k).index[j] = if j = i then k else s.index[j] := by
  simp only [State.bind, Fin.getElem_fin, Vector.getElem_set]
  by_cases h : j = i
  · simp [h]
  · have : i.val ≠ j.val := fun n => h (Fin.ext n.symm)
    simp [h, this]

/-- A carrier's place in the index: none for 0 and above 255, else one less than its number. -/
theorem carrierPlace_eq_some (c : Nat) (i : Fin 255) : carrierPlace c = some i ↔ c = i.val + 1 := by
  unfold carrierPlace
  split
  · rename_i h
    constructor
    · intro e
      injection e with e
      have : c - 1 = i.val := congrArg Fin.val e
      omega
    · intro e
      congr 1
      exact Fin.ext (show c - 1 = i.val by omega)
  · rename_i h
    constructor
    · intro e
      cases e
    · intro e
      have := i.isLt
      exact absurd ⟨by omega, by omega⟩ h

@[simp] theorem State.bound_setSlot (s : State) (k : SlotId) (x : Slot) (c : Nat) : (s.setSlot k x).bound c = s.bound c := rfl

@[simp] theorem State.bound_updLink (s : State) (l : LinkId) (f : Link → Link) (c : Nat) : (s.updLink l f).bound c = s.bound c := rfl

@[simp] theorem State.bound_setHead (s : State) (h : HeadId) (x : Head) (c : Nat) : (s.setHead h x).bound c = s.bound c := rfl

/-! ### Numbers that name a link, a head, a slot, a type -/

@[simp] theorem linkOf_linkNumber (l : LinkId) : linkOf (linkNumber l) = some l := by cases l <;> rfl

@[simp] theorem headOf_headNumber (h : HeadId) : headOf (headNumber h) = some h := by cases h <;> rfl

/-- Numbers of 6 and above name no link. -/
theorem linkOf_none (n : Nat) (h : 6 ≤ n) : linkOf n = none := by simp [linkOf, allLinks, h]

/-- Numbers of 4 and above name no head. -/
theorem headOf_none (n : Nat) (h : 4 ≤ n) : headOf n = none := by simp [headOf, allHeads, h]

@[simp] theorem slotOf_val (k : SlotId) : slotOf k.val = some k := by simp [slotOf]

/-- Numbers of 48 and above name no slot. -/
theorem slotOf_none (n : Nat) (h : 48 ≤ n) : slotOf n = none := by simp [slotOf, h]

@[simp] theorem typeOf_val (i : TypeId) : typeOf i.val = some i := by simp [typeOf]

/-- Numbers of 32 and above name no type. -/
theorem typeOf_none (n : Nat) (h : 32 ≤ n) : typeOf n = none := by simp [typeOf, h]

end Sys2Proof.Machine
end

