-- ==== Sys2Proof/Laws/Frames.lean ====
section
/-! SUPPORT. What a request frame can do, said once: taken and handled by its block, refused for its role or
its length, or not taken. And what the shared checks of the requests come to. -/

namespace Sys2Proof.Laws

open Sys2Proof.Machine Sys2Proof.Safety

/-! ### The link that took a frame -/

theorem CanTake_ready {s : State} {l : LinkId} (h : CanTake s l) : (s.link l).ready = true := by
  have h1 := h.running
  have h2 := h.listening
  have h3 := h.free
  simp [Link.ready, h1, h2, h3]

/-- A good frame on a link that can take it leaves the state that `heard` names. -/
theorem updLink_goodFrame {s : State} {l : LinkId} (h : CanTake s l) : s.updLink l Link.goodFrame = heard s l := by
  have h1 := h.running
  simp only [State.link] at h1
  simp only [State.updLink, heard, Link.goodFrame]
  generalize s.links.get l = k at h1
  obtain ⟨st, rx, tx, fl, ct, tm, pn, en, ed⟩ := k
  cases st with
  | stopped => exact absurd rfl h1
  | running => rfl
  | lost => rfl

theorem updLink_answer (s : State) (l : LinkId) (code : Nat) (r : Reply) :
    s.updLink l (Link.answer code r) = answered s l code r.status r.body := rfl

@[simp] theorem heard_powered (s : State) (l : LinkId) : (heard s l).powered = s.powered := rfl
@[simp] theorem heard_slots (s : State) (l : LinkId) : (heard s l).slots = s.slots := rfl
@[simp] theorem heard_index (s : State) (l : LinkId) : (heard s l).index = s.index := rfl
@[simp] theorem heard_referral (s : State) (l : LinkId) : (heard s l).referral = s.referral := rfl
@[simp] theorem heard_closingQueue (s : State) (l : LinkId) : (heard s l).closingQueue = s.closingQueue := rfl
@[simp] theorem heard_types (s : State) (l : LinkId) : (heard s l).types = s.types := rfl
@[simp] theorem heard_mark (s : State) (l : LinkId) : (heard s l).mark = s.mark := rfl
@[simp] theorem heard_limits (s : State) (l : LinkId) : (heard s l).limits = s.limits := rfl
@[simp] theorem heard_calendar (s : State) (l : LinkId) : (heard s l).calendar = s.calendar := rfl
@[simp] theorem heard_manualDate (s : State) (l : LinkId) : (heard s l).manualDate = s.manualDate := rfl
@[simp] theorem heard_recordCounter (s : State) (l : LinkId) : (heard s l).recordCounter = s.recordCounter := rfl
@[simp] theorem heard_heads (s : State) (l : LinkId) : (heard s l).heads = s.heads := rfl
@[simp] theorem heard_snapHeader (s : State) (l : LinkId) : (heard s l).snapHeader = s.snapHeader := rfl
@[simp] theorem heard_clock (s : State) (l : LinkId) : (heard s l).clock = s.clock := rfl
@[simp] theorem heard_pageA (s : State) (l : LinkId) : (heard s l).pageA = s.pageA := rfl
@[simp] theorem heard_pageB (s : State) (l : LinkId) : (heard s l).pageB = s.pageB := rfl
@[simp] theorem heard_presented (s : State) (l : LinkId) : (heard s l).presented = s.presented := rfl
@[simp] theorem heard_pending (s : State) (l : LinkId) : (heard s l).pending = s.pending := rfl
@[simp] theorem heard_slot (s : State) (l : LinkId) (k : SlotId) : (heard s l).slot k = s.slot k := rfl
@[simp] theorem heard_head (s : State) (l : LinkId) (h : HeadId) : (heard s l).head h = s.head h := rfl
@[simp] theorem heard_page (s : State) (l : LinkId) (p : PageId) : (heard s l).page p = s.page p := by cases p <;> rfl
@[simp] theorem heard_bound (s : State) (l : LinkId) (c : Nat) : (heard s l).bound c = s.bound c := rfl
@[simp] theorem heard_typeEntry (s : State) (l : LinkId) (i : TypeId) : (heard s l).typeEntry i = s.typeEntry i := rfl
@[simp] theorem heard_typeOfSlot (s : State) (l : LinkId) (x : Slot) : (heard s l).typeOfSlot x = s.typeOfSlot x := rfl
@[simp] theorem heard_locked (s : State) (l : LinkId) (i : TypeId) : (heard s l).locked i = s.locked i := rfl
@[simp] theorem heard_serialOpen (s : State) (l : LinkId) (t : Text) : (heard s l).serialOpen t = s.serialOpen t := rfl
@[simp] theorem heard_lowestFree (s : State) (l : LinkId) : (heard s l).lowestFree = s.lowestFree := rfl
@[simp] theorem heard_fillingPage (s : State) (l : LinkId) : (heard s l).fillingPage = s.fillingPage := rfl

/-- The link that took a frame. -/
@[simp] theorem heard_link_self (s : State) (l : LinkId) :
    (heard s l).link l = { s.link l with state := .running, rx := .hunting, timer := 0 } := by
  simp [heard, State.link]

/-- Every other link stands as it was. -/
@[simp] theorem heard_link_other (s : State) (l m : LinkId) (h : m ≠ l) : (heard s l).link m = s.link m := by
  simp [heard, State.link, h]

/-! ### Answers, and the queue that is empty -/

@[simp] theorem begin_awaited (fl : PerFault Bool) (a : Answer) :
    Outgoing.begin fl ⟨.awaited, a⟩ = ⟨.sending, { a with flags := fl }⟩ := rfl
@[simp] theorem begin_sending (fl : PerFault Bool) (a : Answer) : Outgoing.begin fl ⟨.sending, a⟩ = ⟨.sending, a⟩ := rfl
@[simp] theorem beginAnswer_tx (k : Link) : k.beginAnswer.tx = k.tx.map (Outgoing.begin k.flags) := rfl
@[simp] theorem beginAnswer_state (k : Link) : k.beginAnswer.state = k.state := rfl
@[simp] theorem beginAnswer_rx (k : Link) : k.beginAnswer.rx = k.rx := rfl
@[simp] theorem beginAnswer_flags (k : Link) : k.beginAnswer.flags = k.flags := rfl
@[simp] theorem beginAnswer_counts (k : Link) : k.beginAnswer.counts = k.counts := rfl
@[simp] theorem beginAnswer_timer (k : Link) : k.beginAnswer.timer = k.timer := rfl
@[simp] theorem beginAnswer_pending (k : Link) : k.beginAnswer.pending = k.pending := rfl
@[simp] theorem beginAnswer_enables (k : Link) : k.beginAnswer.enables = k.enables := rfl
@[simp] theorem beginAnswer_edges (k : Link) : k.beginAnswer.edges = k.edges := rfl

/-- Idling without power is nothing. -/
theorem idle_unpowered {s : State} (h : s.powered = false) : idle s = s := by simp [idle, h]

/-- Idling with power begins every answer that is awaited. -/
theorem idle_link {s : State} (h : s.powered = true) (l : LinkId) : (idle s).link l = (s.link l).beginAnswer := by
  cases l <;> simp [idle, h, State.link, PerLink.get]

/-- Idling changes the links alone. -/
theorem idle_keeps (s : State) : idle s = { s with links := (idle s).links } := by
  unfold idle
  split <;> rfl

/-- A step on an empty queue. -/
theorem step_empty {s : State} (h : s.pending = []) : step s = .next (idle s) := by simp [step, h]

/-- A step with a command at the front. -/
theorem step_front {s : State} {c : Instr} {rest : List Instr} (h : s.pending = c :: rest) :
    step s = exec c { s with pending := rest } := by simp [step, h]

/-- What the end of an answer does: with none on the line nothing; after a LINE_RESET answer the line is free and
the reset is taken; after any other the line is free (R178, R185). -/
theorem answerSent_cases (l : LinkId) (s : State) :
    ((s.link l).tx = none ∧ answerSent l s = s) ∨
      ∃ o, (s.link l).tx = some o ∧
        answerSent l s =
          if o.answer.startsReset then lineReset (s.updLink l fun k => { k with tx := none })
          else s.updLink l fun k => { k with tx := none } := by
  unfold answerSent
  cases h : (s.link l).tx with
  | none => simp
  | some o => simp

/-- What a stop leaves of a link: an answer being sent stays, one that is awaited goes (R181). -/
theorem stop_tx (k : Link) : k.stop.tx = k.tx.bind fun o => if o.stage = .sending then some o else none := by
  cases h : k.tx with
  | none => simp [Link.stop, h]
  | some o => simp [Link.stop, h, Option.filter]

/-! ### One link's own events -/

/-- Two changes of a link that come to the same leave the same state. -/
theorem updLink_congr {s : State} {l : LinkId} {f g : Link → Link} (h : f (s.link l) = g (s.link l)) :
    s.updLink l f = s.updLink l g := by
  simp only [State.link] at h
  simp only [State.updLink, h]

/-- A change that leaves the link as it was leaves the state as it was. -/
theorem updLink_fixed {s : State} {l : LinkId} {f : Link → Link} (h : f (s.link l) = s.link l) : s.updLink l f = s := by
  simp only [State.link] at h
  simp only [State.updLink, h, PerLink.set_get]

/-- What a fault leaves of a link: all but its flags and counts. -/
theorem fault_keeps (f : LinkFault) (k : Link) :
    Link.fault f k = { k with flags := k.flags.set f true, counts := k.counts.set f (min (k.counts.get f + 1) 255) } := rfl

/-! ### Requests -/

/-- A request with its fields on a link that can take it and admits it: its block takes the fields, and its
reply is the answer. -/
theorem request_fields {α : Type} {s : State} {l : LinkId} (r : Request) (a : α) (take : α → State → State × Reply)
    (h : CanTake s l) (adm : admits l r = true) :
    request l r (.fields a) take s =
      .next (answered (take a (heard s l)).1 l r.code (take a (heard s l)).2.status (take a (heard s l)).2.body) := by
  simp only [request, onFrame, h.powered, CanTake_ready h, if_true, takeGood, checked, adm, updLink_goodFrame h,
    updLink_answer]

/-- A body of a wrong length on a link that admits the request is answered LENGTH. -/
theorem request_wrongLength {α : Type} {s : State} {l : LinkId} (r : Request) (take : α → State → State × Reply)
    (h : CanTake s l) (adm : admits l r = true) :
    request l r .wrongLength take s = .next (refusedWith s l r.code .length) := by
  simp only [request, onFrame, h.powered, CanTake_ready h, if_true, takeGood, checked, adm, updLink_goodFrame h,
    updLink_answer, refusedWith, refusal]

/-- A request that the link does not admit is answered ROLE, whatever its body. -/
theorem request_role {α : Type} {s : State} {l : LinkId} (r : Request) (b : Body α) (take : α → State → State × Reply)
    (h : CanTake s l) (adm : admits l r = false) : request l r b take s = .next (refusedWith s l r.code .role) := by
  simp only [request, onFrame, h.powered, CanTake_ready h, if_true, takeGood, checked, adm, updLink_goodFrame h,
    updLink_answer, refusedWith, refusal, Bool.false_eq_true, if_false]

/-- A request that its block refuses changes nothing but the link that took it. -/
theorem request_refused {α : Type} {s : State} {l : LinkId} (r : Request) (a : α) (take : α → State → State × Reply)
    (h : CanTake s l) (adm : admits l r = true) (st : Status) (t : take a (heard s l) = (heard s l, refusal st)) :
    request l r (.fields a) take s = .next (refusedWith s l r.code st) := by
  rw [request_fields r a take h adm, t]
  rfl

/-- A request that its block takes: the block's new state, answered OK. -/
theorem request_ok {α : Type} {s t : State} {l : LinkId} (r : Request) (a : α) (take : α → State → State × Reply)
    (body : List Byte) (h : CanTake s l) (adm : admits l r = true) (e : take a (heard s l) = (t, okWith body)) :
    request l r (.fields a) take s = .next (answered t l r.code .ok body) := by
  rw [request_fields r a take h adm, e]
  rfl

/-- An event of the unit with power. -/
theorem event_powered (f : State → State) {s : State} (h : s.powered = true) : event f s = .next (f s) := by
  simp [event, h]

/-- An event of the unit without power is nothing. -/
theorem event_unpowered (f : State → State) {s : State} (h : s.powered = false) : event f s = .next s := by
  simp [event, h]

/-! ### The shared checks -/

theorem onCarrier_some {c : Nat} {s : State} {k : SlotId} (take : SlotId → State × Reply) (h : s.bound c = some k) :
    onCarrier c s take = take k := by
  simp [onCarrier, h]

theorem onCarrier_none {c : Nat} {s : State} (take : SlotId → State × Reply) (h : s.bound c = none) :
    onCarrier c s take = (s, refusal .noCarrier) := by
  simp [onCarrier, h]

theorem asHolder_held {l : LinkId} {c : Nat} {s : State} {k : SlotId} (take : SlotId → State × Reply)
    (h : s.bound c = some k) (held : (s.slot k).holder = some (.link l)) : asHolder l c s take = take k := by
  simp [asHolder, onCarrier, h, held]

theorem asHolder_other {l : LinkId} {c : Nat} {s : State} {k : SlotId} (take : SlotId → State × Reply)
    (h : s.bound c = some k) (held : (s.slot k).holder ≠ some (.link l)) :
    asHolder l c s take = (s, refusal .notHolder) := by
  simp [asHolder, onCarrier, h, held]

theorem onHead_some {s : State} (h : HeadId) (take : HeadId → State × Reply) : onHead (headNumber h) s take = take h := by
  simp [onHead]

theorem onHead_none {s : State} {n : Nat} (take : HeadId → State × Reply) (h : 4 ≤ n) :
    onHead n s take = (s, refusal .field) := by
  simp [onHead, headOf_none n h]

/-- The five outcomes of a claim request on a bound carrier (R16). -/
theorem claimCheck_cases {l : LinkId} {needed : SlotState} {c : Nat} {s : State} {k : SlotId}
    (items : State → SlotId → List Byte) (take : SlotId → State × Reply) (h : s.bound c = some k) :
    claimCheck l needed c s items take =
      if (s.slot k).holder = some (.link l) then (s, okWith (items s k))
      else if (s.slot k).holder ≠ none then (s, refusal .held)
      else if (s.slot k).state = needed then take k
      else (s, refusal .state) := by
  simp only [claimCheck, onCarrier, h]
  cases (s.slot k).holder with
  | none => simp
  | some w => simp

end Sys2Proof.Laws
end

