-- ==== Sys2Proof/Laws/Ops.lean ====
section
/-! SUPPORT. What the shared operations of Machine/Ops.lean can do, said once for each: notices and reports
change the links alone, a posted finding changes three fields of a slot, a claim given up returns the slot, a
record moved frees its slot. -/

namespace Sys2Proof.Machine

/-! ### Notices change the links alone -/

/-- Raising an item towards one link changes that link alone, and it only if it is not STOPPED. -/
theorem raiseTo_link (n : Notice) (l m : LinkId) (s : State) :
    (raiseTo n l s).link m =
      if m = l ∧ (s.link l).state ≠ .stopped then { s.link l with pending := withNotice n (s.link l).pending } else s.link m := by
  unfold raiseTo
  by_cases h : (s.link l).state = .stopped
  · simp [h]
  · simp [h, State.link_updLink]

@[simp] theorem raiseTo_powered (n : Notice) (l : LinkId) (s : State) : (raiseTo n l s).powered = s.powered := by
  unfold raiseTo; split <;> rfl
@[simp] theorem raiseTo_slots (n : Notice) (l : LinkId) (s : State) : (raiseTo n l s).slots = s.slots := by
  unfold raiseTo; split <;> rfl
@[simp] theorem raiseTo_index (n : Notice) (l : LinkId) (s : State) : (raiseTo n l s).index = s.index := by
  unfold raiseTo; split <;> rfl
@[simp] theorem raiseTo_referral (n : Notice) (l : LinkId) (s : State) : (raiseTo n l s).referral = s.referral := by
  unfold raiseTo; split <;> rfl
@[simp] theorem raiseTo_closingQueue (n : Notice) (l : LinkId) (s : State) : (raiseTo n l s).closingQueue = s.closingQueue := by
  unfold raiseTo; split <;> rfl
@[simp] theorem raiseTo_types (n : Notice) (l : LinkId) (s : State) : (raiseTo n l s).types = s.types := by
  unfold raiseTo; split <;> rfl
@[simp] theorem raiseTo_mark (n : Notice) (l : LinkId) (s : State) : (raiseTo n l s).mark = s.mark := by
  unfold raiseTo; split <;> rfl
@[simp] theorem raiseTo_limits (n : Notice) (l : LinkId) (s : State) : (raiseTo n l s).limits = s.limits := by
  unfold raiseTo; split <;> rfl
@[simp] theorem raiseTo_calendar (n : Notice) (l : LinkId) (s : State) : (raiseTo n l s).calendar = s.calendar := by
  unfold raiseTo; split <;> rfl
@[simp] theorem raiseTo_manualDate (n : Notice) (l : LinkId) (s : State) : (raiseTo n l s).manualDate = s.manualDate := by
  unfold raiseTo; split <;> rfl
@[simp] theorem raiseTo_recordCounter (n : Notice) (l : LinkId) (s : State) : (raiseTo n l s).recordCounter = s.recordCounter := by
  unfold raiseTo; split <;> rfl
@[simp] theorem raiseTo_heads (n : Notice) (l : LinkId) (s : State) : (raiseTo n l s).heads = s.heads := by
  unfold raiseTo; split <;> rfl
@[simp] theorem raiseTo_snapHeader (n : Notice) (l : LinkId) (s : State) : (raiseTo n l s).snapHeader = s.snapHeader := by
  unfold raiseTo; split <;> rfl
@[simp] theorem raiseTo_clock (n : Notice) (l : LinkId) (s : State) : (raiseTo n l s).clock = s.clock := by
  unfold raiseTo; split <;> rfl
@[simp] theorem raiseTo_pageA (n : Notice) (l : LinkId) (s : State) : (raiseTo n l s).pageA = s.pageA := by
  unfold raiseTo; split <;> rfl
@[simp] theorem raiseTo_pageB (n : Notice) (l : LinkId) (s : State) : (raiseTo n l s).pageB = s.pageB := by
  unfold raiseTo; split <;> rfl
@[simp] theorem raiseTo_presented (n : Notice) (l : LinkId) (s : State) : (raiseTo n l s).presented = s.presented := by
  unfold raiseTo; split <;> rfl
@[simp] theorem raiseTo_pending (n : Notice) (l : LinkId) (s : State) : (raiseTo n l s).pending = s.pending := by
  unfold raiseTo; split <;> rfl

/-- An operation that leaves a part of the state as it is leaves it so when folded over a list. -/
theorem foldl_keeps {α β : Type} (p : State → β) (f : State → α → State) (h : ∀ s a, p (f s a) = p s) (xs : List α) (s : State) :
    p (xs.foldl f s) = p s := by
  induction xs generalizing s with
  | nil => rfl
  | cons a xs ih => rw [List.foldl_cons, ih, h]

@[simp] theorem raise_powered (n : Notice) (s : State) : (raise n s).powered = s.powered :=
  foldl_keeps (fun s => s.powered) _ (fun s l => raiseTo_powered n l s) _ s
@[simp] theorem raise_slots (n : Notice) (s : State) : (raise n s).slots = s.slots :=
  foldl_keeps (fun s => s.slots) _ (fun s l => raiseTo_slots n l s) _ s
@[simp] theorem raise_index (n : Notice) (s : State) : (raise n s).index = s.index :=
  foldl_keeps (fun s => s.index) _ (fun s l => raiseTo_index n l s) _ s
@[simp] theorem raise_referral (n : Notice) (s : State) : (raise n s).referral = s.referral :=
  foldl_keeps (fun s => s.referral) _ (fun s l => raiseTo_referral n l s) _ s
@[simp] theorem raise_closingQueue (n : Notice) (s : State) : (raise n s).closingQueue = s.closingQueue :=
  foldl_keeps (fun s => s.closingQueue) _ (fun s l => raiseTo_closingQueue n l s) _ s
@[simp] theorem raise_types (n : Notice) (s : State) : (raise n s).types = s.types :=
  foldl_keeps (fun s => s.types) _ (fun s l => raiseTo_types n l s) _ s
@[simp] theorem raise_mark (n : Notice) (s : State) : (raise n s).mark = s.mark :=
  foldl_keeps (fun s => s.mark) _ (fun s l => raiseTo_mark n l s) _ s
@[simp] theorem raise_limits (n : Notice) (s : State) : (raise n s).limits = s.limits :=
  foldl_keeps (fun s => s.limits) _ (fun s l => raiseTo_limits n l s) _ s
@[simp] theorem raise_calendar (n : Notice) (s : State) : (raise n s).calendar = s.calendar :=
  foldl_keeps (fun s => s.calendar) _ (fun s l => raiseTo_calendar n l s) _ s
@[simp] theorem raise_manualDate (n : Notice) (s : State) : (raise n s).manualDate = s.manualDate :=
  foldl_keeps (fun s => s.manualDate) _ (fun s l => raiseTo_manualDate n l s) _ s
@[simp] theorem raise_recordCounter (n : Notice) (s : State) : (raise n s).recordCounter = s.recordCounter :=
  foldl_keeps (fun s => s.recordCounter) _ (fun s l => raiseTo_recordCounter n l s) _ s
@[simp] theorem raise_heads (n : Notice) (s : State) : (raise n s).heads = s.heads :=
  foldl_keeps (fun s => s.heads) _ (fun s l => raiseTo_heads n l s) _ s
@[simp] theorem raise_snapHeader (n : Notice) (s : State) : (raise n s).snapHeader = s.snapHeader :=
  foldl_keeps (fun s => s.snapHeader) _ (fun s l => raiseTo_snapHeader n l s) _ s
@[simp] theorem raise_clock (n : Notice) (s : State) : (raise n s).clock = s.clock :=
  foldl_keeps (fun s => s.clock) _ (fun s l => raiseTo_clock n l s) _ s
@[simp] theorem raise_pageA (n : Notice) (s : State) : (raise n s).pageA = s.pageA :=
  foldl_keeps (fun s => s.pageA) _ (fun s l => raiseTo_pageA n l s) _ s
@[simp] theorem raise_pageB (n : Notice) (s : State) : (raise n s).pageB = s.pageB :=
  foldl_keeps (fun s => s.pageB) _ (fun s l => raiseTo_pageB n l s) _ s
@[simp] theorem raise_presented (n : Notice) (s : State) : (raise n s).presented = s.presented :=
  foldl_keeps (fun s => s.presented) _ (fun s l => raiseTo_presented n l s) _ s
@[simp] theorem raise_pending (n : Notice) (s : State) : (raise n s).pending = s.pending :=
  foldl_keeps (fun s => s.pending) _ (fun s l => raiseTo_pending n l s) _ s

@[simp] theorem reportTo_powered (c : Condition) (now : Bool) (l : LinkId) (s : State) : (reportTo c now l s).powered = s.powered := by
  unfold reportTo; split <;> simp
@[simp] theorem reportTo_slots (c : Condition) (now : Bool) (l : LinkId) (s : State) : (reportTo c now l s).slots = s.slots := by
  unfold reportTo; split <;> simp
@[simp] theorem reportTo_index (c : Condition) (now : Bool) (l : LinkId) (s : State) : (reportTo c now l s).index = s.index := by
  unfold reportTo; split <;> simp
@[simp] theorem reportTo_referral (c : Condition) (now : Bool) (l : LinkId) (s : State) : (reportTo c now l s).referral = s.referral := by
  unfold reportTo; split <;> simp
@[simp] theorem reportTo_closingQueue (c : Condition) (now : Bool) (l : LinkId) (s : State) : (reportTo c now l s).closingQueue = s.closingQueue := by
  unfold reportTo; split <;> simp
@[simp] theorem reportTo_types (c : Condition) (now : Bool) (l : LinkId) (s : State) : (reportTo c now l s).types = s.types := by
  unfold reportTo; split <;> simp
@[simp] theorem reportTo_mark (c : Condition) (now : Bool) (l : LinkId) (s : State) : (reportTo c now l s).mark = s.mark := by
  unfold reportTo; split <;> simp
@[simp] theorem reportTo_limits (c : Condition) (now : Bool) (l : LinkId) (s : State) : (reportTo c now l s).limits = s.limits := by
  unfold reportTo; split <;> simp
@[simp] theorem reportTo_calendar (c : Condition) (now : Bool) (l : LinkId) (s : State) : (reportTo c now l s).calendar = s.calendar := by
  unfold reportTo; split <;> simp
@[simp] theorem reportTo_manualDate (c : Condition) (now : Bool) (l : LinkId) (s : State) : (reportTo c now l s).manualDate = s.manualDate := by
  unfold reportTo; split <;> simp
@[simp] theorem reportTo_recordCounter (c : Condition) (now : Bool) (l : LinkId) (s : State) : (reportTo c now l s).recordCounter = s.recordCounter := by
  unfold reportTo; split <;> simp
@[simp] theorem reportTo_heads (c : Condition) (now : Bool) (l : LinkId) (s : State) : (reportTo c now l s).heads = s.heads := by
  unfold reportTo; split <;> simp
@[simp] theorem reportTo_snapHeader (c : Condition) (now : Bool) (l : LinkId) (s : State) : (reportTo c now l s).snapHeader = s.snapHeader := by
  unfold reportTo; split <;> simp
@[simp] theorem reportTo_clock (c : Condition) (now : Bool) (l : LinkId) (s : State) : (reportTo c now l s).clock = s.clock := by
  unfold reportTo; split <;> simp
@[simp] theorem reportTo_pageA (c : Condition) (now : Bool) (l : LinkId) (s : State) : (reportTo c now l s).pageA = s.pageA := by
  unfold reportTo; split <;> simp
@[simp] theorem reportTo_pageB (c : Condition) (now : Bool) (l : LinkId) (s : State) : (reportTo c now l s).pageB = s.pageB := by
  unfold reportTo; split <;> simp
@[simp] theorem reportTo_presented (c : Condition) (now : Bool) (l : LinkId) (s : State) : (reportTo c now l s).presented = s.presented := by
  unfold reportTo; split <;> simp
@[simp] theorem reportTo_pending (c : Condition) (now : Bool) (l : LinkId) (s : State) : (reportTo c now l s).pending = s.pending := by
  unfold reportTo; split <;> simp

@[simp] theorem reportOne_powered (was s : State) (c : Condition) : (reportOne was s c).powered = s.powered := by
  unfold reportOne
  split
  · rfl
  · exact foldl_keeps (fun s => s.powered) _ (fun t l => reportTo_powered c _ l t) _ s
@[simp] theorem reportOne_slots (was s : State) (c : Condition) : (reportOne was s c).slots = s.slots := by
  unfold reportOne
  split
  · rfl
  · exact foldl_keeps (fun s => s.slots) _ (fun t l => reportTo_slots c _ l t) _ s
@[simp] theorem reportOne_index (was s : State) (c : Condition) : (reportOne was s c).index = s.index := by
  unfold reportOne
  split
  · rfl
  · exact foldl_keeps (fun s => s.index) _ (fun t l => reportTo_index c _ l t) _ s
@[simp] theorem reportOne_referral (was s : State) (c : Condition) : (reportOne was s c).referral = s.referral := by
  unfold reportOne
  split
  · rfl
  · exact foldl_keeps (fun s => s.referral) _ (fun t l => reportTo_referral c _ l t) _ s
@[simp] theorem reportOne_closingQueue (was s : State) (c : Condition) : (reportOne was s c).closingQueue = s.closingQueue := by
  unfold reportOne
  split
  · rfl
  · exact foldl_keeps (fun s => s.closingQueue) _ (fun t l => reportTo_closingQueue c _ l t) _ s
@[simp] theorem reportOne_types (was s : State) (c : Condition) : (reportOne was s c).types = s.types := by
  unfold reportOne
  split
  · rfl
  · exact foldl_keeps (fun s => s.types) _ (fun t l => reportTo_types c _ l t) _ s
@[simp] theorem reportOne_mark (was s : State) (c : Condition) : (reportOne was s c).mark = s.mark := by
  unfold reportOne
  split
  · rfl
  · exact foldl_keeps (fun s => s.mark) _ (fun t l => reportTo_mark c _ l t) _ s
@[simp] theorem reportOne_limits (was s : State) (c : Condition) : (reportOne was s c).limits = s.limits := by
  unfold reportOne
  split
  · rfl
  · exact foldl_keeps (fun s => s.limits) _ (fun t l => reportTo_limits c _ l t) _ s
@[simp] theorem reportOne_calendar (was s : State) (c : Condition) : (reportOne was s c).calendar = s.calendar := by
  unfold reportOne
  split
  · rfl
  · exact foldl_keeps (fun s => s.calendar) _ (fun t l => reportTo_calendar c _ l t) _ s
@[simp] theorem reportOne_manualDate (was s : State) (c : Condition) : (reportOne was s c).manualDate = s.manualDate := by
  unfold reportOne
  split
  · rfl
  · exact foldl_keeps (fun s => s.manualDate) _ (fun t l => reportTo_manualDate c _ l t) _ s
@[simp] theorem reportOne_recordCounter (was s : State) (c : Condition) : (reportOne was s c).recordCounter = s.recordCounter := by
  unfold reportOne
  split
  · rfl
  · exact foldl_keeps (fun s => s.recordCounter) _ (fun t l => reportTo_recordCounter c _ l t) _ s
@[simp] theorem reportOne_heads (was s : State) (c : Condition) : (reportOne was s c).heads = s.heads := by
  unfold reportOne
  split
  · rfl
  · exact foldl_keeps (fun s => s.heads) _ (fun t l => reportTo_heads c _ l t) _ s
@[simp] theorem reportOne_snapHeader (was s : State) (c : Condition) : (reportOne was s c).snapHeader = s.snapHeader := by
  unfold reportOne
  split
  · rfl
  · exact foldl_keeps (fun s => s.snapHeader) _ (fun t l => reportTo_snapHeader c _ l t) _ s
@[simp] theorem reportOne_clock (was s : State) (c : Condition) : (reportOne was s c).clock = s.clock := by
  unfold reportOne
  split
  · rfl
  · exact foldl_keeps (fun s => s.clock) _ (fun t l => reportTo_clock c _ l t) _ s
@[simp] theorem reportOne_pageA (was s : State) (c : Condition) : (reportOne was s c).pageA = s.pageA := by
  unfold reportOne
  split
  · rfl
  · exact foldl_keeps (fun s => s.pageA) _ (fun t l => reportTo_pageA c _ l t) _ s
@[simp] theorem reportOne_pageB (was s : State) (c : Condition) : (reportOne was s c).pageB = s.pageB := by
  unfold reportOne
  split
  · rfl
  · exact foldl_keeps (fun s => s.pageB) _ (fun t l => reportTo_pageB c _ l t) _ s
@[simp] theorem reportOne_presented (was s : State) (c : Condition) : (reportOne was s c).presented = s.presented := by
  unfold reportOne
  split
  · rfl
  · exact foldl_keeps (fun s => s.presented) _ (fun t l => reportTo_presented c _ l t) _ s
@[simp] theorem reportOne_pending (was s : State) (c : Condition) : (reportOne was s c).pending = s.pending := by
  unfold reportOne
  split
  · rfl
  · exact foldl_keeps (fun s => s.pending) _ (fun t l => reportTo_pending c _ l t) _ s

/-! ### A report of conditions changes the links alone -/

@[simp] theorem reporting_powered (g : State → State) (s : State) : (reporting g s).powered = (g s).powered :=
  foldl_keeps (fun s => s.powered) _ (fun t c => reportOne_powered s t c) _ (g s)
@[simp] theorem reporting_slots (g : State → State) (s : State) : (reporting g s).slots = (g s).slots :=
  foldl_keeps (fun s => s.slots) _ (fun t c => reportOne_slots s t c) _ (g s)
@[simp] theorem reporting_index (g : State → State) (s : State) : (reporting g s).index = (g s).index :=
  foldl_keeps (fun s => s.index) _ (fun t c => reportOne_index s t c) _ (g s)
@[simp] theorem reporting_referral (g : State → State) (s : State) : (reporting g s).referral = (g s).referral :=
  foldl_keeps (fun s => s.referral) _ (fun t c => reportOne_referral s t c) _ (g s)
@[simp] theorem reporting_closingQueue (g : State → State) (s : State) : (reporting g s).closingQueue = (g s).closingQueue :=
  foldl_keeps (fun s => s.closingQueue) _ (fun t c => reportOne_closingQueue s t c) _ (g s)
@[simp] theorem reporting_types (g : State → State) (s : State) : (reporting g s).types = (g s).types :=
  foldl_keeps (fun s => s.types) _ (fun t c => reportOne_types s t c) _ (g s)
@[simp] theorem reporting_mark (g : State → State) (s : State) : (reporting g s).mark = (g s).mark :=
  foldl_keeps (fun s => s.mark) _ (fun t c => reportOne_mark s t c) _ (g s)
@[simp] theorem reporting_limits (g : State → State) (s : State) : (reporting g s).limits = (g s).limits :=
  foldl_keeps (fun s => s.limits) _ (fun t c => reportOne_limits s t c) _ (g s)
@[simp] theorem reporting_calendar (g : State → State) (s : State) : (reporting g s).calendar = (g s).calendar :=
  foldl_keeps (fun s => s.calendar) _ (fun t c => reportOne_calendar s t c) _ (g s)
@[simp] theorem reporting_manualDate (g : State → State) (s : State) : (reporting g s).manualDate = (g s).manualDate :=
  foldl_keeps (fun s => s.manualDate) _ (fun t c => reportOne_manualDate s t c) _ (g s)
@[simp] theorem reporting_recordCounter (g : State → State) (s : State) : (reporting g s).recordCounter = (g s).recordCounter :=
  foldl_keeps (fun s => s.recordCounter) _ (fun t c => reportOne_recordCounter s t c) _ (g s)
@[simp] theorem reporting_heads (g : State → State) (s : State) : (reporting g s).heads = (g s).heads :=
  foldl_keeps (fun s => s.heads) _ (fun t c => reportOne_heads s t c) _ (g s)
@[simp] theorem reporting_snapHeader (g : State → State) (s : State) : (reporting g s).snapHeader = (g s).snapHeader :=
  foldl_keeps (fun s => s.snapHeader) _ (fun t c => reportOne_snapHeader s t c) _ (g s)
@[simp] theorem reporting_clock (g : State → State) (s : State) : (reporting g s).clock = (g s).clock :=
  foldl_keeps (fun s => s.clock) _ (fun t c => reportOne_clock s t c) _ (g s)
@[simp] theorem reporting_pageA (g : State → State) (s : State) : (reporting g s).pageA = (g s).pageA :=
  foldl_keeps (fun s => s.pageA) _ (fun t c => reportOne_pageA s t c) _ (g s)
@[simp] theorem reporting_pageB (g : State → State) (s : State) : (reporting g s).pageB = (g s).pageB :=
  foldl_keeps (fun s => s.pageB) _ (fun t c => reportOne_pageB s t c) _ (g s)
@[simp] theorem reporting_presented (g : State → State) (s : State) : (reporting g s).presented = (g s).presented :=
  foldl_keeps (fun s => s.presented) _ (fun t c => reportOne_presented s t c) _ (g s)
@[simp] theorem reporting_pending (g : State → State) (s : State) : (reporting g s).pending = (g s).pending :=
  foldl_keeps (fun s => s.pending) _ (fun t c => reportOne_pending s t c) _ (g s)

@[simp] theorem raise_slot (n : Notice) (s : State) (k : SlotId) : (raise n s).slot k = s.slot k := by simp [State.slot]

@[simp] theorem raise_head (n : Notice) (s : State) (h : HeadId) : (raise n s).head h = s.head h := by simp [State.head]

@[simp] theorem raise_page (n : Notice) (s : State) (p : PageId) : (raise n s).page p = s.page p := by
  cases p <;> simp [State.page]

@[simp] theorem raise_typeEntry (n : Notice) (s : State) (i : TypeId) : (raise n s).typeEntry i = s.typeEntry i := by
  simp [State.typeEntry]

@[simp] theorem reporting_slot (g : State → State) (s : State) (k : SlotId) : (reporting g s).slot k = (g s).slot k := by
  simp [State.slot]

@[simp] theorem reporting_head (g : State → State) (s : State) (h : HeadId) : (reporting g s).head h = (g s).head h := by
  simp [State.head]

@[simp] theorem reporting_page (g : State → State) (s : State) (p : PageId) : (reporting g s).page p = (g s).page p := by
  cases p <;> simp [State.page]

@[simp] theorem reporting_typeEntry (g : State → State) (s : State) (i : TypeId) :
    (reporting g s).typeEntry i = (g s).typeEntry i := by
  simp [State.typeEntry]

/-! ### The members of the enumerations -/

@[simp] theorem mem_allSlots (k : SlotId) : k ∈ allSlots := List.mem_finRange k

@[simp] theorem mem_allHeads (h : HeadId) : h ∈ allHeads := by cases h <;> decide

@[simp] theorem mem_allLinks (l : LinkId) : l ∈ allLinks := by cases l <;> decide

/-- Every notice item stands in the canonical list. -/
@[simp] theorem mem_allNotices (n : Notice) : n ∈ allNotices := by
  cases n with
  | holdDone h => cases h <;> decide
  | testDone h => cases h <;> decide
  | headUnproved h => cases h <;> decide
  | linkLost l => cases l <;> decide
  | stampReady => decide
  | scrapReady => decide
  | pageFinished => decide
  | referralWaiting => decide
  | registerFull => decide
  | exportBlocked => decide

/-- The canonical list names each item once. -/
theorem allNotices_nodup : allNotices.Nodup := by decide

/-- A slot of the roll is FREE exactly when some slot is the lowest FREE one. -/
theorem lowestFree_none (s : State) : s.lowestFree = none ↔ ∀ k, (s.slot k).state ≠ .free := by
  simp [State.lowestFree]

/-- The lowest FREE slot is FREE. -/
theorem lowestFree_free {s : State} {k : SlotId} (h : s.lowestFree = some k) : (s.slot k).state = .free := by
  have := List.find?_some h
  simpa using this

/-- A type is locked exactly when an open slot refers to it. -/
theorem locked_iff (s : State) (i : TypeId) :
    s.locked i = true ↔ ∃ k, (s.slot k).state.isOpen = true ∧ (s.slot k).ident.map Identity.typeIdx = some i := by
  simp [State.locked]

/-- A serial is open exactly when an open slot carries it. -/
theorem serialOpen_iff (s : State) (t : Text) :
    s.serialOpen t = true ↔ ∃ k, (s.slot k).state.isOpen = true ∧ (s.slot k).ident.map Identity.serial = some t := by
  simp [State.serialOpen]

/-! ### Findings -/

/-- What posting a finding leaves of a slot: all but its worst severity, its findings and its overflow mark. -/
theorem post_keeps (x : Slot) (f : Finding) :
    x.post f = { x with worst := (x.post f).worst, findings := (x.post f).findings, overflow := (x.post f).overflow } := by
  unfold Slot.post
  split <;> rfl

@[simp] theorem post_state (x : Slot) (f : Finding) : (x.post f).state = x.state := by unfold Slot.post; split <;> rfl
@[simp] theorem post_holder (x : Slot) (f : Finding) : (x.post f).holder = x.holder := by unfold Slot.post; split <;> rfl
@[simp] theorem post_ident (x : Slot) (f : Finding) : (x.post f).ident = x.ident := by unfold Slot.post; split <;> rfl
@[simp] theorem post_carrier (x : Slot) (f : Finding) : (x.post f).carrier = x.carrier := by unfold Slot.post; split <;> rfl
@[simp] theorem post_test (x : Slot) (f : Finding) : (x.post f).test = x.test := by unfold Slot.post; split <;> rfl
@[simp] theorem post_attempts (x : Slot) (f : Finding) : (x.post f).attempts = x.attempts := by unfold Slot.post; split <;> rfl
@[simp] theorem post_grants (x : Slot) (f : Finding) : (x.post f).grants = x.grants := by unfold Slot.post; split <;> rfl
@[simp] theorem post_weight (x : Slot) (f : Finding) : (x.post f).weight = x.weight := by unfold Slot.post; split <;> rfl
@[simp] theorem post_closing (x : Slot) (f : Finding) : (x.post f).closing = x.closing := by unfold Slot.post; split <;> rfl
@[simp] theorem post_worst (x : Slot) (f : Finding) : (x.post f).worst = worse x.worst f.severity := by
  unfold Slot.post; split <;> rfl

/-- A severity raised is neither of the two lowered. -/
theorem severityRank_worse (a b : Severity) :
    severityRank a ≤ severityRank (worse a b) ∧ severityRank b ≤ severityRank (worse a b) := by
  cases a <;> cases b <;> decide

/-! ### Slot transitions -/

/-- What a claim given up does: an INSPECTING slot returns to ADMITTED, a STAMPING one to AWAIT_STAMP with its
notice, a SCRAPPING one to AWAIT_SCRAP with its notice, each without a holder; any other slot stands. -/
theorem giveUpClaim_cases (k : SlotId) (s : State) :
    ((s.slot k).state = .inspecting ∧ giveUpClaim k s = enterUnheld k .admitted s) ∨
      ((s.slot k).state = .stamping ∧ giveUpClaim k s = raise .stampReady (enterUnheld k .awaitStamp s)) ∨
      ((s.slot k).state = .scrapping ∧ giveUpClaim k s = raise .scrapReady (enterUnheld k .awaitScrap s)) ∨
      ((s.slot k).state ≠ .inspecting ∧ (s.slot k).state ≠ .stamping ∧ (s.slot k).state ≠ .scrapping ∧ giveUpClaim k s = s) := by
  unfold giveUpClaim
  cases h : (s.slot k).state <;> simp [enterAwaitStamp, enterAwaitScrap]

@[simp] theorem enterUnheld_eq (k : SlotId) (st : SlotState) (s : State) :
    enterUnheld k st s = s.setSlot k { s.slot k with state := st, holder := none } := rfl

@[simp] theorem enterHeld_eq (k : SlotId) (st : SlotState) (w : Holder) (s : State) :
    enterHeld k st w s = s.setSlot k { s.slot k with state := st, holder := some w } := rfl

@[simp] theorem post_eq (k : SlotId) (f : Finding) (s : State) : post k f s = s.setSlot k ((s.slot k).post f) := rfl

@[simp] theorem updTest_eq (k : SlotId) (f : TestRecord → TestRecord) (s : State) :
    updTest k f s = s.setSlot k { s.slot k with test := (s.slot k).test.map f } := rfl

/-! ### Lapses -/

/-- A lapse of a PROVED head unproves it and raises HEAD_UNPROVED; of an UNPROVED head it is nothing. -/
theorem lapse_cases (h : HeadId) (s : State) :
    lapse h s =
      if (s.head h).proving = none then s else raise (.headUnproved h) (s.setHead h { s.head h with proving := none }) := by
  unfold lapse
  cases e : (s.head h).proving <;> simp

/-! ### Pages -/

/-- What one record moved does: the page takes it under the counter's number, the slot is FREE, and an eighth
record finishes the page. -/
theorem moveOne_eq (p : PageId) (k : SlotId) (c : ClosingRecord) (rest : List SlotId) (s : State) :
    moveOne p k c rest s =
      let t := freeSlot k rest (enterPage p c s)
      if 8 ≤ (t.page p).records.length then finishPageOp p t else t := rfl

/-- Nothing moves while no page is FILLING. -/
theorem moveUpTo_blocked (n : Nat) (s : State) (h : s.fillingPage = none) : moveUpTo n s = s := by
  cases n with
  | zero => rfl
  | succ n => simp [moveUpTo, h]

/-- Nothing moves from an empty queue. -/
theorem moveUpTo_empty (n : Nat) (s : State) (h : s.closingQueue = []) : moveUpTo n s = s := by
  cases n with
  | zero => rfl
  | succ n => simp only [moveUpTo, h]; split <;> simp_all

/-- One record moved, and the moving goes on. -/
theorem moveUpTo_succ (n : Nat) (s : State) (p : PageId) (k : SlotId) (rest : List SlotId) (c : ClosingRecord)
    (hp : s.fillingPage = some p) (hq : s.closingQueue = k :: rest) (hc : (s.slot k).closing = some c) :
    moveUpTo (n + 1) s = moveUpTo n (moveOne p k c rest s) := by
  simp [moveUpTo, hp, hq, hc]

end Sys2Proof.Machine
end

