-- ==== Sys2Proof/Laws/Heads.lean ====
section
/-! SUPPORT. What a reading pair comes to at a head with a test on, and what a head's record updates leave. -/

namespace Sys2Proof.Laws

open Sys2Proof.Machine Sys2Proof.Safety

@[simp] theorem see_phase (x : Head) (p j : Reading) : (x.see p j).phase = x.phase := rfl
@[simp] theorem see_mount (x : Head) (p j : Reading) : (x.see p j).mount = x.mount := rfl
@[simp] theorem see_pressures (x : Head) (p j : Reading) : (x.see p j).pressures = x.pressures := rfl
@[simp] theorem see_phaseCount (x : Head) (p j : Reading) : (x.see p j).phaseCount = x.phaseCount := rfl
@[simp] theorem see_runCount (x : Head) (p j : Reading) : (x.see p j).runCount = x.runCount := rfl
@[simp] theorem see_gather (x : Head) (p j : Reading) : (x.see p j).gather = x.gather := rfl
@[simp] theorem see_band (x : Head) (p j : Reading) : (x.see p j).band = x.band := rfl
@[simp] theorem see_ripple (x : Head) (p j : Reading) : (x.see p j).ripple = x.ripple := rfl
@[simp] theorem see_permit (x : Head) (p j : Reading) : (x.see p j).permit = x.permit := rfl
@[simp] theorem see_proving (x : Head) (p j : Reading) : (x.see p j).proving = x.proving := rfl

@[simp] theorem readingLevel_value (n : Nat) : readingLevel (.value n) = some (min n 65000) := rfl

@[simp] theorem readingLevel_fault : readingLevel .fault = none := rfl

/-- The test that a pair meets at a head with a test on, in a phase of a test in flight. -/
theorem testAt_testOn {s : State} {h : HeadId} {k : SlotId} {c : Nat} {ty : TypeFields} {ps : Pressures}
    (t : TestOn s h k c ty ps) (f : (s.head h).phase.inFlight = true) (p j : Reading) :
    s.testAt h p j = some (k, ty, (s.head h).see p j) := by
  simp [State.testAt, f, t.mount, t.type]

/-- A pair at a head with a test on is its action, carried out. -/
theorem takePair_testOn {s : State} {h : HeadId} {k : SlotId} {c : Nat} {ty : TypeFields} {ps : Pressures}
    (t : TestOn s h k c ty ps) (f : (s.head h).phase.inFlight = true) (p j : Reading) :
    takePair h p j s = carryOut h k ty (pairAction ((s.head h).see p j) ty p j) s := by
  simp [takePair, testAt_testOn t f]

/-- The reading-pair row at a head with a test on. -/
theorem execReadingPair_testOn {s : State} {h : HeadId} {k : SlotId} {c : Nat} {ty : TypeFields} {ps : Pressures}
    (t : TestOn s h k c ty ps) (f : (s.head h).phase.inFlight = true) (p j : Reading) :
    execReadingPair h p j s = .next (carryOut h k ty (pairAction ((s.head h).see p j) ty p j) s) := by
  rw [execReadingPair, event_powered _ t.powered, takePair_testOn t f]

/-- A row that is the pair bringing its event about, at a head with a test on: the pair when it is that event, else
nothing. -/
theorem takePairAs_testOn {s : State} {h : HeadId} {k : SlotId} {c : Nat} {ty : TypeFields} {ps : Pressures}
    (t : TestOn s h k c ty ps) (f : (s.head h).phase.inFlight = true) (p j : Reading) (is : PairAction → Bool) :
    takePairAs h p j is s =
      if is (pairAction ((s.head h).see p j) ty p j) then carryOut h k ty (pairAction ((s.head h).see p j) ty p j) s
      else s := by
  simp [takePairAs, t.powered, State.actionOf, takePair_testOn t f, testAt_testOn t f]

/-- A pair at a head without a test in flight only updates its live readings. -/
theorem takePair_idle {s : State} {h : HeadId} (f : (s.head h).phase.inFlight = false) (p j : Reading) :
    takePair h p j s = s.setHead h ((s.head h).see p j) := by
  simp [takePair, State.testAt, f]

/-- A counter raised stays in its range (R126, R127). -/
theorem raise_le {c : Counter} (h : c.n ≤ 65535) : c.raise.n ≤ 65535 := by
  simp only [Counter.raise, Config.counterMax]
  split
  · exact h
  · simp only
    omega

/-- A T window that holds the last W of n readings holds the last W of n + 1 when one is pushed (R76). -/
theorem pushWindow_length {w n : Nat} {window : List Nat} (j : Nat) (hw : 1 ≤ w) (h : window.length = min w n) :
    (pushWindow w window j).length = min w (n + 1) := by
  simp only [pushWindow, List.length_append, List.length_drop, List.length_singleton, h]
  omega

end Sys2Proof.Laws
end

