-- ==== Sys2Proof/Tests/Slice0.lean ====
section
/-! SUPPORT. The author's own tests. Each expected value is worked from the spec's text, whose section or rule
the docstring names. The last part gives, for each statement with hypotheses, a state and operands that meet
them together, at the bounds where its clauses meet. -/

namespace Sys2Proof.Tests

open Sys2Proof.Machine Sys2Proof.Safety

/-! ### Small states -/

/-- Characters as bytes. -/
def chars (l : List Char) : Text := l.map fun c => BitVec.ofNat 8 c.toNat

/-- The type ST250 of 5.11, with the life of 3.8. -/
def st250 : TypeFields :=
  { name := chars ['S', 'T', '2', '5', '0'], proving := false, pt := 25000, holdSeconds := 30, w := 16, lp := 100, ree := 0,
    lo := 30, ld := 20, lr := 100, lw := 50, lifeYears := 40, interval := 60, ls := 50, starInterval := 120,
    rampLimit := 120, settleLimit := 120, tn := none, lt := none }

/-- The proving type PRV300 of 6.4 (W and limits as ST250's). -/
def prv300 : TypeFields :=
  { st250 with name := chars ['P', 'R', 'V'], proving := true, pt := 30000, tn := some 15800, lt := some 20 }

/-- The unit set up: type 4 ST250 and type 30 PRV300 at revision 1, mark K7T3, calendar 2024-03-14. -/
def line : State :=
  { State.reset with
    calendar := some ⟨2024, 3, 14⟩, mark := chars ['K', '7', 'T', '3']
    types := (State.reset.types.set 4 ⟨some ⟨st250, 1⟩, 1⟩).set 30 ⟨some ⟨prv300, 1⟩, 1⟩ }

/-- The cylinder of 3.8, ADMITTED on carrier 62. -/
def nt : Slot :=
  { Slot.empty with
    state := .admitted, carrier := some 62, ident := some ⟨chars ['N', 'T', '-', '1'], 4, 1, false⟩, made := some ⟨2009, 6⟩,
    tare := some 6850, ree := some 14000 }

/-- A proving cylinder in AWAIT_TEST on carrier 62. -/
def prv : Slot :=
  { Slot.empty with state := .awaitTest, carrier := some 62, ident := some ⟨chars ['P', '-', '1'], 30, 1, true⟩ }

/-- The line with one cylinder, in slot 0 on carrier 62. -/
def roll (x : Slot) : State := (line.setSlot 0 x).bind 61 (some 0)

/-- The slot held by L1, weighed as in 3.8. -/
def inspecting : Slot :=
  { nt with state := .inspecting, holder := some (.link .L1), weight := some ⟨6612, 34⟩, worst := .note }

/-- The attempt pressures of ST250, first attempt (5.2). -/
def firstPressures : Pressures := ⟨25000, 25750, 24500, 1250⟩

/-- The test record of 4.13 as BEGIN leaves it. -/
def begunRecord : TestRecord :=
  { head := .H1, attempt := 1, pa := 25000, date := some ⟨2024, 3, 14⟩, outcome := none, reasons := [], z := none, t := none,
    p := none, q := none, e := none, ripple := none, star := false }

/-- A slot held by H1, with one attempt begun. -/
def onBench (x : Slot) : Slot := { x with state := .testing, holder := some (.head .H1), attempts := 1, test := some begunRecord }

/-- H1 with slot 0 mounted, PROVED at 30,000, lag 3, in a phase of its first attempt. -/
def h1 (p : Phase) : Head :=
  { Head.initial with
    phase := p, mount := some ⟨0, 62⟩, pressures := some firstPressures, lag := 3, proving := some ⟨30000, 0, 0⟩ }

/-- The line with slot 0 held by H1, and H1 as given. -/
def bench (x : Slot) (y : Head) : State := (roll x).setHead .H1 y

/-- H1 in RAMP, HOLD, TAIL, RELEASE or SETTLE with z of 1,205 (4.13). -/
def zeroed (p : Phase) : Head := { h1 p with z := some 1205, ripple := some ⟨25180, 24910⟩ }

/-- A closing record, for the pages. -/
def sample : ClosingRecord :=
  { outcome := .withdrawn, closeDate := some ⟨2024, 3, 14⟩
    cylinder :=
      { ident := ⟨chars ['N', 'T', '-', '1'], 4, 1, false⟩, typeName := st250.name, carrier := 62, made := some ⟨2009, 6⟩,
        tare := some 6850, ree := some 14000, weight := none, findings := [], overflow := false, worst := .none, attempts := 0,
        grants := 0, test := none, stamp := none, method := none }
    scrapReason := none, provingResult := none }

/-- Records from number a. -/
def records (a n : Nat) : List PageRecord := (List.range n).map fun i => ⟨a + i, false, sample⟩

/-- The pages of 9.8: A FINISHED and presented with 1001 to 1008, B FILLING with n records from 1009. -/
def paged (n : Nat) (s : State) : State :=
  { s with
    pageA := ⟨.finished, records 1001 8, some 1001⟩, pageB := ⟨.filling, records 1009 n, some 1009⟩, presented := some .A
    recordCounter := 1009 + n }

/-- Both pages FINISHED (9.8, step 2). -/
def blocked (s : State) : State := { paged 8 s with pageB := ⟨.finished, records 1009 8, some 1009⟩ }

/-- A link in another condition. -/
def withLink (l : LinkId) (f : Link → Link) (s : State) : State := s.updLink l f

/-- The state that a command leaves. -/
def after (i : Instr) (s : State) : State :=
  match exec i s with
  | .next t => t
  | .fault _ => s
  | .refused _ => s

/-- The status and the body bytes of the answer on a link after a command. -/
def reply (l : LinkId) (i : Instr) (s : State) : Option (Status × List Nat) :=
  ((after i s).link l).tx.map fun o => (o.answer.status, o.answer.body.map BitVec.toNat)

/-- The status alone. -/
def status (l : LinkId) (i : Instr) (s : State) : Option Status := ((after i s).link l).tx.map fun o => o.answer.status

/-! ### Well-formedness -/

/-- A one-byte field of 256 is no command of a link. -/
theorem test_wellFormed_refuses_bytes :
    ([.rule .L0 (.fields ⟨256, none⟩), .withdraw .L0 (.fields 256), .breakClaim .L0 (.fields 256), .stopLink .L0 (.fields 256),
      .startLink .L0 (.fields 256), .setDate .L0 (.fields ⟨0, 256, 0⟩), .setDate .L0 (.fields ⟨0, 0, 256⟩),
      .forceNotice .L0 (.fields ⟨256, none, 0⟩), .forceNotice .L0 (.fields ⟨0, none, 256⟩), .claim .L1 (.fields 256),
      .finding .L1 (.fields ⟨256, 0, none, none⟩), .finding .L1 (.fields ⟨0, 256, none, none⟩), .weigh .L1 (.fields ⟨256, 0⟩),
      .inspected .L1 (.fields 256), .release .L1 (.fields 256), .mount .L2 (.fields ⟨256, 0⟩), .mount .L2 (.fields ⟨0, 256⟩),
      .begin .L2 (.fields 256), .abort .L2 (.fields 256), .dismount .L2 (.fields 256), .headSetup .L2 (.fields ⟨256, 0, 0⟩),
      .headSetup .L2 (.fields ⟨0, 256, 0⟩), .headStatus .L2 (.fields 256), .claimStamp .L3 (.fields 256),
      .stamped .L3 (.fields 256), .claimScrap .L4 (.fields 256), .scrapped .L4 (.fields ⟨256, none⟩),
      .dropType .L5 (.fields 256), .readType .L5 (.fields 256), .setLimits .L5 (.fields ⟨0, 0, 256, none⟩),
      .readPage .L5 (.fields 256)] : List Instr).all (fun i => !wellFormed i) = true := by decide

/-- A two-byte field of 65,536 or a four-byte field of 4,294,967,296 is none either. -/
theorem test_wellFormed_refuses_words :
    ([.lookup .L0 (.fields ⟨none, 65536⟩), .setDate .L0 (.fields ⟨65536, 0, 0⟩), .finding .L1 (.fields ⟨0, 0, none, some 65536⟩),
      .weigh .L1 (.fields ⟨0, 65536⟩), .headSetup .L2 (.fields ⟨0, 0, 65536⟩), .setLimits .L5 (.fields ⟨65536, 0, 0, none⟩),
      .setLimits .L5 (.fields ⟨0, 65536, 0, none⟩), .turnPage .L5 (.fields 4294967296)] : List Instr).all
      (fun i => !wellFormed i) = true := by decide

/-- A serial of 15 characters, a mark of 249, and the codes and length bytes that make no such event. -/
theorem test_wellFormed_refuses_texts_and_events :
    ([.admitProving .L2 (.fields ⟨1, List.replicate 15 0x41, 30⟩), .admitProving .L2 (.fields ⟨256, List.replicate 16 0x41, 30⟩),
      .admitProving .L2 (.fields ⟨1, List.replicate 16 0x41, 256⟩), .setMark .L5 (.fields (List.replicate 249 0x41)),
      .unknownCode .L0 1, .unknownCode .L0 41, .unknownCode .L0 256, .lengthByteFault .L0 1, .lengthByteFault .L0 250,
      .lengthByteFault .L0 256] : List Instr).all (fun i => !wellFormed i) = true := by decide +kernel

/-- The ADMIT of 3.8. -/
def admitNt : AdmitArgs :=
  ⟨62, chars ['n', 't', '-', '1', ' ', ' ', ' ', ' ', ' ', ' ', ' ', ' ', ' ', ' ', ' ', ' '], 4, 2009, 6, 6850, 14000⟩

/-- The LOAD_TYPE of ST250 into entry 4. -/
def loadSt250 : LoadTypeArgs :=
  { index := 4, name := chars ['S', 't', '2', '5', '0', ' ', ' ', ' '], proving := some false, pt := 25000, holdSeconds := 30,
    w := 16, lp := 100, ree := 0, lo := 30, ld := 20, lr := 100, lw := 50, lifeYears := 40, interval := 60, ls := 50,
    starInterval := 120, rampLimit := 120, settleLimit := 120, tn := 0, lt := 0 }

/-- Each field of ADMIT. -/
theorem test_wellFormed_refuses_admit :
    wellFormed (.admitOrdinary .L1 (.fields admitNt)) = true ∧
      ([{ admitNt with carrier := 256 }, { admitNt with serial := [] }, { admitNt with type := 256 },
        { admitNt with year := 65536 }, { admitNt with month := 256 }, { admitNt with tare := 65536 },
        { admitNt with ree := 65536 }].all fun a => !wellFormed (.admitOrdinary .L1 (.fields a))) = true := by decide

/-- Each field of LOAD_TYPE. -/
theorem test_wellFormed_refuses_load_type :
    wellFormed (.loadType .L5 (.fields loadSt250)) = true ∧
      ([{ loadSt250 with index := 256 }, { loadSt250 with name := [] }, { loadSt250 with pt := 65536 },
        { loadSt250 with holdSeconds := 256 }, { loadSt250 with w := 256 }, { loadSt250 with lp := 256 },
        { loadSt250 with ree := 65536 }, { loadSt250 with lo := 256 }, { loadSt250 with ld := 256 },
        { loadSt250 with lr := 256 }, { loadSt250 with lw := 256 }, { loadSt250 with lifeYears := 256 },
        { loadSt250 with interval := 256 }, { loadSt250 with ls := 256 }, { loadSt250 with starInterval := 256 },
        { loadSt250 with rampLimit := 65536 }, { loadSt250 with settleLimit := 65536 }, { loadSt250 with tn := 65536 },
        { loadSt250 with lt := 256 }].all fun a => !wellFormed (.loadType .L5 (.fields a))) = true := by decide

/-! ### Frames, written out from the layouts of R175 -/

/-- RULE(0, RETEST) on L0: code 7, ruling 1. -/
theorem test_frame_rule :
    decodeFrame .L0 [0xC3, 0x03, 0x07, 0x00, 0x01, 0xF5] = some (.rule .L0 (.fields ⟨0, some .retest⟩)) := by decide

/-- ADMIT(62, nt-20871, 4, 2009-06, 6,850, 14,000) on L1: code 16. -/
theorem test_frame_admit :
    decodeFrame .L1
      [0xC3, 0x1A, 0x10, 0x3E, 0x4E, 0x54, 0x2D, 0x32, 0x30, 0x38, 0x37, 0x31, 0x20, 0x20, 0x20, 0x20, 0x20, 0x20, 0x20, 0x20,
       0x04, 0x07, 0xD9, 0x06, 0x1A, 0xC2, 0x36, 0xB0, 0x1B] =
      some (.admitOrdinary .L1 (.fields
        ⟨62, chars ['N', 'T', '-', '2', '0', '8', '7', '1', ' ', ' ', ' ', ' ', ' ', ' ', ' ', ' '], 4, 2009, 6, 6850,
          14000⟩)) := by decide

/-- FINDING(62, 14, NOTE, 3) on L1: code 18, value mark 1. -/
theorem test_frame_finding :
    decodeFrame .L1 [0xC3, 0x07, 0x12, 0x3E, 0x0E, 0x01, 0x01, 0x00, 0x03, 0x96] =
      some (.finding .L1 (.fields ⟨62, 14, some .note, some 3⟩)) := by decide

/-- BEGIN(1) on L2: code 24. -/
theorem test_frame_begin :
    decodeFrame .L2 [0xC3, 0x02, 0x18, 0x01, 0xE5] = some (.begin .L2 (.fields 1)) := by decide

/-- CLAIM_STAMP(62) on L3: code 29. -/
theorem test_frame_claim_stamp :
    decodeFrame .L3 [0xC3, 0x02, 0x1D, 0x3E, 0xA3] = some (.claimStamp .L3 (.fields 62)) := by decide

/-- LOAD_TYPE(4, ST250, ...) on L5: code 33, 32 body bytes. -/
theorem test_frame_load_type :
    decodeFrame .L5
      [0xC3, 0x21, 0x21, 0x04, 0x53, 0x54, 0x32, 0x35, 0x30, 0x20, 0x20, 0x20, 0x00, 0x61, 0xA8, 0x1E, 0x10, 0x64, 0x00, 0x00,
       0x1E, 0x14, 0x64, 0x32, 0x28, 0x3C, 0x32, 0x78, 0x00, 0x78, 0x00, 0x78, 0x00, 0x00, 0x00, 0xBB] =
      some (.loadType .L5 (.fields { loadSt250 with name := chars ['S', 'T', '2', '5', '0', ' ', ' ', ' '] })) := by decide

/-- SET_LIMITS(480, 200, 10, ON_DATE) on L5: code 37, mode 2. -/
theorem test_frame_set_limits :
    decodeFrame .L5 [0xC3, 0x07, 0x25, 0x01, 0xE0, 0x00, 0xC8, 0x0A, 0x02, 0x1F] =
      some (.setLimits .L5 (.fields ⟨480, 200, 10, some .onDate⟩)) := by decide

/-- The table spells no command by bits, so the queue stands. -/
theorem test_table_word : decodeTableWord 32 0 = none ∧ (line.withFetchWord 32 0).pending = line.pending := by decide

/-! ### Requests of every link -/

/-- 48 FREE slots, none open or CLOSED, both queues empty, a slot FREE (R186). -/
theorem test_status_roll_group : (reply .L3 (.status .L3 (.fields ())) line).map (·.2.take 6) = some [48, 0, 0, 0, 0, 0] := by
  decide

/-- NOTICES returns the items, STAMP_READY being kind 4, and removes them (R184). -/
theorem test_notices_returns_and_removes :
    let s := withLink .L3 (fun k => { k with pending := [.stampReady] }) line
    reply .L3 (.notices .L3 (.fields ())) s = some (.ok, [1, 4, 0]) ∧
      ((after (.notices .L3 (.fields ())) s).link .L3).pending = [] := by decide

/-- L0 may set REGISTER_FULL to BOTH; L1 may not name EXPORT_BLOCKED (R183). -/
theorem test_notice_setup :
    ((after (.noticeSetup .L0 (.fields ⟨0, 0, 2, 2⟩)) line).link .L0).edges = 2 ∧
      status .L1 (.noticeSetup .L1 (.fields ⟨0, 0, 4, 4⟩)) line = some .field := by decide

/-- Clearing PARITY leaves OVERRUN set, and the counts (R179). -/
theorem test_clear_errors :
    reply .L2 (.clearErrors .L2 (.fields 1))
      (withLink .L2 (fun k => { k with flags := ⟨true, false, false, false, true⟩, counts := ⟨1, 0, 0, 0, 255⟩ }) line) =
      some (.ok, [16, 1, 0, 0, 0, 255]) := by decide

/-- Carrier 0 is unbound, slot 48 does not exist (R186). -/
theorem test_lookup_refusals :
    status .L1 (.lookup .L1 (.fields ⟨some .carrier, 0⟩)) line = some .noCarrier ∧
      status .L1 (.lookup .L1 (.fields ⟨some .slot, 48⟩)) line = some .field := by decide

/-- A code of no request is answered ROLE (R172). -/
theorem test_unknown_code : reply .L4 (.unknownCode .L4 42) line = some (.role, []) := by decide

/-- A LENGTH is found only after the ROLE (R174). -/
theorem test_role_before_length :
    status .L1 (.setDate .L1 .wrongLength) line = some .role ∧ status .L0 (.setDate .L0 .wrongLength) line = some .length := by
  decide

/-! ### The supervisor -/

/-- The referred slot of 1.8, step 10. -/
def referred : Slot := { nt with state := .referred, worst := .refer }

/-- The queue holds slot 0. -/
def referredRoll : State := { roll referred with referral := [0] }

/-- NEXT_REFERRAL on an empty queue is refused EMPTY (R138). -/
theorem test_next_referral_empty : status .L0 (.nextReferral .L0 (.fields ())) line = some .empty := by decide

/-- RULE(0, RETEST) of 1.8, step 11: AWAIT_TEST, grants 1, the queue empty. -/
theorem test_rule_retest :
    let t := after (.rule .L0 (.fields ⟨0, some .retest⟩)) referredRoll
    (t.slot 0).state = .awaitTest ∧ (t.slot 0).grants = 1 ∧ t.referral = [] := by decide

/-- RULE(0, CONDEMN) posts 205 and raises SCRAP_READY (R141); a RULE of a slot in a test is STATE by the order of
R139. -/
theorem test_rule_condemn :
    let t := after (.rule .L0 (.fields ⟨0, some .condemn⟩)) referredRoll
    (t.slot 0).state = .awaitScrap ∧ (t.slot 0).findings = [⟨205, .condemn, .supervisor, none⟩] ∧
      (t.link .L4).pending = [.scrapReady] ∧
      status .L0 (.rule .L0 (.fields ⟨0, some .withdraw⟩)) (roll (onBench nt)) = some .state ∧
      status .L0 (.rule .L0 (.fields ⟨0, some .withdraw⟩)) (roll { nt with worst := .condemn }) = some .state := by decide

/-- 1.8, step 7: with both pages FINISHED the withdrawn slot stays CLOSED, its carrier unbound. -/
theorem test_withdraw_while_blocked :
    let t := after (.withdraw .L0 (.fields 62)) (blocked (roll nt))
    (t.slot 0).state = .closed ∧ t.closingQueue = [0] ∧ t.bound 62 = none := by decide

/-- A WITHDRAW of a held slot is refused HELD (R142). -/
theorem test_withdraw_held : status .L0 (.withdraw .L0 (.fields 62)) (roll inspecting) = some .held := by decide

/-- BREAK_CLAIM of L1's claim answers slot 0, link 1, ADMITTED (R143). -/
theorem test_break_claim : (reply .L0 (.breakClaim .L0 (.fields 62)) (roll inspecting)) = some (.ok, [0, 1, 2]) := by decide

/-- STOP_LINK(0) is refused SELF; STOP_LINK(1) drops L1's claim (R181). -/
theorem test_stop_link :
    status .L0 (.stopLink .L0 (.fields 0)) line = some .self ∧
      ((after (.stopLink .L0 (.fields 1)) (roll inspecting)).slot 0).state = .admitted := by decide +kernel

/-- An answer that STOP_LINK finds awaited is not sent; one that has begun stays to be completed (R181). -/
theorem test_stop_link_answers :
    let asked := after (.status .L4 (.fields ())) line
    ((after (.stopLink .L0 (.fields 4)) asked).link .L4).tx = none ∧
      (((after (.stopLink .L0 (.fields 4)) (idle asked)).link .L4).tx.map fun o => (o.stage, o.answer.code)) =
        some (.sending, 1) := by decide +kernel

/-- An answer is awaited when its request is taken, begins on an empty queue, and ends (R178). -/
theorem test_answer_stages :
    let asked := after (.status .L4 (.fields ())) line
    ((asked.link .L4).tx.map Outgoing.stage) = some .awaited ∧
      (((idle asked).link .L4).tx.map Outgoing.stage) = some .sending ∧
      ((after (.answerSent .L4) (idle asked)).link .L4).tx = none := by decide +kernel

/-- START_LINK makes the link RUNNING and clears its flags (R181). -/
theorem test_start_link :
    let t := after (.startLink .L0 (.fields 4))
      (withLink .L4 (fun k => { k with state := .stopped, flags := ⟨true, true, true, true, true⟩ }) line)
    (t.link .L4).state = .running ∧ (t.link .L4).flags = ⟨false, false, false, false, false⟩ := by decide

/-- LINE_RESET is answered first; the reset follows the answer (R185). -/
theorem test_line_reset_follows_answer :
    let t := after (.lineReset .L0 (.fields ())) (roll inspecting)
    (t.slot 0).state = .inspecting ∧ ((after (.answerSent .L0) t).slot 0).state = .admitted := by decide +kernel

/-- The pushbutton ends a test in RAMP with RESET, drops the permit and unproves the head (R93, R123). -/
theorem test_reset_pushbutton :
    let t := after .resetPushbutton (bench (onBench nt) { zeroed .ramp with permit := true })
    (t.head .H1).phase = .idle ∧ (t.head .H1).permit = false ∧ (t.head .H1).proving = none ∧
      (t.slot 0).state = .awaitTest ∧ ((t.slot 0).test.map fun r => r.reasons) = some [.reset] := by decide +kernel

/-- 2024-04-31 is no date; 2024-02-29 is one, and L0 sets the manual-date mark (R39, R41). -/
theorem test_set_date :
    status .L5 (.setDate .L5 (.fields ⟨2024, 4, 31⟩)) line = some .field ∧
      (after (.setDate .L0 (.fields ⟨2024, 2, 29⟩)) line).calendar = some ⟨2024, 2, 29⟩ ∧
      (after (.setDate .L0 (.fields ⟨2024, 2, 29⟩)) line).manualDate = true := by decide

/-- In ON_DATE mode a changed date takes a snapshot of the period that ends (R128, R130). -/
theorem test_set_date_snapshot :
    (after (.setDate .L5 (.fields ⟨2024, 3, 15⟩)) { line with clock := 16420 }).snapHeader = some ⟨some ⟨2024, 3, 14⟩, 16420⟩ ∧
      (after (.setDate .L5 (.fields ⟨2024, 3, 14⟩)) line).snapHeader = none := by decide

/-- LINK_LOST(0) is out of range; HOLD_DONE is not directed to L0 (R184). -/
theorem test_force_notice :
    status .L0 (.forceNotice .L0 (.fields ⟨0, some .linkLost, 0⟩)) line = some .field ∧
      status .L0 (.forceNotice .L0 (.fields ⟨0, some .holdDone, 1⟩)) line = some .field ∧
      ((after (.forceNotice .L0 (.fields ⟨2, some .holdDone, 1⟩)) line).link .L2).pending = [.holdDone .H1] := by decide

/-- READ_STATS reports that no snapshot has been taken since power-on (R131). -/
theorem test_read_stats_none_taken :
    (reply .L5 (.readStats .L5 (.fields ())) line).map (·.2.headD 9) = some 0 := by decide

/-! ### Inspection -/

/-- 3.8, step 1: OK, slot 0, revision 1; the serial in capitals. -/
theorem test_admit :
    reply .L1 (.admitOrdinary .L1 (.fields admitNt)) line = some (.ok, [0, 1]) ∧
      ((after (.admitOrdinary .L1 (.fields admitNt)) line).slot 0).ident = nt.ident := by decide

/-- 1.8, step 5: the lowercase serial is the same serial, on another carrier. -/
theorem test_admit_duplicate :
    status .L1 (.admitOrdinary .L1 (.fields { admitNt with carrier := 9 })) (roll nt) = some .duplicate ∧
      status .L1 (.admitOrdinary .L1 (.fields admitNt)) (roll nt) = some .bound := by decide

/-- 3.8, steps 3 and 2: CLAIM takes the slot; FINDING without a claim is refused. -/
theorem test_claim :
    ((after (.claim .L1 (.fields 62)) (roll nt)).slot 0).holder = some (.link .L1) ∧
      status .L1 (.finding .L1 (.fields ⟨62, 14, some .note, some 3⟩)) (roll nt) = some .notHolder := by decide

/-- 3.8, step 4: stored yes, one finding, no overflow, worst NOTE. -/
theorem test_finding :
    reply .L1 (.finding .L1 (.fields ⟨62, 14, some .note, some 3⟩)) (roll { inspecting with worst := .none }) =
      some (.ok, [1, 1, 0, 1]) := by decide

/-- 3.8, steps 6 and 7: 6,612 against 6,850 is 34 per mille; a second weighing is refused. -/
theorem test_weigh :
    reply .L1 (.weigh .L1 (.fields ⟨62, 6612⟩)) (roll { inspecting with weight := none }) = some (.ok, [25, 212, 0, 34, 0, 1]) ∧
      status .L1 (.weigh .L1 (.fields ⟨62, 6600⟩)) (roll inspecting) = some .weighed := by decide

/-- 3.8: a measured tare of 6,507 posts finding 200 with the value 50. -/
theorem test_weigh_condemns :
    ((after (.weigh .L1 (.fields ⟨62, 6507⟩)) (roll { inspecting with weight := none })).slot 0).findings =
      [⟨200, .condemn, .unit, some 50⟩] := by decide

/-- 3.8, steps 5 and 11: not weighed; then AWAIT_TEST, worst NOTE, age 177, no finding 201. -/
theorem test_inspected :
    status .L1 (.inspected .L1 (.fields 62)) (roll { inspecting with weight := none }) = some .notWeighed ∧
      reply .L1 (.inspected .L1 (.fields 62)) (roll inspecting) = some (.ok, [4, 1, 0, 177, 0]) := by decide

/-- 1.8, step 6: a REFER finding sends the slot to the referral queue and tells L0. -/
theorem test_inspected_refers :
    let t := after (.inspected .L1 (.fields 62)) (roll { inspecting with worst := .refer })
    (t.slot 0).state = .referred ∧ t.referral = [0] ∧ (t.link .L0).pending = [.referralWaiting] := by decide

/-- 3.8, step 8: the release returns the slot with what it held. -/
theorem test_release :
    let t := after (.release .L1 (.fields 62)) (roll inspecting)
    (t.slot 0) = { inspecting with state := .admitted, holder := none } := by decide

/-! ### The bench -/

/-- 1.8, step 3: a proving slot enters AWAIT_TEST at once; an ordinary type is refused NO_TYPE (R48). -/
theorem test_admit_proving :
    ((after (.admitProving .L2 (.fields ⟨200, chars ['P'] ++ List.replicate 15 0x20, 30⟩)) line).slot 0).state = .awaitTest ∧
      status .L2 (.admitProving .L2 (.fields ⟨200, chars ['P'] ++ List.replicate 15 0x20, 4⟩)) line = some .noType := by decide

/-- 4.13, step 1. -/
theorem test_mount :
    let t := after (.mount .L2 (.fields ⟨1, 62⟩)) (roll { nt with state := .awaitTest })
    (t.head .H1).phase = .mounted ∧ (t.slot 0).holder = some (.head .H1) ∧ (t.slot 0).attempts = 0 := by decide

/-- 4.13, step 2: attempt 1 at 25,000, 25,750, 24,500 and 1,250; an UNPROVED head is refused. -/
theorem test_begin :
    let x : Slot := { nt with state := .testing, holder := some (.head .H1) }
    reply .L2 (.begin .L2 (.fields 1)) (bench x (h1 .mounted)) = some (.ok, [1, 97, 168, 100, 150, 95, 180, 4, 226]) ∧
      status .L2 (.begin .L2 (.fields 1)) (bench x { h1 .mounted with proving := none }) = some .unproved := by decide

/-- 7.7, step 4: the second attempt at 27,500 is not covered by 25,000. -/
theorem test_begin_not_covered :
    status .L2 (.begin .L2 (.fields 1))
      (bench { onBench nt with attempts := 1 } { h1 .mounted with proving := some ⟨25000, 0, 1⟩ }) = some .notCovered := by
  decide

/-- An ABORT in RAMP answers the phase it ended and tells L2 (R86, R88). -/
theorem test_abort :
    let s := bench (onBench nt) { zeroed .ramp with permit := true }
    (after (.abort .L2 (.fields 1)) s |>.link .L2).pending = [.testDone .H1] ∧
      ((after (.abort .L2 (.fields 1)) s).head .H1).permit = false ∧
      ((after (.abort .L2 (.fields 1)) s).head .H1).live.invalid.n = 1 := by decide

/-- 4.13, step 14: an ABORT in DONE is refused STATE. -/
theorem test_abort_done : status .L2 (.abort .L2 (.fields 1)) (bench (onBench nt) (h1 .done)) = some .state := by decide

/-- 4.13, step 15: a PASS goes to AWAIT_STAMP and tells L3. -/
theorem test_dismount_pass :
    let x := { onBench nt with test := some { begunRecord with outcome := some .pass } }
    let t := after (.dismount .L2 (.fields 1)) (bench x (h1 .done))
    (t.slot 0).state = .awaitStamp ∧ (t.link .L3).pending = [.stampReady] ∧ (t.head .H1).phase = .idle := by decide

/-- 7.7, step 11: the second invalid attempt refers the slot with finding 206, value 2. -/
theorem test_dismount_refers :
    let x := { onBench nt with attempts := 2, test := some { begunRecord with outcome := some .invalid } }
    let t := after (.dismount .L2 (.fields 1)) (bench x (h1 .done))
    (t.slot 0).state = .referred ∧ (t.slot 0).findings = [⟨206, .refer, .unit, some 2⟩] ∧ t.referral = [0] := by decide

/-- Lag and band are clamped (R91). -/
theorem test_head_setup :
    reply .L2 (.headSetup .L2 (.fields ⟨1, 16, 0⟩)) line = some (.ok, [15, 0, 1]) ∧
      status .L2 (.headSetup .L2 (.fields ⟨1, 3, 20⟩)) (bench (onBench nt) (h1 .mounted)) = some .headBusy := by decide

/-- HEAD_STATUS is taken in every phase; head 4 does not exist (R92). -/
theorem test_head_status :
    status .L2 (.headStatus .L2 (.fields 3)) line = some .ok ∧ status .L2 (.headStatus .L2 (.fields 4)) line = some .field := by
  decide

/-! ### Stamping and scrapping -/

/-- A slot that passed with the star (8.10). -/
def passed : Slot :=
  { nt with state := .awaitStamp, attempts := 1, test := some { begunRecord with outcome := some .pass, star := true } }

/-- 8.10, step 1: the line K7T3 03/24 *, due 2034-03. -/
theorem test_claim_stamp :
    ((after (.claimStamp .L3 (.fields 62)) (roll passed)).slot 0).stamp =
      some ⟨chars ['K', '7', 'T', '3', ' ', '0', '3', '/', '2', '4', ' ', '*'], ⟨2034, 3⟩⟩ := by decide

/-- 8.10, step 6: the slot closes, its record takes number 1 on page A, and it is FREE again. -/
theorem test_stamped :
    let t := after (.stamped .L3 (.fields 62)) (roll { passed with state := .stamping, holder := some (.link .L3) })
    t.slot 0 = Slot.empty ∧ t.recordCounter = 2 ∧ t.pageA.records.map (fun r => (r.number, r.record.outcome)) = [(1, .stamped)] := by
  decide

/-- A condemned slot (8.11). -/
def condemned : Slot :=
  { nt with
    state := .awaitScrap, worst := .condemn
    findings := [⟨12, .note, .inspection, none⟩, ⟨203, .condemn, .unit, some 1118⟩] }

/-- 8.11, step 1: the first stored CONDEMN finding gives the reason. -/
theorem test_claim_scrap :
    let t := after (.claimScrap .L4 (.fields 62)) (roll condemned)
    (t.slot 0).holder = some (.link .L4) ∧ (t.slot 0).scrapReason = 203 := by decide

/-- 8.11, steps 5 and 6: an unknown method is FIELD; CRUSH closes the slot SCRAPPED with reason 203. -/
theorem test_scrapped :
    let s := roll { condemned with state := .scrapping, holder := some (.link .L4) }
    status .L4 (.scrapped .L4 (.fields ⟨62, none⟩)) s = some .field ∧
      (after (.scrapped .L4 (.fields ⟨62, some .crush⟩)) s).pageA.records.map
        (fun r => (r.record.outcome, r.record.cylinder.method, r.record.scrapReason)) = [(.scrapped, some .crush, some 203)] := by
  decide

/-! ### The archive computer -/

/-- The headroom table of 2.1: a raised pressure of 64,999 with no margin is taken, a margin of 1 is not. -/
theorem test_load_type_headroom :
    let a := { loadSt250 with pt := 59090, lr := 100, lo := 0 }
    status .L5 (.loadType .L5 (.fields a)) line = some .ok ∧
      status .L5 (.loadType .L5 (.fields { a with lo := 1 })) line = some .field := by decide

/-- Worked sequence of 2.1, steps 4 and 7: locked while a slot is open, then revision 2. -/
theorem test_load_type_lock :
    status .L5 (.loadType .L5 (.fields loadSt250)) (roll nt) = some .typeInUse ∧
      reply .L5 (.loadType .L5 (.fields loadSt250)) line = some (.ok, [4, 2]) := by decide

/-- A drop keeps the last revision; an EMPTY entry is refused EMPTY (R31). -/
theorem test_drop_type :
    reply .L5 (.dropType .L5 (.fields 4)) line = some (.ok, [4, 1]) ∧ status .L5 (.dropType .L5 (.fields 5)) line = some .empty := by
  decide

/-- An EMPTY entry answers its index and last revision (R32). -/
theorem test_read_type_empty : reply .L5 (.readType .L5 (.fields 12)) line = some (.empty, [12, 0]) := by decide

/-- 8.10, step 4: k7tq is stored K7T0; a mark of spaces is refused (R35). -/
theorem test_set_mark :
    (after (.setMark .L5 (.fields (chars ['k', '7', 't', 'q']))) line).mark = chars ['K', '7', 'T', '0'] ∧
      status .L5 (.setMark .L5 (.fields [0x20, 0x20])) line = some .field := by decide

/-- A validity of 2,000 is read back 1,440 (R37). -/
theorem test_set_limits :
    (after (.setLimits .L5 (.fields ⟨2000, 0, 61, some .manual⟩)) line).limits = ⟨1440, 1, 60, .manual⟩ := by decide

/-- 9.8, step 6, and 9.8, step 11. -/
theorem test_read_page :
    status .L5 (.readPage .L5 (.fields 7)) (blocked line) = some .ok ∧
      status .L5 (.readPage .L5 (.fields 8)) (blocked line) = some .field ∧
      status .L5 (.readPage .L5 (.fields 0)) line = some .empty := by decide

/-- 9.8, steps 7 and 8: the number of B is STALE; the number of A turns A, and B is presented. -/
theorem test_turn_page :
    status .L5 (.turnPage .L5 (.fields 1009)) (blocked line) = some .stale ∧
      reply .L5 (.turnPage .L5 (.fields 1001)) (blocked line) = some (.ok, [1, 2, 8, 0, 0, 3, 241]) ∧
      (after (.turnPage .L5 (.fields 1001)) (blocked line)).pageA.state = .filling := by decide

/-- 9.8, step 12, and an empty FILLING page. -/
theorem test_finish_page :
    let s := { line with pageA := ⟨.filling, records 1017 2, some 1017⟩, recordCounter := 1019 }
    reply .L5 (.finishPage .L5 (.fields ())) s = some (.ok, [1, 2, 0, 0, 3, 249]) ∧
      (after (.finishPage .L5 (.fields ())) s).pageB.state = .filling ∧
      status .L5 (.finishPage .L5 (.fields ())) line = some .empty := by decide

/-- 6.5, step 4: the counts pass into the snapshot. -/
theorem test_snapshot :
    let st : Stats := { Stats.zero with begun := ⟨2, false⟩, invalid := ⟨1, false⟩, losses := ⟨1, false⟩ }
    let t := after (.snapshot .L5 (.fields ())) ({ line with clock := 16420 }.setHead .H2 { Head.initial with live := st })
    (t.head .H2).snap = st ∧ (t.head .H2).live = Stats.zero ∧ t.snapHeader = some ⟨some ⟨2024, 3, 14⟩, 16420⟩ := by decide

/-- 9.8, step 2: the eighth record finishes B, and with A FINISHED no page is FILLING. -/
theorem test_move_records :
    let x : Slot := { nt with state := .closed, carrier := none, outcome := some .withdrawn, closing := some sample }
    let t := after .moveRecords { paged 7 (line.setSlot 0 x) with closingQueue := [0] }
    t.pageB.state = .finished ∧ t.presented = some .A ∧ t.fillingPage = none ∧ (t.slot 0).state = .free ∧
      t.recordCounter = 1017 ∧ (t.link .L5).pending = [.pageFinished, .exportBlocked] := by decide

/-! ### Reading pairs: 4.13 at the pairs that matter -/

/-- Step 3: a raw sum of 19,283 gives z 1,205 and asserts the permit. -/
theorem test_reading_pair_zeroing :
    let t := after (.readingPair .H1 (.value 300) (.value 1208))
      (bench (onBench nt) { h1 .zeroing with phaseCount := 15, gather := [1199, 1211] ++ List.replicate 13 1205 })
    (t.head .H1).phase = .ramp ∧ (t.head .H1).z = some 1205 ∧ (t.head .H1).permit = true := by decide

/-- Step 13: P 612, q 454, E 12,883, a starred PASS. -/
theorem test_reading_pair_settle :
    let t := after (.readingPair .H1 (.value 0) (.value 1818))
      (bench (onBench nt) { zeroed .settle with t := some 13495, phaseCount := 31, gather := [1812, 1821] ++ List.replicate 13 1817 })
    (t.head .H1).phase = .done ∧
      ((t.slot 0).test.map fun r => (r.outcome, r.p, r.q, r.e, r.star)) =
        some (some .pass, some 612, some 454, some 12883, true) := by decide

/-- The 600th pair of ZEROING without a stable window (R72). -/
theorem test_zero_timeout :
    let s := bench (onBench nt) { h1 .zeroing with phaseCount := 599 }
    ((after (.zeroTimeout .H1 (.value 300) (.value 1205)) s).slot 0).test.map (fun r => r.reasons) = some [.zeroTimeout] ∧
      ((after (.zeroTimeout .H1 (.value 300) (.value 1205)) (bench (onBench nt) { h1 .zeroing with phaseCount := 598 })).head
        .H1).phaseCount = 598 := by decide

/-- The 1,200th pair of RAMP without a run of three (R73). -/
theorem test_ramp_timeout :
    ((after (.rampTimeout .H1 (.value 24000) (.value 1205))
      (bench (onBench nt) { zeroed .ramp with phaseCount := 1199 })).slot 0).test.map (fun r => r.reasons) =
      some [.rampTimeout] := by decide

/-- Step 8: the 300th pair of HOLD starts TAIL. -/
theorem test_hold_complete :
    ((after (.holdComplete .H1 (.value 25000) (.value 14700))
      (bench (onBench nt) { zeroed .hold with holdCount := 299, tWindow := List.replicate 16 14700, permit := true })).head
      .H1).phase = .tail := by decide

/-- Step 9: T is 13,495, the permit drops, HOLD_DONE(1) is raised. -/
theorem test_tail_end :
    let t := after (.tailEnd .H1 (.value 25000) (.value 14700))
      (bench (onBench nt)
        { zeroed .tail with holdCount := 300, tailCount := 2, tWindow := List.replicate 16 14700, permit := true })
    (t.head .H1).t = some 13495 ∧ (t.head .H1).permit = false ∧ (t.head .H1).phase = .release ∧
      (t.link .L2).pending = [.holdDone .H1] := by decide

/-- 7.7, step 10: the 1,200th pair of RELEASE at 9,400. -/
theorem test_release_timeout :
    ((after (.releaseTimeout .H1 (.value 9400) (.value 1205))
      (bench (onBench nt) { zeroed .release with phaseCount := 1199 })).slot 0).test.map (fun r => r.reasons) =
      some [.releaseTimeout] := by decide

/-- The 1,200th pair of SETTLE without a stable window (R80). -/
theorem test_settle_timeout :
    ((after (.settleTimeout .H1 (.value 0) (.value 1205))
      (bench (onBench nt) { zeroed .settle with phaseCount := 1199 })).slot 0).test.map (fun r => r.reasons) =
      some [.settleTimeout] := by decide

/-! ### The clock and the links' own events -/

/-- 10.8, step 2: ten silent seconds lose L4, its claim is dropped, and L0 is told. -/
theorem test_silence_timeout :
    let s := withLink .L4 (fun k => { k with timer := 9 }) (roll { condemned with state := .scrapping, holder := some (.link .L4) })
    let t := after (.silenceTimeout .L4) s
    (t.link .L4).state = .lost ∧ (t.slot 0).state = .awaitScrap ∧ (t.link .L4).pending = [.scrapReady] ∧
      (t.link .L0).pending = [.linkLost .L4] := by decide +kernel

/-- A head proved at 0 with a validity of 480 minutes lapses at 28,800 (R122). -/
theorem test_lapse_by_time :
    let t := after (.lapseByTime .H1) ({ line with clock := 28799 }.setHead .H1 { Head.initial with proving := some ⟨30000, 0, 5⟩ })
    (t.head .H1).proving = none ∧ (t.link .L0).pending = [.headUnproved .H1] ∧ t.clock = 28800 := by decide

/-- The clock stops at 4,294,967,295 (R122). -/
theorem test_unit_clock_advance :
    (after .unitClockAdvance line).clock = 1 ∧ (after .unitClockAdvance { line with clock := 4294967295 }).clock = 4294967295 := by
  decide

/-- A fault sets its flag; a count at 255 stays (R177, R179). -/
theorem test_parity :
    let t := after (.parity .L1 false) (withLink .L1 (fun k => { k with counts := ⟨255, 0, 0, 0, 0⟩ }) line)
    (t.link .L1).flags.parity = true ∧ (t.link .L1).counts.parity = 255 ∧ (t.link .L1).rx = .hunting := by decide

/-- A framing fault inside a frame discards until a gap (R177). -/
theorem test_framing :
    let t := after (.framing .L1 true) line
    (t.link .L1).rx = .discarding ∧ ((after (.gapOver20ms .L1) t).link .L1).rx = .hunting := by decide

/-- The character that ends a fragment's gap may begin a frame (R177). -/
theorem test_fragment :
    ((after (.fragment .L1 0xC3) line).link .L1).rx = .inFrame ∧ ((after (.fragment .L1 0x01) line).link .L1).rx = .hunting := by
  decide

/-- After a check fault the receiver hunts at once (R177). -/
theorem test_check :
    let t := after (.check .L1) line
    (t.link .L1).counts.check = 1 ∧ (t.link .L1).rx = .hunting ∧ (t.link .L1).tx = none := by decide

/-- A frame on top of an answer is an overrun, and the answer stands (R178). -/
theorem test_overrun :
    let t := after (.overrun .L1) (after (.status .L1 (.fields ())) line)
    (t.link .L1).flags.overrun = true ∧ (t.link .L1).rx = .discarding ∧ (t.link .L1).tx.isSome = true := by decide

/-- A repeat that overruns an answer still awaited is read in its flags (R178); one that overruns an answer being
sent is not, since that answer is sent whole. -/
theorem test_overrun_in_answer :
    let status := Instr.status .L1 (.fields ())
    let flagged (s : State) := ((s.link .L1).tx.map fun o => (o.stage, o.answer.flags.overrun))
    flagged (idle (after status (after status line))) = some (.sending, true) ∧
      flagged (idle (after status (idle (after status line)))) = some (.sending, false) := by decide

/-- A bad length byte is answered LENGTH with code 0 (R177). -/
theorem test_length_byte_fault :
    let t := after (.lengthByteFault .L1 251) line
    (t.link .L1).tx.map (fun o => (o.stage, o.answer.code, o.answer.status)) = some (.sending, 0, .length) ∧
      (t.link .L1).rx = .discarding := by decide

/-- An answer sent frees the line (R178). -/
theorem test_answer_sent :
    ((after (.answerSent .L1) (after (.status .L1 (.fields ())) line)).link .L1).tx = none := by decide

/-- Power lost and restored: the types stay, the roll and the calendar go (R23, R25, R39). -/
theorem test_power :
    let t := after .powerOn (after .powerLoss (roll nt))
    t.types = line.types ∧ (t.slot 0).state = .free ∧ t.calendar = none ∧ t.powered = true := by decide +kernel

/-! ### Witnesses: states and operands that meet each statement's hypotheses -/

/-- Every link is in the list of links. -/
theorem mem_allLinks (l : LinkId) : l ∈ allLinks := by cases l <;> decide

/-- Every head is in the list of heads. -/
theorem mem_allHeads (h : HeadId) : h ∈ allHeads := by cases h <;> decide

/-- A link that can take a frame, by evaluation. -/
theorem canTake_of (s : State) (l : LinkId)
    (h : (s.powered && decide ((s.link l).state ≠ .stopped ∧ (s.link l).rx ≠ .discarding ∧ (s.link l).tx = none)) = true) :
    CanTake s l := by
  simp only [Bool.and_eq_true, decide_eq_true_eq] at h
  exact ⟨h.1, h.2.1, h.2.2.1, h.2.2.2⟩

/-- The roll law of a line with one cylinder on carrier 62, by evaluation over the slots and the heads. -/
def rollCheck (s : State) : Bool :=
  decide ((s.slot 0).carrier = some 62) &&
  decide (∀ k, ∀ c ∈ (s.slot k).carrier, s.bound c = some k) &&
  decide (∀ k, (s.slot k).carrier.isSome = (s.slot k).state.isOpen) &&
  decide (∀ k, ∀ l ∈ allLinks, (s.slot k).holder = some (.link l) ↔ holderOf (s.slot k).state = some l) &&
  decide (∀ k, (∃ h ∈ allHeads, (s.slot k).holder = some (.head h)) ↔ (s.slot k).state = .testing) &&
  decide (∀ h ∈ allHeads, ∀ k, (s.slot k).holder = some (.head h) ↔ (s.head h).mount.map Mount.slot = some k) &&
  decide (∀ h ∈ allHeads, ∀ m ∈ (s.head h).mount, (s.slot m.slot).carrier = some m.carrier) &&
  decide (∀ h ∈ allHeads, (s.head h).mount = none ↔ (s.head h).phase = .idle) &&
  decide (s.referral.Nodup ∧ ∀ k, k ∈ s.referral ↔ (s.slot k).state = .referred) &&
  decide (s.closingQueue.Nodup ∧ ∀ k, k ∈ s.closingQueue ↔ (s.slot k).state = .closed) &&
  decide (∀ k, (s.slot k).ident.isSome ↔ (s.slot k).state ≠ .free) &&
  decide (∀ k, (s.slot k).closing.isSome ↔ (s.slot k).state = .closed) &&
  decide (∀ j, (s.slot j).state.isOpen = true → ∀ k, (s.slot k).state.isOpen = true →
    (s.slot j).ident.map Identity.serial = (s.slot k).ident.map Identity.serial → j = k) &&
  decide (∀ k, (s.slot k).state.isOpen = true → ∀ i ∈ (s.slot k).ident,
    ∃ t ∈ (s.typeEntry i.typeIdx).loaded, t.rev = i.typeRev ∧ t.fields.proving = i.proving)

/-- The evaluation is the law. -/
theorem rollLaw_of (s : State) (hx : s.index = (roll nt).index) (h : rollCheck s = true) : RollLaw s := by
  simp only [rollCheck, Bool.and_eq_true, decide_eq_true_eq] at h
  obtain ⟨⟨⟨⟨⟨⟨⟨⟨⟨⟨⟨⟨⟨a, b⟩, c⟩, d⟩, e⟩, f⟩, g⟩, i⟩, j⟩, k⟩, l⟩, m⟩, n⟩, o⟩ := h
  refine ⟨fun p q => ⟨fun hc => ?_, fun hc => ?_⟩, fun q p hp => ?_, c, fun q p => d q p (mem_allLinks p), fun q => ?_,
    fun p q => ?_, fun p q hq => g p (mem_allHeads p) q hq, fun p => i p (mem_allHeads p), j.1, j.2, k.1, k.2, l, m, ?_, ?_⟩
  · have hi : (roll nt).index[p] = if p.val = 61 then some 0 else none := by
      simp [roll, line, State.bind, State.setSlot, State.reset, Vector.getElem_set, eq_comm]
    rw [hx, hi] at hc
    split at hc
    · cases hc
      simp [*]
    · cases hc
  · have := b q _ hc
    simpa [State.bound, carrierPlace, show p.val + 1 ≤ 255 from p.isLt] using this
  · have := b q p hp
    by_cases hr : 1 ≤ p ∧ p ≤ 255
    · exact hr
    · simp [State.bound, carrierPlace, hr] at this
  · rw [← e q]
    exact ⟨fun ⟨h, hh⟩ => ⟨h, mem_allHeads h, hh⟩, fun ⟨h, _, hh⟩ => ⟨h, hh⟩⟩
  · rw [f p (mem_allHeads p) q]
    constructor
    · intro h
      obtain ⟨⟨x, y⟩, hx, rfl⟩ := Option.map_eq_some_iff.mp h
      exact ⟨y, hx⟩
    · rintro ⟨y, hy⟩
      simp [hy]
  · intro p q r t hp hq hr ht hs
    exact n p hp q hq (by simp [hr, ht, hs])
  · intro p q hp hq
    obtain ⟨t, ht, h⟩ := o p hp q hq
    exact ⟨t, ht, h⟩

/-- A link that can take frames on any state built above. -/
theorem test_witness_CanTake : (∀ l, CanTake line l) ∧ ∀ l, CanTake (roll inspecting) l :=
  ⟨fun l => canTake_of _ _ (by cases l <;> decide), fun l => canTake_of _ _ (by cases l <;> decide)⟩

/-! #### Steps, power, frames -/

theorem test_witness_StepTakesFrontCommand :
    ({ line with pending := [.powerLoss, .powerOn] } : State).pending = .powerLoss :: [.powerOn] ∧ line.pending = [] ∧
      line.powered = true ∧ ({ line with powered := false } : State).pending = [] := by decide

theorem test_witness_PowerLossKeepsTheStore : Instr.moveRecords ≠ .powerOn ∧ Instr.moveRecords ≠ .powerLoss := by decide

theorem test_witness_FrameNotTaken :
    encodeRequest (.begin .L2 (.fields 1)) = some (.L2, 24, [1]) ∧
      ({ line with powered := false } : State).powered = false ∧
      ((withLink .L2 (fun k => { k with state := .stopped }) line).link .L2).state = .stopped ∧
      ((withLink .L2 (fun k => { k with rx := .discarding }) line).link .L2).rx = .discarding ∧
      (let s := withLink .L2 (fun k => { k with tx := some ⟨.sending, 1, .ok, noFlags, []⟩ }) line
       s.powered = true ∧ (s.link .L2).state ≠ .stopped ∧ (s.link .L2).rx = .hunting ∧ (s.link .L2).tx ≠ none) := by decide

/-- BEGIN's code on L1; ADMIT's with 24 and with 26 bytes; SET_MARK's with a count of 4 and 3 characters; codes 0
and 42. -/
theorem test_witness_RoleThenLengthRefused :
    CanTake line .L1 ∧ 24 ∉ admittedCodes .L1 ∧ 0 ∉ admittedCodes .L1 ∧ 42 ∉ admittedCodes .L1 ∧ 16 ∈ admittedCodes .L1 ∧
      bodyFits 16 (List.replicate 24 0) = false ∧ bodyFits 16 (List.replicate 26 0) = false ∧ 36 ∈ admittedCodes .L5 ∧
      bodyFits 36 [4, 1, 2, 3] = false ∧ bodyFits 36 [] = false ∧ (0 = 0 ∨ 41 < 0) ∧ (42 = 0 ∨ 41 < 42) :=
  ⟨test_witness_CanTake.1 _, by decide⟩

theorem test_witness_DecodeOfEncodeIsTheCommand :
    wellFormed (.turnPage .L5 (.fields 1009)) = true ∧
      encodeFrame (.turnPage .L5 (.fields 1009)) = some (.L5, [0xC3, 0x05, 0x27, 0x00, 0x00, 0x03, 0xF1, 0xE0]) := by decide

/-- Length bytes 1 and 250, 0 and 251. -/
theorem test_witness_FramesDecodeToTheirRows :
    (1 ≤ (1 : Byte).toNat ∧ (1 : Byte).toNat ≤ 250 ∧ [(1 : Byte), 1].length = (1 : Byte).toNat + 1 ∧
      byteSum ((1 : Byte) :: [1, 1]) % 256 ≠ 0) ∧
    (1 ≤ (250 : Byte).toNat ∧ (250 : Byte).toNat ≤ 250 ∧ (List.replicate 251 (0 : Byte)).length = (250 : Byte).toNat + 1 ∧
      byteSum ((250 : Byte) :: List.replicate 251 0) % 256 ≠ 0) ∧
    ((0 : Byte).toNat = 0 ∨ 250 < (0 : Byte).toNat) ∧ ((251 : Byte).toNat = 0 ∨ 250 < (251 : Byte).toNat) := by decide +kernel

/-- The longest record (16 characters of serial, 8 of name, 8 findings, a test, 12 of stamp line) and the barest. -/
theorem test_witness_AnswerAndRecordLayout :
    let c : CylinderRecord := { sample.cylinder with
      ident := ⟨List.replicate 16 0x41, 4, 1, false⟩, typeName := List.replicate 8 0x41
      findings := List.replicate 8 ⟨1, .note, .inspection, some 65535⟩, test := some begunRecord
      stamp := some ⟨List.replicate 12 0x41, ⟨2099, 12⟩⟩ }
    (c.ident.serial.length ≤ 16 ∧ c.typeName.length ≤ 8 ∧ c.findings.length ≤ 8 ∧ (∀ x, c.stamp = some x → x.line.length ≤ 12) ∧
      c.findings[7]? = some ⟨1, .note, .inspection, some 65535⟩ ∧ c.test = some begunRecord) ∧
    (let d := sample.cylinder
     d.ident.serial.length ≤ 16 ∧ d.typeName.length ≤ 8 ∧ d.findings.length ≤ 8 ∧ (∀ x, d.stamp = some x → x.line.length ≤ 12) ∧
      d.findings.length ≤ 0 ∧ d.test = none ∧ d.stamp = none) ∧
    some sample ≠ none := by
  refine ⟨⟨by decide, by decide, by decide, fun x h => ?_, by decide, by decide⟩,
    ⟨by decide, by decide, by decide, fun x h => ?_, by decide, by decide, by decide⟩, by decide⟩
  · cases h
    decide
  · cases h

/-- L2 names HOLD_DONE, its own; L1 names EXPORT_BLOCKED, not its own. -/
theorem test_witness_LinkRequestsAct :
    CanTake line .L2 ∧
      ((∀ i, (1 : BitVec 16).getLsbD i = true → ∃ k, NoticeKind.list[i]? = some k ∧ LinkId.L2 ∈ towards k) ∧
        ∀ i, (0 : BitVec 8).getLsbD i = true → ∃ c, allConditions[i]? = some c ∧ LinkId.L2 ∈ towards c.notice.kind) ∧
      ¬ (∀ i, (4 : BitVec 8).getLsbD i = true → ∃ c, allConditions[i]? = some c ∧ LinkId.L1 ∈ towards c.notice.kind) := by
  refine ⟨test_witness_CanTake.1 _, ⟨fun i h => ?_, fun i h => by simp at h⟩, fun h => ?_⟩
  · have hi := BitVec.lt_of_getLsbD h
    have : i = 0 := (by decide : ∀ j, j < 16 → (1 : BitVec 16).getLsbD j = true → j = 0) i hi h
    subst this
    exact ⟨.holdDone, rfl, by decide⟩
  · obtain ⟨c, hc, hl⟩ := h 2 (by decide)
    cases hc
    exact absurd hl (by decide)

/-- A RUNNING link that hunts on a free line, one that is STOPPED, one that discards with the line free and with an
answer being sent, one inside a frame, and one whose answer is awaited. -/
theorem test_witness_LinkFaultsAct :
    line.powered = true ∧ (line.link .L1).state ≠ .stopped ∧ (line.link .L1).rx = .hunting ∧ (line.link .L1).rx ≠ .inFrame ∧
      (line.link .L1).tx = none ∧
      ((withLink .L1 (fun k => { k with state := .stopped }) line).link .L1).state = .stopped ∧
      (let k := (withLink .L1 (fun k => { k with rx := .discarding }) line).link .L1
       k.state ≠ .stopped ∧ k.rx = .discarding ∧ k.tx = none) ∧
      (let k := (after (.lengthByteFault .L1 0) line).link .L1
       k.state ≠ .stopped ∧ k.rx = .discarding ∧ k.tx ≠ none) ∧
      (let k := (withLink .L1 (fun k => { k with rx := .inFrame }) line).link .L1
       k.state ≠ .stopped ∧ k.rx = .inFrame ∧ k.tx = none) ∧
      (let k := (after (.status .L1 (.fields ())) line).link .L1
       k.state ≠ .stopped ∧ k.rx = .hunting ∧ k.tx ≠ none) := by decide

/-! #### Laws -/

/-- H1 in HOLD with its permit asserted, and a pair waiting. -/
def holding : State :=
  { bench (onBench nt) { zeroed .hold with permit := true, proving := some ⟨30000, 0, 1⟩ } with
    pending := [.readingPair .H1 (.value 25000) (.value 14700)] }

theorem test_witness_StepKeepsPermitLaw : PermitLaw holding ∧ ∃ t, step holding = .next t :=
  ⟨fun h => by cases h <;> (unfold permitPhase; decide), _, rfl⟩

/-- The blocked pages of 9.8, and a TURN_PAGE waiting. -/
def turning : State := { blocked line with pending := [.turnPage .L5 (.fields 1001)] }

theorem pages_turning : PagesLaw turning := by
  refine ⟨⟨by decide, ?_⟩, ⟨by decide, ?_⟩, by decide, by decide, ?_⟩
  · show 1 ≤ (records 1001 8).length ∧ (records 1001 8).length ≤ 8
    decide
  · show 1 ≤ (records 1009 8).length ∧ (records 1009 8).length ≤ 8
    decide
  · refine ⟨by decide, by decide, ?_⟩
    have : pageNumbers (turning.page .A) ++ pageNumbers (turning.page .B) =
        [1001, 1002, 1003, 1004, 1005, 1006, 1007, 1008, 1009, 1010, 1011, 1012, 1013, 1014, 1015, 1016] := by decide
    show RunsTo (pageNumbers (turning.page .A) ++ pageNumbers (turning.page .B)) 1017
    rw [this]
    simp [RunsTo, followedBy]

theorem roll_holding : RollLaw holding := rollLaw_of _ rfl (by decide +kernel)

theorem test_witness_StepKeepsPagesAndDrainLaws :
    (PagesLaw turning ∧ ∃ t, step turning = .next t) ∧ RollLaw holding ∧ DrainLaw holding ∧ ∃ t, step holding = .next t :=
  ⟨⟨pages_turning, _, rfl⟩, roll_holding, fun _ => by decide, _, rfl⟩

theorem test_witness_StepKeepsRollLaw : RollLaw holding ∧ ∃ t, step holding = .next t := ⟨roll_holding, _, rfl⟩

/-- The heads of a bench but H1 stand as at power-on. -/
theorem bench_head (x : Slot) (y : Head) (q : List Instr) (h : HeadId) :
    State.head { bench x y with pending := q } h = if h = .H1 then y else Head.initial := by cases h <;> rfl

/-- The verdict law of a bench whose H1 has its test in flight. -/
theorem verdict_bench (y : Head) (q : List Instr) (hm : y.mount = some ⟨0, 62⟩) (hd : y.phase ≠ .done) :
    VerdictLaw { bench (onBench nt) y with pending := q } := by
  have mounted : ∀ h m, (State.head { bench (onBench nt) y with pending := q } h).mount = some m → h = .H1 ∧ m = ⟨0, 62⟩ := by
    intro h m e
    rw [bench_head] at e
    split at e
    · exact ⟨‹_›, Option.some.inj (e.symm.trans hm)⟩
    · cases e
  have slots : ∀ k, State.slot { bench (onBench nt) y with pending := q } k = (roll (onBench nt)).slot k := fun _ => rfl
  refine ⟨?_, ?_, ?_, fun h m e _ => ?_, fun h m e _ => ?_, fun h m e d => ?_, ?_⟩
  · simp only [slots]
    decide +kernel
  · simp only [slots]
    decide +kernel
  · simp only [slots]
    decide +kernel
  · obtain ⟨rfl, rfl⟩ := mounted h m e
    exact (by decide : ((roll (onBench nt)).slot 0).test.isSome = true)
  · obtain ⟨rfl, rfl⟩ := mounted h m e
    exact (by decide : ((roll (onBench nt)).slot 0).worst ≠ .condemn)
  · obtain ⟨rfl, rfl⟩ := mounted h m e
    exact absurd d hd
  · simp only [slots]
    decide +kernel

theorem verdict_holding : VerdictLaw holding := verdict_bench _ _ rfl (by decide)

theorem test_witness_StepKeepsVerdictLaw : RollLaw holding ∧ VerdictLaw holding ∧ ∃ t, step holding = .next t :=
  ⟨roll_holding, verdict_holding, _, rfl⟩

theorem test_witness_StepKeepsRecordsLaw :
    RollLaw (paged 6 holding) ∧ VerdictLaw (paged 6 holding) ∧ RecordsLaw (paged 6 holding) ∧
      ∃ t, step (paged 6 holding) = .next t := by
  refine ⟨rollLaw_of _ rfl (by decide +kernel), ?_, ⟨fun k c h => ?_, fun p r h => ?_⟩, _, rfl⟩
  · exact ⟨verdict_holding.clean, verdict_holding.stamp, verdict_holding.scrap, verdict_holding.recorded,
      verdict_holding.inTest, verdict_holding.done, verdict_holding.proving⟩
  · exact absurd ((by decide +kernel : ∀ k, ((paged 6 holding).slot k).closing = none) k ▸ h) (by simp)
  · have hs : RecordSound sample := ⟨by decide, by decide⟩
    have : r.record = sample := by
      cases p <;> (obtain ⟨i, _, rfl⟩ := List.mem_map.mp h; rfl)
    rw [this]
    exact hs

theorem sound_st250 : TypeSound st250 := by
  constructor <;> decide

theorem sound_prv300 : TypeSound prv300 := by
  constructor <;> decide

/-- The type table of the line is lawful. -/
theorem types_line (s : State) (hs : s.types = line.types) : TypesLaw s := by
  intro i t h
  rw [State.typeEntry, hs] at h
  rcases (by decide : ∀ i, (line.typeEntry i).loaded = none ∨ i = 4 ∨ i = 30) i with hi | rfl | rfl
  · exact absurd (hi.symm.trans h) (by simp)
  · obtain rfl := Option.some.inj ((by decide : (line.typeEntry 4).loaded = some ⟨st250, 1⟩).symm.trans h)
    exact ⟨sound_st250, by rw [State.typeEntry, hs]; decide⟩
  · obtain rfl := Option.some.inj ((by decide : (line.typeEntry 30).loaded = some ⟨prv300, 1⟩).symm.trans h)
    exact ⟨sound_prv300, by rw [State.typeEntry, hs]; decide⟩

theorem test_witness_StepKeepsAllowanceAndTypesLaws : AllowanceLaw holding ∧ TypesLaw holding ∧ ∃ t, step holding = .next t :=
  ⟨by unfold AllowanceLaw; decide +kernel, types_line _ rfl, _, rfl⟩

/-- The heads of a bench whose H1 is sound and fits ST250, the others as at power-on. -/
theorem heads_bench (y : Head) (q : List Instr) (hm : y.mount = some ⟨0, 62⟩) (hs : HeadSound y) (hf : HeadFits y st250) :
    HeadsLaw { bench (onBench nt) y with pending := q } := by
  intro h
  rw [bench_head]
  split
  · refine ⟨hs, fun m ty e et => ?_⟩
    obtain rfl := Option.some.inj (e.symm.trans hm)
    have typed : (roll (onBench nt)).typeOfSlot ((roll (onBench nt)).slot 0) = some st250 := by decide
    obtain rfl := Option.some.inj (typed.symm.trans et)
    exact hf
  · exact ⟨by constructor <;> first | decide | (constructor <;> constructor <;> decide), fun m ty e => absurd e (by decide +revert)⟩

/-- H1 at the first pair of HOLD, and one pair short of both the end of its lag and a fifth low pair in TAIL. -/
theorem test_witness_StepKeepsHeadsLaw :
    let pair : List Instr := [.readingPair .H1 (.value 24499) (.value 14700)]
    (let s : State := { bench (onBench nt) (zeroed .hold) with pending := pair }
     RollLaw s ∧ TypesLaw s ∧ HeadsLaw s ∧ ∃ t, step s = .next t) ∧
    (let s : State := { bench (onBench nt)
        { zeroed .tail with holdCount := 300, tailCount := 2, lowRun := 4, tWindow := List.replicate 16 14700 } with
        pending := pair }
     RollLaw s ∧ TypesLaw s ∧ HeadsLaw s ∧ ∃ t, step s = .next t) := by
  refine ⟨⟨rollLaw_of _ rfl (by decide +kernel), types_line _ rfl, heads_bench _ _ rfl ?_ ?_, _, rfl⟩,
    rollLaw_of _ rfl (by decide +kernel), types_line _ rfl, heads_bench _ _ rfl ?_ ?_, _, rfl⟩ <;>
    constructor <;> first | decide | (constructor <;> constructor <;> decide)

/-- L1's silence one second short of the limit, L2 with an item pending, L3 with a count at 255, L4 STOPPED while it
sends an answer, L5 inside a frame, and a second of the clock. -/
def lively : State :=
  { (withLink .L1 (fun k => { k with timer := 9 })
    (withLink .L2 (fun k => { k with pending := [.holdDone .H1] })
      (withLink .L3 (fun k => { k with counts := ⟨0, 0, 0, 0, 255⟩ })
        (withLink .L4 (fun k => { k with state := .stopped, tx := some ⟨.sending, 1, .ok, noFlags, []⟩ })
          (withLink .L5 (fun k => { k with rx := .inFrame }) line))))) with
    pending := [.unitClockAdvance] }

theorem test_witness_StepKeepsLinksLaw : LinksLaw lively ∧ ∃ t, step lively = .next t := by
  refine ⟨⟨fun l => ⟨?_, ?_, fun h => ⟨?_, ?_, ?_, fun o ho => ?_⟩, ?_, fun f => ?_⟩, by decide, fun l => ?_⟩, _, rfl⟩
  · cases l <;> decide
  · cases l <;> decide
  · cases l <;> revert h <;> decide
  · cases l <;> revert h <;> decide
  · cases l <;> revert h <;> decide
  · cases l <;> first | exact absurd h (by decide) | (obtain rfl := Option.some.inj ho; rfl)
  · cases l <;> decide
  · cases l <;> cases f <;> decide
  · cases l <;> decide

/-- Type 4 of an open slot, and type 30 of none; and an EMPTY entry under an open slot, which no run reaches. -/
theorem test_witness_OpenSlotLocksItsType :
    ((roll nt).slot 0).state.isOpen = true ∧ ((roll nt).slot 0).ident = some ⟨chars ['N', 'T', '-', '1'], 4, 1, false⟩ ∧
      (∃ t, exec (.dropType .L5 (.fields 4)) (roll nt) = .next t) ∧ CanTake (roll nt) .L5 ∧
      readTypeFields loadSt250 = some (4, st250) ∧ (readTypeFields { loadSt250 with index := 30 }).map Prod.fst = some 30 ∧
      (¬ ∃ k d, ((roll nt).slot k).state.isOpen = true ∧ ((roll nt).slot k).ident = some d ∧ d.typeIdx = 30) ∧
      ((roll nt).typeEntry 30).loaded ≠ none ∧ RollLaw (roll nt) ∧ ((roll nt).typeEntry 4).loaded ≠ none ∧
      (let s := (roll nt).setType 4 ⟨none, 1⟩
       CanTake s .L5 ∧ (s.slot 0).state.isOpen = true ∧ (s.typeEntry 4).loaded = none ∧
        status .L5 (.dropType .L5 (.fields 4)) s = some .empty) := by
  refine ⟨by decide, by decide, ⟨_, rfl⟩, canTake_of _ _ (by decide), by decide, by decide, fun ⟨k, d, _, hd, hi⟩ => ?_, by decide,
    rollLaw_of _ rfl (by decide +kernel), by decide, canTake_of _ _ (by decide), by decide, by decide, by decide⟩
  have : ∀ k, ∀ d ∈ ((roll nt).slot k).ident, d.typeIdx ≠ 30 := by decide
  exact this k d hd hi

/-- A CLOSED slot. -/
def closed : Slot := { nt with state := .closed, carrier := none, outcome := some .withdrawn, closing := some sample }

/-- Slot 0 ADMITTED, and slot 1 CLOSED while both pages are FINISHED. -/
def closedRoll : State := { blocked ((roll nt).setSlot 1 closed) with closingQueue := [1] }

/-- A claim of an open slot; the page turned under a CLOSED one, whose record moves, and a claim past it. -/
theorem test_witness_FindingsCountsAndClosedSlotsAreKept :
    (((roll nt).slot 0).state ≠ .free ∧
      ∃ t, exec (.claim .L1 (.fields 62)) (roll nt) = .next t ∧ (t.slot 0).state ≠ .free) ∧
    RollLaw closedRoll ∧ (closedRoll.slot 1).state = .closed ∧
      (∃ t, exec (.claim .L1 (.fields 62)) closedRoll = .next t ∧ t.slot 1 = closedRoll.slot 1) ∧
      ∃ t, exec (.turnPage .L5 (.fields 1001)) closedRoll = .next t ∧ t.slot 1 = Slot.empty :=
  ⟨⟨by decide, _, rfl, by decide⟩, rollLaw_of _ rfl (by decide +kernel), by decide, ⟨_, rfl, by decide +kernel⟩,
    ⟨_, rfl, by decide +kernel⟩⟩

/-! #### Closing and moving -/

theorem test_witness_ClosingSetsTheSlotAside : ((roll nt).slot 0).ident = some ⟨chars ['N', 'T', '-', '1'], 4, 1, false⟩ := by decide

/-- Six and seven records on the FILLING page; no page FILLING; an empty queue. -/
theorem test_witness_RecordsMoveOntoTheFillingPage :
    (∀ n ∈ [6, 7],
      let s := { paged n (line.setSlot 0 closed) with closingQueue := [0] }
      s.powered = true ∧ s.fillingPage = some .B ∧ s.closingQueue = 0 :: [] ∧ (s.slot 0).closing = some sample ∧
        (s.page .B).records.length = n) ∧ (blocked line).fillingPage = none ∧ line.closingQueue = [] := by decide

/-- STAMPED and SCRAPPED by their holders and by others; WITHDRAW of a held, a condemned, a barred and a free slot. -/
theorem test_witness_CompletionsCloseTheSlot :
    (∀ x : Slot, ∀ l, CanTake (roll x) l) ∧
      (∀ x ∈ [{ passed with state := .stamping, holder := some (.link .L3) },
          { condemned with state := .scrapping, holder := some (.link .L4) }, condemned, { nt with state := .awaitScrap }, nt,
          passed, referred], (roll x).bound 62 = some 0) ∧
      ((roll nt).slot 0).holder ≠ some (.link .L3) ∧ ((roll nt).slot 0).holder ≠ some (.link .L4) ∧
      ((roll { passed with state := .stamping, holder := some (.link .L3) }).slot 0).holder = some (.link .L3) ∧
      ((roll { condemned with state := .scrapping, holder := some (.link .L4) }).slot 0).holder = some (.link .L4) ∧
      ((roll condemned).slot 0).holder = none ∧ ((roll condemned).slot 0).worst = .condemn ∧
      (let x := (roll { nt with state := .awaitScrap }).slot 0
       x.holder = none ∧ x.worst ≠ .condemn ∧ x.state ∉ [.admitted, .awaitTest, .referred, .awaitStamp]) ∧
      ∀ y ∈ [nt, passed, referred],
        let x := (roll y).slot 0
        x.holder = none ∧ x.worst ≠ .condemn ∧ x.state ∈ [.admitted, .awaitTest, .referred, .awaitStamp] := by
  refine ⟨fun x l => canTake_of _ _ (by cases l <;> rfl), by decide⟩

theorem test_witness_UnboundCarrierIsRefused :
    (∀ l, CanTake line l) ∧ (∀ c ∈ [0, 1, 62, 255, 256], line.bound c = none) ∧ 3 < 4 := ⟨test_witness_CanTake.1, by decide⟩

/-! #### Reports -/

/-- Head 3 and 4, types 31 and 32, carriers 255 and 256, slots 47 and 48, positions 7 and 8, pages with and without
the position. -/
theorem test_witness_ReportsChangeNothing :
    (∀ l, CanTake (roll nt) l) ∧ CanTake (blocked line) .L5 ∧ 4 ≤ 4 ∧ headNumber .H3 = 3 ∧ 32 ≤ 32 ∧ (31 : TypeId).val = 31 ∧
      255 < 256 ∧ 255 ≤ 255 ∧ (roll nt).bound 255 = none ∧ (roll nt).bound 62 = some 0 ∧ 48 ≤ 48 ∧ (47 : SlotId).val = 47 ∧
      line.referral = [] ∧ referredRoll.referral = 0 :: [] ∧ 7 < 8 ∧ 7 ≤ 7 ∧ line.presented = none ∧
      (blocked line).presented = some .A ∧ ((blocked line).page .A).records[7]? = some ⟨1008, false, sample⟩ ∧
      (let s := { line with pageA := ⟨.finished, records 1 7, some 1⟩, presented := some .A }
       s.presented = some .A ∧ (s.page .A).records.length ≤ 7) :=
  ⟨fun l => canTake_of _ _ (by cases l <;> decide), canTake_of _ _ (by decide), by decide⟩

/-! #### Statistics -/

/-- On a head whose invalid count stands at 65,535: a pair that loses pressure, a line reset, a snapshot, and a date
that takes one; and a pair that settles a PASS, a BEGIN, and a power-on. -/
theorem test_witness_LiveCountersSaturateUntilASnapshot :
    let full : Stats := { Stats.zero with invalid := ⟨65535, false⟩ }
    (let s : State := { bench (onBench nt) { zeroed .hold with live := full, lowRun := 4 } with pending := [] }
     RollLaw s ∧ VerdictLaw s ∧
      (∃ t, exec (.readingPair .H1 (.value 24499) (.value 0)) s = .next t ∧ (t.head .H1).phase = .done ∧
        (t.head .H1).live.invalid = ⟨65535, true⟩ ∧ (t.head .H1).live.losses = ⟨1, false⟩) ∧
      (∃ t, exec .resetPushbutton s = .next t ∧ (t.head .H1).phase = .idle ∧ (t.head .H1).live.invalid = ⟨65535, true⟩) ∧
      (∃ t, exec (.snapshot .L5 (.fields ())) s = .next t ∧ (t.head .H1).snap = full ∧ (t.head .H1).live = Stats.zero) ∧
      (∃ t, exec (.setDate .L5 (.fields ⟨2024, 3, 15⟩)) s = .next t ∧ (t.head .H1).snap = full) ∧
      ∃ t, exec .powerOn s = .next t ∧ (t.head .H1).live = Stats.zero) ∧
    (let s : State := { bench (onBench nt)
        { zeroed .settle with t := some 13495, phaseCount := 31, gather := [1812, 1821] ++ List.replicate 13 1817 } with
        pending := [] }
     RollLaw s ∧ VerdictLaw s ∧
      ∃ t, exec (.readingPair .H1 (.value 0) (.value 1818)) s = .next t ∧ (t.head .H1).live.passed = ⟨1, false⟩) ∧
    (let s : State := { bench (onBench nt) (h1 .mounted) with pending := [] }
     RollLaw s ∧ VerdictLaw s ∧
      ∃ t, exec (.begin .L2 (.fields 1)) s = .next t ∧ (t.head .H1).phase = .zeroing ∧ (t.head .H1).live.begun = ⟨1, false⟩) :=
  ⟨⟨rollLaw_of _ rfl (by decide +kernel), verdict_bench _ _ rfl (by decide), ⟨_, rfl, by decide⟩,
      ⟨_, rfl, by decide +kernel⟩, ⟨_, rfl, by decide⟩, ⟨_, rfl, by decide⟩, ⟨_, rfl, by decide⟩⟩,
    ⟨rollLaw_of _ rfl (by decide +kernel), verdict_bench _ _ rfl (by decide), ⟨_, rfl, by decide⟩⟩,
    rollLaw_of _ rfl (by decide +kernel), verdict_bench _ _ rfl (by decide), ⟨_, rfl, by decide⟩⟩

/-! #### The supervisor -/

theorem test_witness_RuleActsOnReferredSlots :
    CanTake referredRoll .L0 ∧ 48 ≤ 48 ∧ (referredRoll.slot 1).state ≠ .referred ∧
      (let x := referredRoll.slot 0
       x.state = .referred ∧ x.grants ≠ 253 ∧ x.holder = none ∧ x.worst ≠ .condemn) ∧
      (∀ g ∈ [252, 253], ((roll { referred with grants := g }).slot 0).state = .referred) ∧
      ((roll { referred with holder := some (.link .L1) }).slot 0).holder ≠ none ∧
      ((roll { referred with worst := .condemn }).slot 0).worst = .condemn := ⟨canTake_of _ _ (by decide), by decide⟩

theorem test_witness_ClaimsAreGivenUp :
    (∀ l, CanTake (roll inspecting) l) ∧ (roll inspecting).bound 62 = some 0 ∧
      ((roll inspecting).slot 0).holder = some (.link .L1) ∧ ((roll inspecting).slot 0).state = .inspecting ∧
      ((roll { passed with state := .stamping, holder := some (.link .L3) }).slot 0).holder = some (.link .L3) ∧
      ((roll { condemned with state := .scrapping, holder := some (.link .L4) }).slot 0).holder = some (.link .L4) ∧
      ((roll inspecting).slot 0).holder ≠ some (.link .L3) ∧ ((roll nt).slot 0).holder = none ∧
      ((roll (onBench nt)).slot 0).holder = some (.head .H1) := ⟨test_witness_CanTake.2, by decide⟩

theorem test_witness_LinksStopAndStart :
    CanTake (roll inspecting) .L0 ∧ RollLaw (roll inspecting) ∧ LinkId.L1 ≠ .L0 ∧ ((roll inspecting).link .L1).state ≠ .stopped ∧
      ((roll inspecting).slot 0).holder = some (.link .L1) ∧ 6 ≤ 6 ∧
      ((withLink .L4 (fun k => { k with state := .stopped }) line).link .L4).state = .stopped ∧
      (let s := after (.status .L1 (.fields ())) (roll inspecting)
       CanTake s .L0 ∧ RollLaw s ∧ ((s.link .L1).tx.map Outgoing.stage) = some .awaited ∧
        CanTake (idle s) .L0 ∧ RollLaw (idle s) ∧ (((idle s).link .L1).tx.map Outgoing.stage) = some .sending) :=
  ⟨test_witness_CanTake.2 _, rollLaw_of _ rfl (by decide +kernel), by decide, by decide, by decide, by decide, by decide,
    canTake_of _ _ (by decide), rollLaw_of _ rfl (by decide +kernel), by decide, canTake_of _ _ (by decide),
    rollLaw_of _ rfl (by decide +kernel), by decide⟩

/-- Link 6, head 4, links 0 and 6 are out of range; HOLD_DONE(3) on L2 and LINK_LOST(5) on L0 are not. -/
theorem test_witness_ForcedNoticeIsAdded :
    CanTake line .L0 ∧ 6 ≤ 6 ∧ LinkId.L0 ∉ towards .holdDone ∧
      ((NoticeKind.holdDone = .holdDone ∨ NoticeKind.holdDone = .testDone ∨ NoticeKind.holdDone = .headUnproved) ∧ 4 ≤ 4) ∧
      (NoticeKind.linkLost = .linkLost ∧ (0 = 0 ∨ 6 ≤ 0)) ∧ (NoticeKind.linkLost = .linkLost ∧ (6 = 0 ∨ 6 ≤ 6)) ∧
      LinkId.L2 ∈ towards (Notice.holdDone .H3).kind ∧ Notice.holdDone .H3 ≠ .linkLost .L0 ∧ noticeNumber (.holdDone .H3) = 3 ∧
      LinkId.L0 ∈ towards (Notice.linkLost .L5).kind ∧ noticeNumber (.linkLost .L5) = 5 ∧ (line.link .L2).state ≠ .stopped ∧
      ((withLink .L2 (fun k => { k with state := .stopped }) line).link .L2).state = .stopped :=
  ⟨test_witness_CanTake.1 _, by decide⟩

/-! #### Line reset -/

theorem test_witness_LineResetFollowsItsAnswer :
    CanTake line .L0 ∧ line.powered = true ∧ (line.link .L0).tx = none ∧
      ((after (.lineReset .L0 (.fields ())) line).link .L0).tx = some ⟨.awaited, 12, .ok, noFlags, []⟩ ∧
      ((idle (after (.lineReset .L0 (.fields ())) line)).link .L0).tx = some ⟨.sending, 12, .ok, noFlags, []⟩ ∧
      ¬ ((⟨12, .role, noFlags, []⟩ : Answer).code = 12 ∧ (⟨12, .role, noFlags, []⟩ : Answer).status = .ok) :=
  ⟨test_witness_CanTake.1 _, by decide⟩

theorem test_witness_LineResetClearsHeadsAndLinks :
    RollLaw holding ∧ (holding.head .H1).phase.inFlight = true ∧
      ((holding.head .H1).mount.map fun m => (holding.slot m.slot).isProving) = some false ∧ (holding.head .H1).proving ≠ none :=
  ⟨roll_holding, by decide⟩

/-- H1 in DONE with an outcome. -/
def doneWith (o : TestOutcome) (x : Slot) : State :=
  bench { onBench x with test := some { begunRecord with outcome := some o } } (h1 .done)

/-- Each way a slot stands at a line reset: L1's claim, unheld, mounted, in flight with and without attempts left,
in DONE with each outcome, and a proving slot. -/
theorem test_witness_LineResetRoutesHeldSlots :
    (RollLaw (roll inspecting) ∧ ((roll inspecting).slot 0).holder = some (.link .L1)) ∧
    (RollLaw (roll nt) ∧ ((roll nt).slot 0).holder = none ∧ ((roll nt).slot 0).state ≠ .closed) ∧
    (RollLaw (bench (onBench nt) (h1 .mounted)) ∧ ((bench (onBench nt) (h1 .mounted)).head .H1).phase = .mounted) ∧
    (RollLaw holding ∧ (holding.slot 0).isProving = false ∧ (holding.slot 0).holder = some (.head .H1) ∧
      (holding.head .H1).phase.inFlight = true ∧ (holding.slot 0).test = some begunRecord ∧
      (holding.slot 0).attempts < 2 + (holding.slot 0).grants) ∧
    (let s := bench { onBench nt with attempts := 2 } (zeroed .release)
     RollLaw s ∧ (s.head .H1).phase.inFlight = true ∧ 2 + (s.slot 0).grants ≤ (s.slot 0).attempts) ∧
    (RollLaw (doneWith .pass nt) ∧ outcomeOf ((doneWith .pass nt).slot 0) = some .pass) ∧
    (RollLaw (doneWith .condemn nt) ∧ outcomeOf ((doneWith .condemn nt).slot 0) = some .condemn) ∧
    (RollLaw (doneWith .invalid nt) ∧ outcomeOf ((doneWith .invalid nt).slot 0) = some .invalid) ∧
    (let s := doneWith .proved prv
     RollLaw s ∧ (s.slot 0).isProving = true ∧ (s.head .H1).phase ≠ .mounted) := by
  refine ⟨⟨rollLaw_of _ rfl ?_, ?_⟩, ⟨rollLaw_of _ rfl ?_, ?_⟩, ⟨rollLaw_of _ rfl ?_, ?_⟩, ⟨roll_holding, ?_⟩,
    ⟨rollLaw_of _ rfl ?_, ?_⟩, ⟨rollLaw_of _ rfl ?_, ?_⟩, ⟨rollLaw_of _ rfl ?_, ?_⟩, ⟨rollLaw_of _ rfl ?_, ?_⟩,
    ⟨rollLaw_of _ rfl ?_, ?_⟩⟩ <;> decide +kernel

/-! #### Settings -/

/-- 28 and 29 February, in a leap year and out of one; the first and last year. -/
theorem test_witness_DatesAndSnapshots :
    CanTake line .L0 ∧ CanTake line .L5 ∧
      (∀ d ∈ [(2000, 1, 1), (2024, 2, 29), (2025, 2, 28), (2099, 12, 31)], readDate ⟨d.1, d.2.1, d.2.2⟩ ≠ none) ∧
      ∀ d ∈ [(1999, 12, 31), (2025, 2, 29), (2024, 4, 31), (2024, 13, 1), (2024, 1, 0), (2100, 1, 1)],
        readDate ⟨d.1, d.2.1, d.2.2⟩ = none := ⟨test_witness_CanTake.1 _, test_witness_CanTake.1 _, by decide⟩

theorem test_witness_TypeEntriesLoadAndDrop :
    CanTake line .L5 ∧ readTypeFields { loadSt250 with index := 32 } = none ∧ readTypeFields loadSt250 = some (4, st250) ∧
      line.locked 4 = false ∧ (line.typeEntry 4).loaded ≠ none ∧ (line.typeEntry 5).loaded = none ∧ 32 ≤ 32 ∧
      (roll nt).locked 4 = true ∧ ((roll nt).typeEntry 4).loaded ≠ none := ⟨test_witness_CanTake.1 _, by decide⟩

/-- Marks of 0, 1, 4 and 5 characters, one that is outside the die set, one of spaces, and one that comes to be in the
set. -/
theorem test_witness_MarkAndLimitsAreStored :
    let dieSet := chars ['0', '1', '2', '3', '4', '5', '6', '7', '8', '9', 'A', 'B', 'C', 'D', 'E', 'F', 'G', 'H', 'J', 'K', 'L',
      'M', 'N', 'P', 'R', 'S', 'T', 'U', 'V', 'W', 'X', 'Y', 'Z', '/', '-', '*', ' ']
    let struck (c : Byte) : Byte :=
      if c = 0x49 ∨ c = 0x69 then 0x31
      else if c = 0x4F ∨ c = 0x6F ∨ c = 0x51 ∨ c = 0x71 then 0x30
      else if 0x61 ≤ c.toNat ∧ c.toNat ≤ 0x7A then BitVec.ofNat 8 (c.toNat - 0x20)
      else c
    CanTake line .L5 ∧ ([] : Text).length = 0 ∧ 4 < (chars ['A', 'B', 'C', 'D', 'E']).length ∧
      (∃ c ∈ (chars ['A', '+']).map struck, c ∉ dieSet) ∧ (∀ c ∈ (chars [' ']).map struck, c = 0x20) ∧
      (∀ t ∈ [chars ['A'], chars ['k', '7', 't', 'q'], chars ['i', 'O', 'Q', '*']],
        1 ≤ t.length ∧ t.length ≤ 4 ∧ (∀ c ∈ t.map struck, c ∈ dieSet) ∧ ∃ c ∈ t.map struck, c ≠ 0x20) ∧
      (chars ['i', 'O', 'q', '*']).map struck = chars ['1', '0', '0', '*'] ∧
      (let u := { withLink .L1 (fun k => { k with timer := 10 }) (roll inspecting) with clock := 28800 }.setHead .H2
        { Head.initial with proving := some ⟨30000, 0, 0⟩ }
       RollLaw u ∧
        (LinkId.L1 ≠ .L0 ∧ (u.link .L1).state = .running ∧ u.limits.silence ≠ 0 ∧ u.limits.silence ≤ (u.link .L1).timer) ∧
        (∃ p, (u.head .H2).proving = some p ∧ p.provedAt + u.limits.validity * 60 ≤ u.clock) ∧
        (u.slot 0).holder = some (.link .L1) ∧ (u.head .H0).proving = none ∧ (u.link .L2).timer < u.limits.silence) :=
  ⟨test_witness_CanTake.1 _, by decide, by decide, by decide, by decide, by decide, by decide,
    rollLaw_of _ rfl (by decide +kernel), by decide, ⟨⟨30000, 0, 0⟩, by decide⟩, by decide⟩

/-! #### Admission, claims, inspection -/

/-- The parameters of the ADMIT of 3.8. -/
def params : BindingParams := ⟨61, chars ['N', 'T', '-', '1'], 4⟩

/-- A roll without a FREE slot. -/
def fullRoll : State := { line with slots := Vector.replicate 48 closed }

theorem test_witness_AdmissionChecksInOrder :
    CanTake line .L1 ∧ CanTake line .L2 ∧ State.reset.calendar = none ∧ line.calendar = some ⟨2024, 3, 14⟩ ∧
      readBinding 0 admitNt.serial 4 = none ∧ readOrdinary ⟨2024, 3, 14⟩ { admitNt with year := 2024, month := 4 } = none ∧
      readBinding 62 admitNt.serial 4 = some params ∧ readOrdinary ⟨2024, 3, 14⟩ admitNt = some ⟨⟨2009, 6⟩, 6850, some 14000⟩ ∧
      (line.typeEntry 4).loaded = some ⟨st250, 1⟩ ∧ (line.typeEntry 30).loaded = some ⟨prv300, 1⟩ ∧
      (line.typeEntry 5).loaded = none ∧ readBinding 62 admitNt.serial 30 ≠ none ∧ readBinding 62 admitNt.serial 5 ≠ none ∧
      (roll nt).bound 62 ≠ none ∧ (roll nt).bound 9 = none ∧ (roll nt).serialOpen params.serial = true ∧
      fullRoll.bound 62 = none ∧ fullRoll.serialOpen params.serial = false ∧ fullRoll.lowestFree = none := by
  refine ⟨test_witness_CanTake.1 _, test_witness_CanTake.1 _, ?_⟩
  decide +kernel

theorem test_witness_AdmissionBindsTheLowestFreeSlot :
    CanTake line .L1 ∧ CanTake line .L2 ∧ line.lowestFree = some 0 ∧ (line.typeEntry params.typeIdx).loaded = some ⟨st250, 1⟩ ∧
      line.bound (params.carrier.val + 1) = none ∧ line.serialOpen params.serial = false ∧ st250.proving = false ∧
      line.calendar = some ⟨2024, 3, 14⟩ ∧ readBinding admitNt.carrier admitNt.serial admitNt.type = some params ∧
      readOrdinary ⟨2024, 3, 14⟩ admitNt = some ⟨⟨2009, 6⟩, 6850, some 14000⟩ ∧
      (line.typeEntry 30).loaded = some ⟨prv300, 1⟩ ∧ prv300.proving = true ∧
      readBinding 62 admitNt.serial 30 = some { params with typeIdx := 30 } ∧
      wellFormed (.admitOrdinary .L1 (.fields admitNt)) = true ∧ wellFormed (.loadType .L5 (.fields loadSt250)) = true ∧
      wellFormed (.admitProving .L2 (.fields ⟨62, admitNt.serial, 30⟩)) = true ∧
      readName (chars ['a', '-', '9', ' ', ' ']) = some (chars ['A', '-', '9']) ∧ readName (chars [' ', 'A']) = none ∧
      readName (chars ['A', ' ', 'B']) = none ∧ readName (chars ['A', '/']) = none ∧ readName [] = none :=
  ⟨test_witness_CanTake.1 _, test_witness_CanTake.1 _, by decide⟩

theorem test_witness_ClaimsAreTaken :
    (∀ l, CanTake (roll inspecting) l) ∧ (roll inspecting).bound 62 = some 0 ∧
      ((roll inspecting).slot 0).holder = some (.link .L1) ∧ ((roll inspecting).slot 0).holder ≠ some (.link .L4) ∧
      ((roll (onBench nt)).slot 0).holder ≠ none ∧ ((roll (onBench nt)).slot 0).holder ≠ some (.link .L1) ∧
      ((roll passed).slot 0).holder = none ∧ ((roll passed).slot 0).state ≠ .admitted ∧
      ((roll nt).slot 0).state = .admitted ∧ ((roll nt).slot 0).state ≠ .awaitScrap ∧
      ((roll condemned).slot 0).holder = none ∧ ((roll condemned).slot 0).state = .awaitScrap ∧
      ((roll { condemned with state := .scrapping, holder := some (.link .L4) }).slot 0).holder = some (.link .L4) :=
  ⟨test_witness_CanTake.2, by decide⟩

theorem test_witness_StampClaimComposesTheLine :
    CanTake (roll passed) .L3 ∧ (roll passed).bound 62 = some 0 ∧ ((roll passed).slot 0).holder = none ∧
      ((roll passed).slot 0).state = .awaitStamp ∧ (roll passed).calendar ≠ none ∧
      ((roll passed).slot 0).test = some { begunRecord with outcome := some .pass, star := true } ∧
      begunRecord.date = some ⟨2024, 3, 14⟩ ∧ (roll passed).typeOfSlot ((roll passed).slot 0) = some st250 ∧
      (roll passed).mark.length ≤ 4 ∧ (∀ b ∈ (roll passed).mark, inDieSet b = true) ∧
      ((roll nt).slot 0).state ≠ .awaitStamp ∧ ({ roll passed with calendar := none } : State).calendar = none ∧
      ((roll { passed with state := .stamping, holder := some (.link .L3) }).slot 0).holder = some (.link .L3) ∧
      ((roll inspecting).slot 0).holder ≠ none ∧ ((roll inspecting).slot 0).holder ≠ some (.link .L3) :=
  ⟨canTake_of _ _ (by decide), by decide⟩

/-- Codes 0, 1, 199 and 200; tares 0, 1, 65,000 and 65,001; seven and eight findings. -/
theorem test_witness_FindingsAndWeighings :
    CanTake (roll inspecting) .L1 ∧ (roll inspecting).bound 62 = some 0 ∧ ((roll nt).slot 0).holder ≠ some (.link .L1) ∧
      ((roll inspecting).slot 0).holder = some (.link .L1) ∧ ((roll inspecting).slot 0).weight ≠ none ∧
      (0 = 0 ∨ 199 < 0) ∧ (200 = 0 ∨ 199 < 200) ∧ (1 ≤ 1 ∧ 1 ≤ 199) ∧ (1 ≤ 199 ∧ 199 ≤ 199) ∧ Severity.note ≠ .none ∧
      (0 = 0 ∨ 65000 < 0) ∧ (65001 = 0 ∨ 65000 < 65001) ∧ (1 ≤ 65000 ∧ 65000 ≤ 65000) ∧
      (let x := (roll { inspecting with weight := none }).slot 0
       x.weight = none ∧ x.tare = some 6850 ∧ (roll nt).typeOfSlot x = some st250) ∧
      (List.replicate 7 (⟨1, .note, .inspection, none⟩ : Finding)).length < 8 ∧
      8 ≤ (List.replicate 8 (⟨1, .note, .inspection, none⟩ : Finding)).length := ⟨test_witness_CanTake.2 _, by decide⟩

theorem test_witness_InspectedRoutesTheSlot :
    CanTake (roll inspecting) .L1 ∧ (roll inspecting).bound 62 = some 0 ∧
      (∀ w ∈ [Severity.none, .note, .refer, .condemn],
        let x := (roll { inspecting with worst := w }).slot 0
        x.holder = some (.link .L1) ∧ (roll inspecting).typeOfSlot x = some st250 ∧ x.made = some ⟨2009, 6⟩ ∧
          ¬ (0 < st250.lw ∧ x.weight = none) ∧ x.worst = w) ∧
      (roll inspecting).calendar = some ⟨2024, 3, 14⟩ ∧ 0 < st250.lw ∧
      ((roll { inspecting with weight := none }).slot 0).weight = none ∧ ((roll nt).slot 0).holder ≠ some (.link .L1) :=
  ⟨test_witness_CanTake.2 _, by decide⟩

/-! #### The bench -/

theorem test_witness_MountAndHeadSetup :
    CanTake (roll nt) .L2 ∧ 4 ≤ 4 ∧ (roll nt).bound 62 = some 0 ∧ ((roll inspecting).slot 0).holder ≠ none ∧
      ((roll nt).slot 0).holder = none ∧ ((roll nt).slot 0).state ≠ .awaitTest ∧
      (let s := roll { nt with state := .awaitTest }
       (s.slot 0).holder = none ∧ (s.slot 0).state = .awaitTest ∧ (s.head .H1).phase = .idle ∧
         ((s.setHead .H1 (h1 .mounted)).head .H1).phase ≠ .idle) := ⟨canTake_of _ _ (by decide), by decide⟩

/-- A mounted slot at each check of BEGIN: attempts 1 and 2 of 2, Pv 24,999 and 25,000, lag 15 and 16 of W 16, the
proving count one below the limit and at it. -/
theorem test_witness_BeginStartsTheTest :
    let x := { onBench nt with attempts := 0, test := none }
    let s := bench x (h1 .mounted)
    CanTake s .L2 ∧ (s.head .H1).phase = .mounted ∧ (s.head .H1).mount = some ⟨0, 62⟩ ∧ s.calendar ≠ none ∧
      s.typeOfSlot (s.slot 0) = some st250 ∧ (s.slot 0).attempts < 2 + (s.slot 0).grants ∧
      (∃ v, (s.head .H1).proving = some v ∧ 25000 ≤ v.pv) ∧ (s.head .H1).lag < st250.w ∧ (s.slot 0).isProving = false ∧
      0 + 1 < s.limits.testLimit ∧ s.limits.testLimit ≤ 199 + 1 ∧
      2 + (({ x with attempts := 2 } : Slot).grants) ≤ ({ x with attempts := 2 } : Slot).attempts ∧
      ({ h1 .mounted with proving := none } : Head).proving = none ∧
      (∃ v, ({ h1 .mounted with proving := some ⟨24999, 0, 0⟩ } : Head).proving = some v ∧ v.pv < 25000) ∧
      st250.w ≤ ({ h1 .mounted with lag := 16 } : Head).lag ∧ ((roll prv).slot 0).isProving = true ∧
      (line.head .H1).phase ≠ .mounted ∧ line.typeOfSlot Slot.empty = none :=
  ⟨canTake_of _ _ (by decide), by decide, by decide, by decide, by decide, by decide, ⟨⟨30000, 0, 0⟩, by decide⟩, by decide,
    by decide, by decide, by decide, by decide, by decide, ⟨⟨24999, 0, 0⟩, by decide⟩, by decide, by decide, by decide, by decide⟩

theorem test_witness_AbortAndDismount :
    CanTake (bench (onBench nt) (zeroed .ramp)) .L2 ∧ 4 ≤ 4 ∧ (line.head .H1).phase.inFlight = false ∧
      (line.head .H1).phase = .idle ∧ (line.head .H1).mount = none ∧
      (let s := bench (onBench nt) (zeroed .ramp)
       (s.head .H1).mount = some ⟨0, 62⟩ ∧ (s.head .H1).phase.inFlight = true) ∧
      ((bench (onBench nt) (h1 .mounted)).head .H1).phase = .mounted ∧
      (∀ o ∈ [TestOutcome.pass, .condemn, .invalid],
        let s := doneWith o nt
        (s.head .H1).mount = some ⟨0, 62⟩ ∧ (s.head .H1).phase = .done ∧ (s.slot 0).isProving = false ∧
          outcomeOf (s.slot 0) = some o ∧ (s.slot 0).attempts < 2 + (s.slot 0).grants) ∧
      ((doneWith .proved prv).slot 0).isProving = true ∧
      2 + (({ onBench nt with attempts := 2 } : Slot).grants) ≤ ({ onBench nt with attempts := 2 } : Slot).attempts :=
  ⟨canTake_of _ _ (by decide), by decide⟩

theorem test_witness_PagesTurnAndFinish :
    CanTake (blocked line) .L5 ∧ (0 = 0 ∨ 99999999 < 0) ∧ (100000000 = 0 ∨ 99999999 < 100000000) ∧
      (1 ≤ 1001 ∧ 1001 ≤ 99999999) ∧ line.presented = none ∧ (blocked line).presented = some .A ∧
      ((blocked line).page .A).first ≠ some 1009 ∧ ((blocked line).page .A).first = some 1001 ∧
      (blocked line).fillingPage = none ∧ line.fillingPage = some .A ∧ (line.page .A).records = [] ∧
      (paged 1 line).fillingPage = some .B ∧ ((paged 1 line).page .B).records ≠ [] := ⟨canTake_of _ _ (by decide), by decide⟩

/-! #### Reading pairs -/

/-- A test in flight on H1. -/
theorem testOn_bench (y : Head) (hm : y.mount = some ⟨0, 62⟩) (hp : y.pressures = some firstPressures) :
    TestOn (bench (onBench nt) y) .H1 0 62 st250 firstPressures :=
  ⟨rfl, hm, (by decide : (roll (onBench nt)).typeOfSlot ((roll (onBench nt)).slot 0) = some st250), hp⟩

/-- A FAULT; a pressure of Pr and one below; windows one short of W, full and stable, full and unstable; pairs 599
and 600. -/
theorem test_witness_ZeroingPairs :
    TestOn (bench (onBench nt) (h1 .zeroing)) .H1 0 62 st250 firstPressures ∧ (h1 .zeroing).phase = .zeroing ∧
      firstPressures.pr ≤ min 1250 65000 ∧ min 1249 65000 < firstPressures.pr ∧
      ¬ st250.w ≤ (List.replicate 14 1205 ++ [1205]).length ∧ st250.w ≤ (List.replicate 15 1205 ++ [1225]).length ∧
      spread (List.replicate 15 1205 ++ [1225]) ≤ (h1 .zeroing).band ∧
      (h1 .zeroing).band < spread (List.replicate 15 1205 ++ [1226]) ∧ 598 + 1 < 600 ∧ 600 ≤ 599 + 1 :=
  ⟨testOn_bench _ rfl rfl, by decide⟩

/-- The second and third pair of each run, and the pair before each limit and at it. -/
theorem test_witness_RampAndReleasePairs :
    TestOn (bench (onBench nt) (zeroed .ramp)) .H1 0 62 st250 firstPressures ∧
      TestOn (bench (onBench nt) (zeroed .release)) .H1 0 62 st250 firstPressures ∧ (zeroed .ramp).phase = .ramp ∧
      (zeroed .release).phase = .release ∧ min 25750 65000 ≤ firstPressures.po ∧
      3 ≤ (if firstPressures.pa ≤ min 25000 65000 then 2 + 1 else 0) ∧
      (if firstPressures.pa ≤ min 24999 65000 then 2 + 1 else 0) < 3 ∧
      (if firstPressures.pa ≤ min 25000 65000 then 1 + 1 else 0) < 3 ∧
      3 ≤ (if min 1249 65000 < firstPressures.pr then 2 + 1 else 0) ∧
      (if min 1250 65000 < firstPressures.pr then 2 + 1 else 0) < 3 ∧
      1198 + 1 < st250.rampLimit * 10 ∧ st250.rampLimit * 10 ≤ 1199 + 1 ∧ 1198 + 1 < 1200 ∧ 1200 ≤ 1199 + 1 :=
  ⟨testOn_bench _ rfl rfl, testOn_bench _ rfl rfl, by decide⟩

/-- A low run of 4 and of 5; the 299th and 300th pair of HOLD; lags 0 and 3; the second and third pair of TAIL. -/
theorem test_witness_HoldAndTailPairs :
    TestOn (bench (onBench nt) (zeroed .hold)) .H1 0 62 st250 firstPressures ∧
      TestOn (bench (onBench nt) (zeroed .tail)) .H1 0 62 st250 firstPressures ∧
      ((zeroed .hold).phase = .hold ∨ (zeroed .hold).phase = .tail) ∧ ((zeroed .tail).phase = .hold ∨ (zeroed .tail).phase = .tail) ∧
      (zeroed .hold).ripple = some ⟨25180, 24910⟩ ∧ (zeroed .hold).z = some 1205 ∧ (zeroed .tail).z = some 1205 ∧ min 25000 65000 ≤ firstPressures.po ∧
      5 ≤ (if min 24499 65000 < firstPressures.pl then 4 + 1 else 0) ∧
      (if min 24499 65000 < firstPressures.pl then 3 + 1 else 0) < 5 ∧
      (if min 24500 65000 < firstPressures.pl then 4 + 1 else 0) < 5 ∧ 298 + 1 < st250.holdSeconds * 10 ∧
      st250.holdSeconds * 10 ≤ 299 + 1 ∧ (zeroed .hold).lag ≠ 0 ∧ ({ zeroed .hold with lag := 0 } : Head).lag = 0 ∧
      1 + 1 < (zeroed .tail).lag ∧ (zeroed .tail).lag ≤ 2 + 1 :=
  ⟨testOn_bench _ rfl rfl, testOn_bench _ rfl rfl, by decide⟩

theorem test_witness_SettlePairs :
    TestOn (bench (onBench nt) (zeroed .settle)) .H1 0 62 st250 firstPressures ∧ (zeroed .settle).phase = .settle ∧
      (zeroed .settle).z = some 1205 ∧ min 25750 65000 ≤ firstPressures.po ∧ firstPressures.pr ≤ min 1250 65000 ∧ min 1249 65000 < firstPressures.pr ∧
      ¬ st250.w ≤ (List.replicate 14 1817 ++ [1817]).length ∧ st250.w ≤ (List.replicate 15 1817 ++ [1837]).length ∧
      spread (List.replicate 15 1817 ++ [1837]) ≤ (zeroed .settle).band ∧
      (zeroed .settle).band < spread (List.replicate 15 1817 ++ [1838]) ∧ 1198 + 1 < st250.settleLimit * 10 ∧
      st250.settleLimit * 10 ≤ 1199 + 1 := ⟨testOn_bench _ rfl rfl, by decide⟩

/-- Pressures of Po and just above it, and a saturated one. -/
theorem test_witness_LiveReadingsAndWatches :
    line.powered = true ∧ (line.head .H1).phase.inFlight = false ∧
      TestOn (bench (onBench nt) (zeroed .ramp)) .H1 0 62 st250 firstPressures ∧
      (zeroed .ramp).phase ∈ [Phase.ramp, .hold, .tail, .release, .settle] ∧ firstPressures.po < min 25751 65000 ∧
      firstPressures.po < min 70000 65000 ∧ min 25750 65000 ≤ firstPressures.po :=
  ⟨by decide, by decide, testOn_bench _ rfl rfl, by decide⟩

/-- An ordinary and a proving slot, with T formed, Tn and Lt given and the attempt pressures held. -/
theorem test_witness_TestsEndInDone :
    (holding.slot 0).isProving = false ∧
      (let s := bench (onBench prv) { zeroed .settle with t := some 15800, pressures := some ⟨30000, 30900, 29400, 1500⟩ }
       (s.slot 0).isProving = true ∧ (s.head .H1).t = some 15800 ∧ prv300.tn = some 15800 ∧ prv300.lt = some 20 ∧
        (s.head .H1).pressures = some ⟨30000, 30900, 29400, 1500⟩) ∧
      (bench (onBench nt) { zeroed .settle with t := some 13495 }).head .H1 = { zeroed .settle with t := some 13495 } := by decide

/-- A second at which L1's timer reaches the limit and H1's record runs out; the second before the clock's stop, and
the stop. -/
theorem test_witness_ClockAdvances :
    let s := { withLink .L1 (fun k => { k with timer := 9 }) (roll inspecting) with clock := 28799 }.setHead .H2
      { Head.initial with proving := some ⟨30000, 0, 0⟩ }
    s.powered = true ∧ RollLaw s ∧ s.clock < 4294967295 ∧
      (LinkId.L1 ≠ .L0 ∧ (s.link .L1).state = .running ∧ s.limits.silence ≠ 0 ∧ s.limits.silence ≤ (s.link .L1).timer + 1) ∧
      (∃ p, (s.head .H2).proving = some p ∧ p.provedAt + s.limits.validity * 60 ≤ s.clock + 1) ∧
      (s.slot 0).holder = some (.link .L1) ∧ 4294967294 < 4294967295 ∧
      4294967295 ≤ ({ s with clock := 4294967295 } : State).clock :=
  ⟨by decide, rollLaw_of _ rfl (by decide +kernel), by decide, by decide, ⟨⟨30000, 0, 0⟩, by decide⟩, by decide, by decide,
    by decide⟩

/-! #### Arithmetic -/

theorem test_witness_AttemptPressuresAreOrdered : TypeSound st250 ∧ TypeSound prv300 ∧ 1 ≤ 1 := ⟨sound_st250, sound_prv300, by decide⟩

theorem test_witness_MeansRoundHalfUp :
    (8 = 8 ∨ 8 = 16 ∨ 8 = 32 ∨ 8 = 64) ∧ (List.replicate 8 65000).length = 8 ∧ (∀ r ∈ List.replicate 8 65000, r ≤ 65000) ∧
      1205 ≤ 65000 ∧
      (1225 ∈ [1205, 1225, 1210] ∧ 1205 ∈ [1205, 1225, 1210] ∧ ∀ r ∈ [1205, 1225, 1210], 1205 ≤ r ∧ r ≤ 1225) := by decide

/-- T of 0 and of 1; P below 0, in 0 to T and above T; both criteria failing alone and together. -/
theorem test_witness_OrdinaryVerdictByExactProducts :
    ((0 : Int) ≤ 0) ∧ ((0 : Int) < 1) ∧ ((-1 : Int) < 0) ∧ ((0 : Int) ≤ 13495 ∧ (13495 : Int) ≤ 13495) ∧
      ((13495 : Int) < 13496) ∧ st250.lp * 13495 < 1350 * 1000 ∧ ¬ st250.lp * 13495 < 1349 * 1000 ∧
      (0 < 12882 ∧ 12882 < 13495 - 612) ∧ (0 < 1 ∧ 1 < 13495 - 1350) := by decide

end Sys2Proof.Tests
end

/-! ## The roll as the laws see it

The laws of the roll read only a part of the state: slots, carrier index, the two queues, type entries, and of each
head its mount, phase and ripple. `view` cuts that part out, and each operation of the unit is said once on it. -/

namespace Sys2Proof.Roll

open Sys2Proof.Machine Sys2Proof.Safety

/-! ### The view -/

/-- What the roll sees of a head. -/
structure HeadView where
  mount : Option Mount
  phase : Phase
  ripple : Option Ripple

/-- The view of a head. -/
def viewHead (x : Head) : HeadView := ⟨x.mount, x.phase, x.ripple⟩

/-- An IDLE head, seen from the roll (R62). -/
def HeadView.idle : HeadView := ⟨none, .idle, none⟩

/-- The part of the unit that the laws of the roll read. -/
@[ext] structure RollView where
  slots : SlotId → Slot
  index : Fin 255 → Option SlotId
  referral : List SlotId
  closing : List SlotId
  types : TypeId → TypeEntry
  heads : HeadId → HeadView

/-- The roll's view of a state. -/
def view (s : State) : RollView :=
  { slots := s.slot, index := fun i => s.index[i], referral := s.referral, closing := s.closingQueue,
    types := s.typeEntry, heads := fun h => viewHead (s.head h) }

namespace RollView

/-- Write a slot. -/
def setSlot (v : RollView) (k : SlotId) (x : Slot) : RollView := { v with slots := Function.update v.slots k x }

/-- Write a head. -/
def setHead (v : RollView) (h : HeadId) (x : HeadView) : RollView := { v with heads := Function.update v.heads h x }

/-- Write a type entry. -/
def setType (v : RollView) (i : TypeId) (e : TypeEntry) : RollView := { v with types := Function.update v.types i e }

/-- Bind a carrier. -/
def bind (v : RollView) (i : Fin 255) (k : SlotId) : RollView := { v with index := Function.update v.index i (some k) }

/-- Join the tail of the referral queue (R21). -/
def refer (v : RollView) (k : SlotId) : RollView := { v with referral := v.referral ++ [k] }

/-- Leave the referral queue (R21). -/
def unrefer (v : RollView) (k : SlotId) : RollView := { v with referral := v.referral.filter fun j => decide (j ≠ k) }

/-- The slots of a stretch of the closing queue become FREE (R15). -/
def free (v : RollView) (moved rest : List SlotId) : RollView :=
  { v with slots := fun k => if k ∈ moved then Slot.empty else v.slots k, closing := rest }

/-- Every head IDLE (R93). -/
def idleHeads (v : RollView) : RollView := { v with heads := fun _ => .idle }

end RollView

/-- A slot that enters a state that is not held. -/
def unheld (st : SlotState) (x : Slot) : Slot := { x with state := st, holder := none }

/-- A slot closed with an outcome and a record (R14). -/
def closed (o : ClosingOutcome) (r : Option ClosingRecord) (x : Slot) : Slot :=
  { x with state := .closed, carrier := none, holder := none, outcome := some o, closing := r }

/-- Close a slot, before the pages take records (R14). -/
def RollView.close (v : RollView) (k : SlotId) (o : ClosingOutcome) (r : Option ClosingRecord) : RollView :=
  { v with
    slots := Function.update v.slots k (closed o r (v.slots k))
    index := fun i => if (v.slots k).carrier = some (i.val + 1) then none else v.index i
    referral := if (v.slots k).state = .referred then v.referral.filter fun j => decide (j ≠ k) else v.referral
    closing := v.closing ++ [k] }

/-! ### What leaves the view as it was -/

@[simp] theorem view_updLink (s : State) (l : LinkId) (f : Link → Link) : view (s.updLink l f) = view s := rfl

@[simp] theorem view_setPage (s : State) (p : PageId) (x : Page) : view (s.setPage p x) = view s := by cases p <;> rfl

/-- A state with the same roll, types and heads has the same view. -/
theorem view_congr {s t : State} (slots : s.slots = t.slots) (index : s.index = t.index) (referral : s.referral = t.referral)
    (closing : s.closingQueue = t.closingQueue) (types : s.types = t.types)
    (heads : ∀ h, viewHead (s.head h) = viewHead (t.head h)) : view s = view t := by
  simp only [view, RollView.mk.injEq, index, referral, closing, true_and]
  exact ⟨funext fun k => by simp only [State.slot, slots], funext fun i => by simp only [State.typeEntry, types], funext heads⟩

@[simp] theorem view_raise (n : Notice) (s : State) : view (raise n s) = view s :=
  view_congr (by simp) (by simp) (by simp) (by simp) (by simp) (by simp)

@[simp] theorem view_raiseTo (n : Notice) (l : LinkId) (s : State) : view (raiseTo n l s) = view s :=
  view_congr (by simp) (by simp) (by simp) (by simp) (by simp) (by simp [State.head, raiseTo]; split <;> simp)

@[simp] theorem view_reporting (g : State → State) (s : State) : view (reporting g s) = view (g s) :=
  view_congr (by simp) (by simp) (by simp) (by simp) (by simp) (by simp)

/-! ### What the updates of a state are on the view -/

@[simp] theorem view_slots (s : State) (k : SlotId) : (view s).slots k = s.slot k := rfl
@[simp] theorem view_heads (s : State) (h : HeadId) : (view s).heads h = viewHead (s.head h) := rfl
@[simp] theorem view_types (s : State) (i : TypeId) : (view s).types i = s.typeEntry i := rfl
theorem view_index (s : State) (i : Fin 255) : (view s).index i = s.index[i] := rfl
@[simp] theorem view_referral (s : State) : (view s).referral = s.referral := rfl
@[simp] theorem view_closing (s : State) : (view s).closing = s.closingQueue := rfl

@[simp] theorem view_setSlot (s : State) (k : SlotId) (x : Slot) : view (s.setSlot k x) = (view s).setSlot k x := by
  ext1 <;> try rfl
  funext j
  simp [RollView.setSlot, State.slot_setSlot, Function.update_apply]

/-- A head written, seen from the roll. -/
theorem view_setHead (s : State) (h : HeadId) (x : Head) : view (s.setHead h x) = (view s).setHead h (viewHead x) := by
  ext1 <;> try rfl
  funext g
  by_cases e : g = h <;> simp [RollView.setHead, e]

/-- A head written with the mount, phase and ripple that it had is no change of the roll. -/
theorem view_setHead_same {s : State} {h : HeadId} {x : Head} (e : viewHead x = viewHead (s.head h)) :
    view (s.setHead h x) = view s := by
  rw [view_setHead, e]
  simp [RollView.setHead, view]

@[simp] theorem view_setType (s : State) (i : TypeId) (e : TypeEntry) : view (s.setType i e) = (view s).setType i e := by
  ext1 <;> try rfl
  funext j
  simp [RollView.setType, State.typeEntry_setType, Function.update_apply]

@[simp] theorem view_bind (s : State) (i : Fin 255) (k : SlotId) : view (s.bind i (some k)) = (view s).bind i k := by
  ext1 <;> try rfl
  funext j
  simp only [RollView.bind, Function.update_apply, view_index, State.index_bind]

/-- The carrier index after a carrier is unbound. -/
theorem index_unbind (s : State) (c : Nat) (i : Fin 255) :
    (s.unbind c).index[i] = if c = i.val + 1 then none else s.index[i] := by
  unfold State.unbind
  cases e : carrierPlace c with
  | some j =>
    obtain rfl := (carrierPlace_eq_some c j).mp e
    simp only [State.index_bind, Nat.add_right_cancel_iff, Fin.val_inj, eq_comm (a := i)]
  | none =>
    have : c ≠ i.val + 1 := fun h => by simp [(carrierPlace_eq_some c i).mpr h] at e
    simp [this]

end Sys2Proof.Roll

namespace Sys2Proof.Roll

open Sys2Proof.Machine Sys2Proof.Safety

/-! ### The shared operations on the view -/

@[simp] theorem view_enterUnheld (k : SlotId) (st : SlotState) (s : State) :
    view (enterUnheld k st s) = (view s).setSlot k (unheld st (s.slot k)) := by
  simp [unheld]

@[simp] theorem view_enterAwaitStamp (k : SlotId) (s : State) :
    view (enterAwaitStamp k s) = (view s).setSlot k (unheld .awaitStamp (s.slot k)) := by
  rw [enterAwaitStamp, view_raise, view_enterUnheld]

@[simp] theorem view_enterAwaitScrap (k : SlotId) (s : State) :
    view (enterAwaitScrap k s) = (view s).setSlot k (unheld .awaitScrap (s.slot k)) := by
  rw [enterAwaitScrap, view_raise, view_enterUnheld]

@[simp] theorem view_enterReferred (k : SlotId) (s : State) :
    view (enterReferred k s) = ((view s).setSlot k (unheld .referred (s.slot k))).refer k := by
  rw [enterReferred, view_reporting, ← view_enterUnheld]
  rfl

@[simp] theorem view_leaveReferral (k : SlotId) (s : State) : view (leaveReferral k s) = (view s).unrefer k := by
  rw [leaveReferral, view_reporting]
  rfl

@[simp] theorem slot_leaveReferral (k j : SlotId) (s : State) : (leaveReferral k s).slot j = s.slot j := by
  rw [leaveReferral, reporting_slot]
  rfl

/-- A slot of the view after a slot is written. -/
@[simp] theorem setSlot_slots_self (v : RollView) (k : SlotId) (x : Slot) : (v.setSlot k x).slots k = x := by
  simp [RollView.setSlot]

@[simp] theorem setSlot_slots_other {v : RollView} {k j : SlotId} {x : Slot} (h : j ≠ k) : (v.setSlot k x).slots j = v.slots j := by
  simp [RollView.setSlot, h]

@[simp] theorem setSlot_setSlot (v : RollView) (k : SlotId) (x y : Slot) : (v.setSlot k x).setSlot k y = v.setSlot k y := by
  simp [RollView.setSlot]

@[simp] theorem setSlot_slots_eq (v : RollView) (k : SlotId) : v.setSlot k (v.slots k) = v := by
  simp [RollView.setSlot]

/-! ### Records moved onto the pages -/

/-- A stretch from the head of the closing queue has given its records to the pages: its slots are FREE (R15, R163). -/
def Frees (v w : RollView) : Prop := ∃ moved rest, v.closing = moved ++ rest ∧ w = v.free moved rest

theorem Frees.refl (v : RollView) : Frees v v := ⟨[], v.closing, rfl, by simp [RollView.free]⟩

/-- One slot freed, and then more. -/
theorem Frees.cons {v w : RollView} {k : SlotId} {rest : List SlotId} (q : v.closing = k :: rest)
    (h : Frees (v.free [k] rest) w) : Frees v w := by
  obtain ⟨moved, rest', hq, rfl⟩ := h
  have hr : rest = moved ++ rest' := hq
  refine ⟨k :: moved, rest', by simp [q, hr], ?_⟩
  simp only [RollView.free, RollView.mk.injEq, and_self, and_true]
  funext j
  by_cases hj : j ∈ moved <;> by_cases hk : j = k <;> simp [hj, hk]

@[simp] theorem view_enterPage (p : PageId) (c : ClosingRecord) (s : State) : view (enterPage p c s) = view s := by
  cases p <;> rfl

@[simp] theorem view_finishChanges (p : PageId) (s : State) : view (finishChanges p s) = view s := by
  simp only [finishChanges]
  split_ifs <;> cases p <;> rfl

@[simp] theorem view_finishPageOp (p : PageId) (s : State) : view (finishPageOp p s) = view s := by
  rw [finishPageOp, view_raise, view_reporting, view_finishChanges]

@[simp] theorem view_freeSlot (k : SlotId) (rest : List SlotId) (s : State) :
    view (freeSlot k rest s) = (view s).free [k] rest := by
  rw [freeSlot, view_reporting]
  ext1 <;> try rfl
  funext j
  simp only [RollView.free, List.mem_singleton, view_slots, ← State.slot_setSlot]
  rfl

@[simp] theorem view_moveOne (p : PageId) (k : SlotId) (c : ClosingRecord) (rest : List SlotId) (s : State) :
    view (moveOne p k c rest s) = (view s).free [k] rest := by
  simp only [moveOne_eq]
  split <;> simp

theorem frees_moveUpTo (n : Nat) (s : State) : Frees (view s) (view (moveUpTo n s)) := by
  induction n generalizing s with
  | zero => exact .refl _
  | succ n ih =>
    unfold moveUpTo
    split
    · rename_i p k rest hp hq
      split
      · have step := ih (moveOne p k ‹_› rest s)
        rw [view_moveOne] at step
        exact .cons hq step
      · exact .refl _
    · exact .refl _

theorem frees_moveRecords (s : State) : Frees (view s) (view (moveRecords s)) := frees_moveUpTo _ s

/-! ### Closing -/

/-- The carrier of a slot that closes is unbound (R7). -/
def unbindOf (x : Slot) (s : State) : State :=
  match x.carrier with
  | some c => s.unbind c
  | none => s

/-- A REFERRED slot that closes leaves the referral queue (R21). -/
def leaveIfReferred (x : Slot) (k : SlotId) (s : State) : State := if x.state = .referred then leaveReferral k s else s

/-- Join the tail of the closing queue (R22). -/
def joinClosing (k : SlotId) (s : State) : State := { s with closingQueue := s.closingQueue ++ [k] }

/-- The unit as a closing leaves it before the pages take records: the record composed, the slot CLOSED, its carrier
unbound, the referral queue left, the closing queue joined (R14). -/
def setAside (k : SlotId) (o : ClosingOutcome) (s : State) : State :=
  let x := s.slot k
  joinClosing k (leaveIfReferred x k (unbindOf x (s.setSlot k (closed o (s.closingRecord x o) x))))

theorem closeSlot_eq (k : SlotId) (o : ClosingOutcome) (s : State) : closeSlot k o s = moveRecords (setAside k o s) := rfl

/-- The carrier index after a slot's carrier is unbound. -/
theorem index_unbindOf (x : Slot) (s : State) (i : Fin 255) :
    (view (unbindOf x s)).index i = if x.carrier = some (i.val + 1) then none else (view s).index i := by
  unfold unbindOf
  cases x.carrier with
  | none => simp
  | some c =>
    simp only [Option.some.injEq]
    exact index_unbind s c i

theorem view_unbindOf (x : Slot) (s : State) :
    view (unbindOf x s) =
      { view s with index := fun i => if x.carrier = some (i.val + 1) then none else (view s).index i } := by
  have keeps : view (unbindOf x s) = { view s with index := (view (unbindOf x s)).index } := by
    unfold unbindOf State.unbind
    split
    · split <;> rfl
    · rfl
  rw [keeps]
  simp only [RollView.mk.injEq, true_and, and_true]
  exact funext (index_unbindOf x s)

theorem view_leaveIfReferred (x : Slot) (k : SlotId) (s : State) :
    view (leaveIfReferred x k s) = if x.state = .referred then (view s).unrefer k else view s := by
  unfold leaveIfReferred
  split <;> simp

theorem view_joinClosing (k : SlotId) (s : State) :
    view (joinClosing k s) = { view s with closing := (view s).closing ++ [k] } := rfl

theorem view_setAside (k : SlotId) (o : ClosingOutcome) (s : State) :
    view (setAside k o s) = (view s).close k o (s.closingRecord (s.slot k) o) := by
  simp only [setAside, view_joinClosing, view_leaveIfReferred, view_unbindOf, view_setSlot]
  split <;> rename_i h <;> simp only [RollView.close, RollView.setSlot, RollView.unrefer, view_slots, h, if_true, if_false] <;> rfl

/-- A closing record is composed exactly for a slot with an identity (R155). -/
theorem closingRecord_isSome (s : State) (x : Slot) (o : ClosingOutcome) :
    (s.closingRecord x o).isSome = x.ident.isSome := by
  simp [State.closingRecord, State.cylinder]

/-- A closing, seen from the roll: the slot is set aside with a record, and records move. -/
theorem frees_closeSlot (k : SlotId) (o : ClosingOutcome) (s : State) :
    ∃ r : Option ClosingRecord, r.isSome = (s.slot k).ident.isSome ∧
      Frees ((view s).close k o r) (view (closeSlot k o s)) := by
  refine ⟨_, closingRecord_isSome s _ o, ?_⟩
  rw [← view_setAside, closeSlot_eq]
  exact frees_moveRecords _

/-! ### Routing by the outcome -/

/-- Where R12 sends an ordinary slot: stamping, scrapping, another attempt, or the referral queue with finding 206. -/
def RollView.routeOrdinary (v : RollView) (k : SlotId) : RollView :=
  let x := v.slots k
  match outcomeOf x with
  | some .pass => v.setSlot k (unheld .awaitStamp x)
  | some .condemn => v.setSlot k (unheld .awaitScrap x)
  | some .invalid =>
    if x.attempts < 2 + x.grants then v.setSlot k (unheld .awaitTest x)
    else (v.setSlot k (unheld .referred (x.post ⟨206, .refer, .unit, some x.attempts⟩))).refer k
  | some .proved => v.setSlot k (unheld .awaitTest x)
  | some .notProved => v.setSlot k (unheld .awaitTest x)
  | none => v.setSlot k (unheld .awaitTest x)

/-- The four ways of an ordinary slot: a PASS, a CONDEMN, an INVALID without an attempt left, and the rest. -/
theorem RollView.routeOrdinary_cases (v : RollView) (k : SlotId) :
    (outcomeOf (v.slots k) = some .pass ∧ v.routeOrdinary k = v.setSlot k (unheld .awaitStamp (v.slots k))) ∨
      (outcomeOf (v.slots k) = some .condemn ∧ v.routeOrdinary k = v.setSlot k (unheld .awaitScrap (v.slots k))) ∨
      (outcomeOf (v.slots k) = some .invalid ∧ 2 + (v.slots k).grants ≤ (v.slots k).attempts ∧
        v.routeOrdinary k =
          (v.setSlot k (unheld .referred ((v.slots k).post ⟨206, .refer, .unit, some (v.slots k).attempts⟩))).refer k) ∨
      (outcomeOf (v.slots k) ≠ some .pass ∧ outcomeOf (v.slots k) ≠ some .condemn ∧
        (outcomeOf (v.slots k) = some .invalid → (v.slots k).attempts < 2 + (v.slots k).grants) ∧
        v.routeOrdinary k = v.setSlot k (unheld .awaitTest (v.slots k))) := by
  unfold RollView.routeOrdinary
  cases e : outcomeOf (v.slots k) with
  | none => simp [e]
  | some o =>
    cases o with
    | pass => simp [e]
    | condemn => simp [e]
    | proved => simp [e]
    | notProved => simp [e]
    | invalid =>
      by_cases more : (v.slots k).attempts < 2 + (v.slots k).grants
      · simp [e, more]
      · simp [e, more, Nat.not_lt.mp more]

/-- The routing of a slot by its written outcome (R12): a proving slot closes, an ordinary one is routed. -/
inductive Routes (k : SlotId) (v : RollView) : RollView → Prop
  | proving {w : RollView} (r : Option ClosingRecord) (kind : (v.slots k).isProving = true) (made : r.isSome = true)
      (frees : Frees (v.close k .proving r) w) : Routes k v w
  | ordinary (kind : (v.slots k).isProving = false) : Routes k v (v.routeOrdinary k)

/-- A proving slot has an identity. -/
theorem ident_of_isProving {x : Slot} (h : x.isProving = true) : x.ident.isSome = true := by
  unfold Slot.isProving at h
  cases e : x.ident with
  | none => simp [e] at h
  | some i => rfl

theorem routes_applyOutcome (k : SlotId) (s : State) : Routes k (view s) (view (applyOutcome k s)) := by
  unfold applyOutcome
  by_cases hp : (s.slot k).isProving = true
  · rw [if_pos hp]
    obtain ⟨r, hr, hf⟩ := frees_closeSlot k .proving s
    exact .proving r hp (by rw [hr, ident_of_isProving hp]) hf
  · have ho : ((view s).slots k).isProving = false := by simpa using hp
    have routed := Routes.ordinary (v := view s) ho
    simp only [if_neg hp]
    convert routed using 1
    simp only [RollView.routeOrdinary, view_slots, outcomeOf]
    cases (s.slot k).test.bind TestRecord.outcome with
    | none => exact view_enterUnheld _ _ _
    | some o =>
      cases o with
      | invalid =>
        by_cases more : (s.slot k).attempts < 2 + (s.slot k).grants
        · simp only [more, if_true, view_enterUnheld]
        · simp [more]
      | pass => exact view_enterAwaitStamp _ _
      | condemn => exact view_enterAwaitScrap _ _
      | proved => exact view_enterUnheld _ _ _
      | notProved => exact view_enterUnheld _ _ _

/-! ### Claims given up -/

/-- A slot whose link's claim is given up: it returns to the state it was claimed from (R18). -/
def givenUp (x : Slot) : Slot := if (holderOf x.state).isSome then unheld x.state.returned x else x

theorem view_giveUpClaim (k : SlotId) (s : State) : view (giveUpClaim k s) = (view s).setSlot k (givenUp (s.slot k)) := by
  unfold giveUpClaim givenUp
  cases h : (s.slot k).state <;> simp [holderOf, SlotState.returned, unheld, ← view_slots]

/-- One claim of a link given up. -/
inductive GivesUp (v : RollView) : RollView → Prop
  | claim (k : SlotId) (l : LinkId) (held : (v.slots k).holder = some (.link l)) : GivesUp v (v.setSlot k (givenUp (v.slots k)))

/-- Claims of links given up, any number of them. -/
abbrev Drops : RollView → RollView → Prop := Relation.ReflTransGen GivesUp

theorem Drops.one {v w : RollView} (h : GivesUp v w) : Drops v w := .single h

theorem drops_dropIfHeld (l : LinkId) (s : State) (k : SlotId) : Drops (view s) (view (dropIfHeld l s k)) := by
  unfold dropIfHeld
  split
  · rename_i h
    rw [view_giveUpClaim]
    exact .one (.claim k l h)
  · exact .refl

/-- An operation that only gives up claims only gives up claims when folded over a list. -/
theorem drops_foldl {α : Type} {f : State → α → State} (h : ∀ s a, Drops (view s) (view (f s a))) (xs : List α) (s : State) :
    Drops (view s) (view (xs.foldl f s)) := by
  induction xs generalizing s with
  | nil => exact .refl
  | cons a xs ih => exact (h s a).trans (ih (f s a))

theorem drops_dropClaims (l : LinkId) (s : State) : Drops (view s) (view (dropClaims l s)) :=
  drops_foldl (drops_dropIfHeld l) allSlots s

theorem drops_loseLink (l : LinkId) (s : State) : Drops (view s) (view (loseLink l s)) := by
  rw [loseLink, view_raise]
  exact drops_dropClaims l (s.updLink l _)

theorem drops_loseSilentLinks (s : State) : Drops (view s) (view (loseSilentLinks s)) :=
  drops_foldl (fun s l => by unfold loseIfSilent; split; exacts [drops_loseLink l s, .refl]) timedLinks s

/-! ### Lapses, the clock and snapshots leave the roll as it was -/

/-- An operation that leaves the view as it was leaves it so when folded over a list. -/
theorem view_foldl {α : Type} {f : State → α → State} (h : ∀ s a, view (f s a) = view s) (xs : List α) (s : State) :
    view (xs.foldl f s) = view s :=
  foldl_keeps view f h xs s

@[simp] theorem view_lapse (h : HeadId) (s : State) : view (lapse h s) = view s := by
  rw [lapse_cases]
  split
  · rfl
  · rw [view_raise]
    exact view_setHead_same rfl

@[simp] theorem view_lapseExpired (s : State) : view (lapseExpired s) = view s :=
  view_foldl (fun s h => by unfold lapseIfExpired; split <;> simp) allHeads s

theorem drops_advanceClock (s : State) : Drops (view s) (view (advanceClock s)) := by
  unfold advanceClock
  split
  · rw [view_lapseExpired]
    have ticked (u : State) : view (tickTimers u) = view u := view_foldl (fun _ _ => rfl) timedLinks u
    have drops := drops_loseSilentLinks (tickTimers { s with clock := s.clock + 1 })
    rw [ticked] at drops
    exact drops
  · exact .refl

@[simp] theorem view_takeSnapshot (s : State) : view (takeSnapshot s) = view s :=
  view_congr rfl rfl rfl rfl rfl fun h => by cases h <;> rfl

end Sys2Proof.Roll

namespace Sys2Proof.Roll

open Sys2Proof.Machine Sys2Proof.Safety

/-! ### Findings posted one after the other -/

/-- Post findings in order. -/
def posts (fs : List Finding) (x : Slot) : Slot := fs.foldl Slot.post x

@[simp] theorem posts_nil (x : Slot) : posts [] x = x := rfl
@[simp] theorem posts_cons (f : Finding) (fs : List Finding) (x : Slot) : posts (f :: fs) x = posts fs (x.post f) := rfl

/-- What posting findings leaves of a slot: all but its worst severity, its findings and its overflow mark. -/
theorem posts_keeps (fs : List Finding) (x : Slot) :
    posts fs x =
      { x with worst := (posts fs x).worst, findings := (posts fs x).findings, overflow := (posts fs x).overflow } := by
  induction fs generalizing x with
  | nil => rfl
  | cons f fs ih =>
    rw [posts_cons, ih (x.post f)]
    generalize (posts fs (x.post f)).worst = w, (posts fs (x.post f)).findings = g, (posts fs (x.post f)).overflow = o
    unfold Slot.post
    split <;> rfl

@[simp] theorem posts_state (fs : List Finding) (x : Slot) : (posts fs x).state = x.state := by rw [posts_keeps]
@[simp] theorem posts_carrier (fs : List Finding) (x : Slot) : (posts fs x).carrier = x.carrier := by rw [posts_keeps]
@[simp] theorem posts_holder (fs : List Finding) (x : Slot) : (posts fs x).holder = x.holder := by rw [posts_keeps]
@[simp] theorem posts_ident (fs : List Finding) (x : Slot) : (posts fs x).ident = x.ident := by rw [posts_keeps]
@[simp] theorem posts_closing (fs : List Finding) (x : Slot) : (posts fs x).closing = x.closing := by rw [posts_keeps]
@[simp] theorem posts_test (fs : List Finding) (x : Slot) : (posts fs x).test = x.test := by rw [posts_keeps]
@[simp] theorem posts_attempts (fs : List Finding) (x : Slot) : (posts fs x).attempts = x.attempts := by rw [posts_keeps]
@[simp] theorem posts_grants (fs : List Finding) (x : Slot) : (posts fs x).grants = x.grants := by rw [posts_keeps]
@[simp] theorem posts_weight (fs : List Finding) (x : Slot) : (posts fs x).weight = x.weight := by rw [posts_keeps]

@[simp] theorem posts_isProving (fs : List Finding) (x : Slot) : (posts fs x).isProving = x.isProving := by
  simp [Slot.isProving]

/-- Findings do not read the test record. -/
theorem posts_withTest (fs : List Finding) (x : Slot) (t : Option TestRecord) :
    posts fs { x with test := t } = { posts fs x with test := t } := by
  induction fs generalizing x with
  | nil => rfl
  | cons f fs ih =>
    have one : ({ x with test := t } : Slot).post f = { x.post f with test := t } := by
      unfold Slot.post
      split <;> rfl
    rw [posts_cons, one, ih, posts_cons]

/-! ### What one command does to the roll -/

/-- A slot as a binding request writes it: a proving slot awaits its test, an ordinary one its inspection (R45, R48). -/
structure NewSlot (c : Fin 255) (i : Identity) (x : Slot) : Prop where
  state : x.state = if i.proving = true then .awaitTest else .admitted
  carrier : x.carrier = some (c.val + 1)
  ident : x.ident = some i
  holder : x.holder = none
  closing : x.closing = none
  worst : x.worst = .none
  test : x.test = none
  attempts : x.attempts = 0
  grants : x.grants = 0

/-- What an inspection writes into the slot that L1 holds: a finding, or the weight record with or without finding 200
(R52, R54). -/
inductive Noted (x : Slot) : Slot → Prop
  | finding (f : Finding) : Noted x (x.post f)
  | weight (w : Weight) (first : x.weight = none) : Noted x { x with weight := some w }
  | weightFinding (w : Weight) (f : Finding) (first : x.weight = none) : Noted x (({ x with weight := some w } : Slot).post f)

/-- The outcome and the findings of a test that ends agree: each finding is a CONDEMN, there is one exactly when the
outcome is CONDEMN, and a proving slot takes none (R13, R84, R112). -/
structure TestEnd (x : Slot) (o : TestOutcome) (fs : List Finding) : Prop where
  severity : ∀ f ∈ fs, f.severity = .condemn
  agree : fs = [] ↔ o ≠ .condemn
  proving : x.isProving = true → fs = []

/-- Who closes an open slot, short of a proving result: the stamp station, the scrap station, or a withdrawal of a slot
that nobody holds (R14). -/
inductive Closes (x : Slot) : ClosingOutcome → Prop
  | stamped (held : x.holder = some (.link .L3)) : Closes x .stamped
  | scrapped (held : x.holder = some (.link .L4)) : Closes x .scrapped
  | withdrawn (unheld : x.holder = none) (below : x.worst ≠ .condemn) (isOpen : x.state.isOpen = true) : Closes x .withdrawn

/-- Where R57 sends an inspected slot with its findings posted. -/
def RollView.inspected (v : RollView) (k : SlotId) (y : Slot) : RollView :=
  match y.worst with
  | .none => v.setSlot k (unheld .awaitTest y)
  | .note => v.setSlot k (unheld .awaitTest y)
  | .refer => (v.setSlot k (unheld .referred y)).refer k
  | .condemn => v.setSlot k (unheld .awaitScrap y)

/-- A test record cut short by a line reset (R93). -/
def cutRecord (proving : Bool) (r : Option Ripple) (t : TestRecord) : TestRecord :=
  { t with outcome := some (if proving then .notProved else .invalid), reasons := [.reset], ripple := r }

/-- A slot whose test a line reset cuts short. -/
def cutSlot (r : Option Ripple) (x : Slot) : Slot := { x with test := x.test.map (cutRecord x.isProving r) }

/-- What a line reset does to one slot, the heads still standing as they were (R24). -/
inductive Resets (k : SlotId) (v : RollView) : RollView → Prop
  | free (held : (v.slots k).holder = none) : Resets k v v
  | claim (l : LinkId) (held : (v.slots k).holder = some (.link l)) : Resets k v (v.setSlot k (givenUp (v.slots k)))
  | idle (h : HeadId) (held : (v.slots k).holder = some (.head h)) (phase : (v.heads h).phase = .idle) : Resets k v v
  | mounted (h : HeadId) (held : (v.slots k).holder = some (.head h)) (phase : (v.heads h).phase = .mounted) :
      Resets k v (v.setSlot k (unheld .awaitTest (v.slots k)))
  | done {w : RollView} (h : HeadId) (held : (v.slots k).holder = some (.head h)) (phase : (v.heads h).phase = .done)
      (routes : Routes k v w) : Resets k v w
  | cut {w : RollView} (h : HeadId) (held : (v.slots k).holder = some (.head h)) (phase : (v.heads h).phase.inFlight = true)
      (routes : Routes k (v.setSlot k (cutSlot (v.heads h).ripple (v.slots k))) w) : Resets k v w

/-- A line reset of slots one after the other. -/
inductive ResetsAll : List SlotId → RollView → RollView → Prop
  | nil (v : RollView) : ResetsAll [] v v
  | cons {k : SlotId} {ks : List SlotId} {v u w : RollView} (one : Resets k v u) (rest : ResetsAll ks u w) :
      ResetsAll (k :: ks) v w

/-- What one command other than a line reset can do to the roll, whatever the state: the conditions are those that the
unit checks. -/
inductive RollMove (v : RollView) : RollView → Prop
  | same : RollMove v v
  /-- Heads whose ripple alone changes. -/
  | rippled (q : HeadId → HeadView) (agree : ∀ h, (q h).mount = (v.heads h).mount ∧ (q h).phase = (v.heads h).phase) :
      RollMove v { v with heads := q }
  /-- LOAD_TYPE or DROP_TYPE of an entry that no open slot refers to (R28, R29, R31). -/
  | typed (i : TypeId) (e : TypeEntry)
      (unlocked : ∀ k d, (v.slots k).state.isOpen = true → (v.slots k).ident = some d → d.typeIdx ≠ i)
      (written : e.loaded = none ∨ ∃ f r, TypeSound f ∧ e = ⟨some ⟨f, r⟩, r⟩) : RollMove v (v.setType i e)
  /-- ADMIT or ADMIT_PROVING (R44, R45, R48). -/
  | admitted (c : Fin 255) (k : SlotId) (i : Identity) (x : Slot) (t : LoadedType) (vacant : (v.slots k).state = .free)
      (unbound : v.index c = none) (new : NewSlot c i x) (loaded : (v.types i.typeIdx).loaded = some t)
      (revision : t.rev = i.typeRev) (kind : t.fields.proving = i.proving)
      (serial : ∀ j d, (v.slots j).state.isOpen = true → (v.slots j).ident = some d → d.serial ≠ i.serial) :
      RollMove v ((v.setSlot k x).bind c k)
  /-- CLAIM, CLAIM_STAMP or CLAIM_SCRAP taken (R16). -/
  | claimed (k : SlotId) (l : LinkId) (st : SlotState) (stamp : Option Stamp) (vacant : (v.slots k).holder = none)
      (owner : holderOf st = some l) (state : (v.slots k).state = st.returned) :
      RollMove v (v.setSlot k { v.slots k with state := st, holder := some (.link l), stamp := stamp })
  /-- Claims given up: RELEASE, BREAK_CLAIM, a link stopped or lost (R18, R19). -/
  | dropped {w : RollView} (drops : Drops v w) : RollMove v w
  /-- FINDING or WEIGH by L1 (R52, R54). -/
  | noted (k : SlotId) (y : Slot) (held : (v.slots k).holder = some (.link .L1)) (change : Noted (v.slots k) y) :
      RollMove v (v.setSlot k y)
  /-- INSPECTED by L1, with finding 201 or without (R56, R57). -/
  | inspected (k : SlotId) (y : Slot) (held : (v.slots k).holder = some (.link .L1))
      (age : y = v.slots k ∨ ∃ f, y = (v.slots k).post f) : RollMove v (v.inspected k y)
  /-- MOUNT (R65). -/
  | mounted (h : HeadId) (k : SlotId) (c : Fin 255) (bound : v.index c = some k) (vacant : (v.slots k).holder = none)
      (state : (v.slots k).state = .awaitTest) (idle : (v.heads h).phase = .idle) :
      RollMove v ((v.setHead h ⟨some ⟨k, c.val + 1⟩, .mounted, (v.heads h).ripple⟩).setSlot k
        { v.slots k with state := .testing, holder := some (.head h) })
  /-- BEGIN (R68, R69). -/
  | begun (h : HeadId) (m : Mount) (r : TestRecord) (mount : (v.heads h).mount = some m) (phase : (v.heads h).phase = .mounted)
      (allowed : (v.slots m.slot).attempts < 2 + (v.slots m.slot).grants) (fresh : r.outcome = none) :
      RollMove v ((v.setHead h ⟨some m, .zeroing, none⟩).setSlot m.slot
        { v.slots m.slot with attempts := (v.slots m.slot).attempts + 1, test := some r })
  /-- A reading pair after which the test runs on (R63). -/
  | runs (h : HeadId) (m : Mount) (q : HeadView) (f : TestRecord → TestRecord) (mount : (v.heads h).mount = some m)
      (phase : (v.heads h).phase.inFlight = true) (stays : q.mount = some m) (flies : q.phase.inFlight = true)
      (outcome : ∀ r, (f r).outcome = r.outcome) :
      RollMove v ((v.setHead h q).setSlot m.slot { v.slots m.slot with test := (v.slots m.slot).test.map f })
  /-- The end of a test (R84). -/
  | ends (h : HeadId) (m : Mount) (r : Option Ripple) (o : TestOutcome) (fs : List Finding) (f : TestRecord → TestRecord)
      (mount : (v.heads h).mount = some m) (phase : (v.heads h).phase.inFlight = true) (outcome : ∀ r, (f r).outcome = some o)
      (sound : TestEnd (v.slots m.slot) o fs) :
      RollMove v ((v.setHead h ⟨some m, .done, r⟩).setSlot m.slot
        { posts fs (v.slots m.slot) with test := (v.slots m.slot).test.map f })
  /-- DISMOUNT from MOUNTED (R66). -/
  | dismounted (h : HeadId) (m : Mount) (mount : (v.heads h).mount = some m) (phase : (v.heads h).phase = .mounted) :
      RollMove v ((v.setHead h .idle).setSlot m.slot (unheld .awaitTest (v.slots m.slot)))
  /-- DISMOUNT from DONE (R12, R66). -/
  | routed {w : RollView} (h : HeadId) (m : Mount) (mount : (v.heads h).mount = some m) (phase : (v.heads h).phase = .done)
      (routes : Routes m.slot (v.setHead h .idle) w) : RollMove v w
  /-- RULE RETEST (R140). -/
  | retested (k : SlotId) (state : (v.slots k).state = .referred) (grants : (v.slots k).grants ≠ 253) :
      RollMove v ((v.unrefer k).setSlot k
        (unheld .awaitTest { v.slots k with grants := (v.slots k).grants + 1 }))
  /-- RULE CONDEMN (R141). -/
  | condemned (k : SlotId) (f : Finding) (state : (v.slots k).state = .referred) (severity : f.severity = .condemn) :
      RollMove v ((v.unrefer k).setSlot k (unheld .awaitScrap ((v.slots k).post f)))
  /-- STAMPED, SCRAPPED with its method, or a withdrawal (R14). -/
  | closed {w : RollView} (k : SlotId) (o : ClosingOutcome) (m : Option ScrapMethod) (r : Option ClosingRecord)
      (by_ : Closes (v.slots k) o) (made : r.isSome = (v.slots k).ident.isSome)
      (frees : Frees ((v.setSlot k { v.slots k with method := m }).close k o r) w) : RollMove v w
  /-- Records moved onto the pages (R163). -/
  | moved {w : RollView} (frees : Frees v w) : RollMove v w
  /-- Power lost or applied (R22, R23). -/
  | restarted : RollMove v ⟨fun _ => Slot.empty, fun _ => none, [], [], v.types, fun _ => .idle⟩

/-- What one command can do to the roll: one of the moves, or a line reset of every slot and then of every head (R24, R93). -/
inductive RollStep (v : RollView) : RollView → Prop
  | move {w : RollView} (move : RollMove v w) : RollStep v w
  | reset {u : RollView} (slots : ResetsAll allSlots v u) : RollStep v u.idleHeads

end Sys2Proof.Roll

namespace Sys2Proof.Roll

open Sys2Proof.Machine Sys2Proof.Safety

/-- A command that leaves the view as it was does nothing to the roll. -/
theorem rollMove_of_view_eq {s t : State} (h : view t = view s) : RollMove (view s) (view t) := by rw [h]; exact .same

/-! ### Heads on the view -/

@[simp] theorem setHead_slots (v : RollView) (h : HeadId) (q : HeadView) : (v.setHead h q).slots = v.slots := rfl
@[simp] theorem setHead_setHead (v : RollView) (h : HeadId) (p q : HeadView) : (v.setHead h p).setHead h q = v.setHead h q := by
  simp [RollView.setHead]
theorem setSlot_setHead (v : RollView) (k : SlotId) (x : Slot) (h : HeadId) (q : HeadView) :
    (v.setSlot k x).setHead h q = (v.setHead h q).setSlot k x := rfl

/-- The head that a pair's action leaves. -/
def PairAction.head : PairAction → Head
  | .goesOn x => x
  | .zeroed x _ => x
  | .tailEnds x _ => x
  | .settles x _ => x
  | .ends x _ => x

/-- A pair's action leaves the head with its mount, in a phase of a test in flight. -/
structure Flies (x : Head) (a : PairAction) : Prop where
  mount : (PairAction.head a).mount = x.mount
  phase : (PairAction.head a).phase.inFlight = true

/-- The phases that a pair can lead to are those of a test in flight (R63). -/
theorem inFlight_after_zeroing : Phase.ramp.inFlight = true ∧ Phase.hold.inFlight = true ∧ Phase.tail.inFlight = true ∧
    Phase.release.inFlight = true ∧ Phase.settle.inFlight = true := by decide

@[simp] theorem watchHold_phase (x : Head) (ps : Pressures) (p : Nat) : (x.watchHold ps p).phase = x.phase := rfl

section Works
variable {x : Head} (fly : x.phase.inFlight = true)
include fly

theorem flies_zeroingWork (ty : TypeFields) (j : Nat) : Flies x (zeroingWork x ty j) := by
  simp only [zeroingWork]
  split_ifs <;> exact ⟨rfl, by simp [PairAction.head, inFlight_after_zeroing, fly]⟩

theorem flies_rampWork (ty : TypeFields) (ps : Pressures) (p : Nat) : Flies x (rampWork x ty ps p) := by
  simp only [rampWork]
  split_ifs <;> exact ⟨rfl, by simp [PairAction.head, inFlight_after_zeroing, fly]⟩

theorem flies_holdWork (ty : TypeFields) (ps : Pressures) (p j : Nat) : Flies x (holdWork x ty ps p j) := by
  simp only [holdWork, tailEndWork]
  split_ifs <;> exact ⟨rfl, by simp [PairAction.head, inFlight_after_zeroing, fly]⟩

theorem flies_tailWork (ty : TypeFields) (ps : Pressures) (p j : Nat) : Flies x (tailWork x ty ps p j) := by
  simp only [tailWork, tailEndWork]
  split_ifs <;> exact ⟨rfl, by simp [PairAction.head, inFlight_after_zeroing, fly]⟩

theorem flies_releaseWork (ps : Pressures) (p : Nat) : Flies x (releaseWork x ps p) := by
  simp only [releaseWork]
  split_ifs <;> exact ⟨rfl, by simp [PairAction.head, inFlight_after_zeroing, fly]⟩

theorem flies_settleWork (ty : TypeFields) (ps : Pressures) (p j : Nat) : Flies x (settleWork x ty ps p j) := by
  simp only [settleWork]
  split_ifs <;> exact ⟨rfl, fly⟩

theorem flies_watched (ps : Pressures) (p j : Option Nat) {work : Nat → Nat → PairAction} (w : ∀ a b, Flies x (work a b)) :
    Flies x (watched x ps p j work) := by
  unfold watched
  split
  · split_ifs
    exacts [⟨rfl, fly⟩, w _ _]
  · split_ifs <;> exact ⟨rfl, fly⟩
  · exact ⟨rfl, fly⟩

theorem flies_zeroingChecked (ps : Pressures) (p j : Option Nat) {work : Nat → PairAction} (w : ∀ a, Flies x (work a)) :
    Flies x (zeroingChecked x ps p j work) := by
  unfold zeroingChecked
  split
  · split_ifs
    exacts [⟨rfl, fly⟩, w _]
  · exact ⟨rfl, fly⟩
  · exact ⟨rfl, fly⟩

theorem flies_pairAction (ty : TypeFields) (p j : Reading) : Flies x (pairAction x ty p j) := by
  unfold pairAction
  split
  case h_4 => exact flies_zeroingChecked fly _ _ _ fun _ => flies_zeroingWork fly _ _
  case h_5 => exact flies_watched fly _ _ _ fun _ _ => flies_rampWork fly _ _ _
  case h_6 => exact flies_watched fly _ _ _ fun _ _ => flies_holdWork fly _ _ _ _
  case h_7 => exact flies_watched fly _ _ _ fun _ _ => flies_tailWork fly _ _ _ _
  case h_8 => exact flies_watched fly _ _ _ fun _ _ => flies_releaseWork fly _ _
  case h_9 => exact flies_watched fly _ _ _ fun _ _ => flies_settleWork fly _ _ _ _
  all_goals exact ⟨rfl, fly⟩

end Works

/-! ### The end of a test -/

@[simp] theorem view_setProving (h : HeadId) (o : TestOutcome) (s : State) : view (setProving h o s) = view s := by
  cases o with
  | proved => exact view_setHead_same rfl
  | notProved => exact view_lapse h s
  | pass => rfl
  | condemn => rfl
  | invalid => rfl

/-- Entry into DONE: the head stands in DONE, the outcome in the record. -/
theorem view_enterDone (h : HeadId) (k : SlotId) (o : TestOutcome) (rs : List Reason) (s : State) :
    view (enterDone h k o rs s) =
      ((view s).setHead h ⟨(s.head h).mount, .done, (s.head h).ripple⟩).setSlot k
        { s.slot k with
          test := (s.slot k).test.map fun t => { t with outcome := some o, reasons := rs, ripple := (s.head h).ripple } } := by
  rw [enterDone, view_raise, view_setProving, State.updHead_eq, view_setHead, writeOutcome, updTest_eq, view_setSlot,
    setSlot_setHead]
  rfl

theorem view_foldl_post (k : SlotId) (fs : List Finding) (s : State) :
    view (fs.foldl (fun s f => post k f s) s) = (view s).setSlot k (posts fs (s.slot k)) := by
  induction fs generalizing s with
  | nil => simp [← view_slots]
  | cons f fs ih => rw [List.foldl_cons, ih, post_eq, view_setSlot, setSlot_setSlot, State.slot_setSlot_self, posts_cons]

theorem slot_foldl_post (k : SlotId) (fs : List Finding) (s : State) :
    (fs.foldl (fun s f => post k f s) s).slot k = posts fs (s.slot k) := by
  rw [← view_slots, view_foldl_post, setSlot_slots_self]

theorem head_foldl_post (k : SlotId) (fs : List Finding) (s : State) (h : HeadId) :
    (fs.foldl (fun s f => post k f s) s).head h = s.head h :=
  foldl_keeps (fun s => s.head h) (fun s f => post k f s) (fun _ _ => rfl) fs s

/-- The evaluation's outcome and findings agree. -/
theorem testEnd_verdictOn (x : Slot) (ty : TypeFields) (t p : Int) :
    TestEnd x (verdictOn x ty t p).outcome (verdictOn x ty t p).findings := by
  unfold verdictOn
  by_cases hp : x.isProving = true
  · rw [if_pos hp]
    refine ⟨by simp [provingVerdict], ?_, fun _ => rfl⟩
    simp only [provingVerdict, true_iff]
    split_ifs <;> simp
  · rw [if_neg hp]
    refine ⟨?_, ?_, fun h => absurd h hp⟩
    all_goals
      simp only [ordinaryVerdict]
      split
      · simp
      · cases permanentFails ty.lp t.toNat (clampP t p) <;>
          cases elasticFails x.ree ty.ree (t.toNat - clampP t p) <;> simp

/-- The finding of a cause that ends a test, as far as the slot takes it. -/
def causeFindings (x : Slot) (c : EndCause) : List Finding := if x.isProving then [] else c.finding.toList

theorem testEnd_cause (x : Slot) (c : EndCause) : TestEnd x (c.outcome x.isProving) (causeFindings x c) := by
  cases hp : x.isProving <;> cases c <;>
    exact ⟨by simp [causeFindings, hp, EndCause.finding], by simp [causeFindings, hp, EndCause.finding, EndCause.outcome],
      by simp [causeFindings, hp]⟩

theorem postOrdinary_eq (k : SlotId) (c : EndCause) (s : State) :
    postOrdinary k c.finding s = s.setSlot k (posts (causeFindings (s.slot k) c) (s.slot k)) := by
  cases hp : (s.slot k).isProving <;> cases c <;> simp [postOrdinary, causeFindings, EndCause.finding, hp]

/-- A test ended by a cause short of a verdict, at a head in flight that holds the slot. -/
theorem rollMove_endByCause {v : RollView} {h : HeadId} {m : Mount} {s : State} (c : EndCause)
    (mount : (v.heads h).mount = some m) (phase : (v.heads h).phase.inFlight = true) (stays : (s.head h).mount = some m)
    (same : view s = v.setHead h (viewHead (s.head h))) : RollMove v (view (endByCause h m.slot c s)) := by
  have slots : s.slot = v.slots := by rw [← setHead_slots v h, ← same]; rfl
  convert RollMove.ends (v := v) h m (s.head h).ripple (c.outcome (s.slot m.slot).isProving) (causeFindings (s.slot m.slot) c)
    (fun t => { t with outcome := some (c.outcome (s.slot m.slot).isProving), reasons := [c.reason], ripple := (s.head h).ripple })
    mount phase (fun _ => rfl) (slots ▸ testEnd_cause _ c) using 1
  have ripple : (Head.countLoss c.reason (s.head h)).ripple = (s.head h).ripple := by unfold Head.countLoss; split <;> rfl
  have loss : viewHead (Head.countLoss c.reason (s.head h)) = viewHead (s.head h) := by unfold Head.countLoss; split <;> rfl
  have mount' : (Head.countLoss c.reason (s.head h)).mount = some m := by rw [← stays]; unfold Head.countLoss; split <;> rfl
  rw [endByCause, view_enterDone, postOrdinary_eq]
  simp [ripple, mount', view_setHead, loss, same, slots, setSlot_setHead]

/-- A test ended by its verdict, at a head in flight that holds the slot. -/
theorem rollMove_evaluate {v : RollView} {h : HeadId} {m : Mount} {s : State} (ty : TypeFields) (p : Int)
    (mount : (v.heads h).mount = some m) (phase : (v.heads h).phase.inFlight = true) (stays : (s.head h).mount = some m)
    (same : view s = v.setHead h (viewHead (s.head h))) : RollMove v (view (evaluate h m.slot ty p s)) := by
  have slots : s.slot = v.slots := by rw [← setHead_slots v h, ← same]; rfl
  let w := verdictOn (v.slots m.slot) ty ((s.head h).t.getD 0) p
  convert RollMove.ends (v := v) h m (s.head h).ripple w.outcome w.findings
    (fun t => { t with
      p := some p, q := w.q, e := w.e, star := w.star, outcome := some w.outcome, reasons := w.reasons, ripple := (s.head h).ripple })
    mount phase (fun _ => rfl) (testEnd_verdictOn _ ty _ p) using 1
  simp only [evaluate, view_enterDone, view_foldl_post, slot_foldl_post, head_foldl_post, updTest_eq, view_setSlot,
    State.slot_setSlot_self, posts_withTest, setSlot_setHead, setSlot_setSlot, State.head_setSlot, same, setHead_setHead, stays,
    slots, Option.map_map]
  rfl

/-! ### One pair -/

theorem rollMove_carryOut {s : State} {h : HeadId} {m : Mount} {a : PairAction} (ty : TypeFields)
    (mount : (s.head h).mount = some m) (phase : (s.head h).phase.inFlight = true) (fly : Flies (s.head h) a) :
    RollMove (view s) (view (carryOut h m.slot ty a s)) := by
  obtain ⟨stays, flies⟩ := fly
  rw [mount] at stays
  cases a with
  | goesOn x =>
    convert RollMove.runs (v := view s) h m (viewHead x) id mount phase stays flies fun _ => rfl using 1
    simp only [carryOut, view_setHead, Option.map_id, id]
    exact (setSlot_slots_eq ((view s).setHead h (viewHead x)) m.slot).symm
  | zeroed x z =>
    convert RollMove.runs (v := view s) h m (viewHead x) (fun t => { t with z := some z }) mount phase stays flies fun _ => rfl using 1
    simp [carryOut, view_setHead]
  | tailEnds x t =>
    convert RollMove.runs (v := view s) h m (viewHead x) (fun r => { r with t := some t }) mount phase stays flies fun _ => rfl using 1
    simp [carryOut, view_setHead]
  | settles x p =>
    exact rollMove_evaluate ty p mount phase (by rwa [State.head_setHead_self]) (by simp [view_setHead])
  | ends x c =>
    exact rollMove_endByCause c mount phase (by rwa [State.head_setHead_self]) (by simp [view_setHead])

theorem rollMove_takePair (h : HeadId) (p j : Reading) (s : State) : RollMove (view s) (view (takePair h p j s)) := by
  unfold takePair State.testAt
  by_cases fly : ((s.head h).see p j).phase.inFlight = true
  · rw [if_pos fly]
    cases hm : ((s.head h).see p j).mount with
    | none => rw [Option.bind_none]; exact rollMove_of_view_eq (view_setHead_same rfl)
    | some m =>
      rw [Option.bind_some]
      cases s.typeOfSlot (s.slot m.slot) with
      | none => exact rollMove_of_view_eq (view_setHead_same rfl)
      | some ty =>
        have flies := flies_pairAction fly ty p j
        exact rollMove_carryOut ty hm fly ⟨flies.mount, flies.phase⟩
  · rw [if_neg fly]
    exact rollMove_of_view_eq (view_setHead_same rfl)

theorem rollMove_takePairAs (h : HeadId) (p j : Reading) (is : PairAction → Bool) (s : State) :
    RollMove (view s) (view (takePairAs h p j is s)) := by
  unfold takePairAs
  split
  · exact rollMove_takePair h p j s
  · exact .same

/-! ### A line reset -/

theorem view_cutShort (h : HeadId) (k : SlotId) (s : State) :
    view (cutShort h k s) = (view s).setSlot k (cutSlot (s.head h).ripple (s.slot k)) := by
  refine Eq.trans (view_setHead_same rfl) ?_
  rw [writeOutcome, updTest_eq, view_setSlot]
  rfl

theorem resetSlot_free {s : State} {k : SlotId} (held : (s.slot k).holder = none) : resetSlot s k = s := by
  simp [resetSlot, held]

theorem resetSlot_claim {s : State} {k : SlotId} {l : LinkId} (held : (s.slot k).holder = some (.link l)) :
    resetSlot s k = giveUpClaim k s := by
  simp [resetSlot, held]

theorem resetSlot_idle {s : State} {k : SlotId} {h : HeadId} (held : (s.slot k).holder = some (.head h))
    (phase : (s.head h).phase = .idle) : resetSlot s k = s := by
  simp [resetSlot, held, phase]

theorem resetSlot_mounted {s : State} {k : SlotId} {h : HeadId} (held : (s.slot k).holder = some (.head h))
    (phase : (s.head h).phase = .mounted) : resetSlot s k = enterUnheld k .awaitTest s := by
  simp [resetSlot, held, phase]

theorem resetSlot_done {s : State} {k : SlotId} {h : HeadId} (held : (s.slot k).holder = some (.head h))
    (phase : (s.head h).phase = .done) : resetSlot s k = applyOutcome k s := by
  simp [resetSlot, held, phase]

theorem resetSlot_cut {s : State} {k : SlotId} {h : HeadId} (held : (s.slot k).holder = some (.head h))
    (fly : (s.head h).phase.inFlight = true) : resetSlot s k = applyOutcome k (cutShort h k s) := by
  cases phase : (s.head h).phase <;> simp_all [resetSlot, Phase.inFlight]

/-- A phase is IDLE, MOUNTED, DONE or that of a test in flight. -/
theorem phase_cases (p : Phase) : p = .idle ∨ p = .mounted ∨ p = .done ∨ p.inFlight = true := by
  cases p <;> simp [Phase.inFlight]

theorem resets_resetSlot (s : State) (k : SlotId) : Resets k (view s) (view (resetSlot s k)) := by
  cases held : (s.slot k).holder with
  | none => rw [resetSlot_free held]; exact .free held
  | some w =>
    cases w with
    | link l => rw [resetSlot_claim held, view_giveUpClaim]; exact .claim l held
    | head h =>
      obtain phase | phase | phase | fly := phase_cases (s.head h).phase
      · rw [resetSlot_idle held phase]; exact .idle h held phase
      · rw [resetSlot_mounted held phase, view_enterUnheld]; exact .mounted h held phase
      · rw [resetSlot_done held phase]; exact .done h held phase (routes_applyOutcome k s)
      · rw [resetSlot_cut held fly]
        refine .cut h held fly ?_
        have routes := routes_applyOutcome k (cutShort h k s)
        rwa [view_cutShort] at routes

theorem resetsAll_foldl (ks : List SlotId) (s : State) : ResetsAll ks (view s) (view (ks.foldl resetSlot s)) := by
  induction ks generalizing s with
  | nil => exact .nil _
  | cons k ks ih => exact .cons (resets_resetSlot s k) (ih (resetSlot s k))

/-- The heads after a line reset, seen from the roll. -/
theorem view_foldl_resetHead (s : State) : view (allHeads.foldl resetHead s) = (view s).idleHeads := by
  have one (u : State) (h : HeadId) : view (resetHead u h) = (view u).setHead h .idle := by
    rw [resetHead, view_lapse, State.updHead_eq, view_setHead]
    rfl
  simp only [allHeads, List.foldl_cons, List.foldl_nil, one]
  simp only [RollView.setHead, RollView.idleHeads, RollView.mk.injEq, true_and]
  funext h
  cases h <;> rfl

/-- The unit at a line reset, its links reset and its slots still to come. -/
def linksReset (s : State) : State :=
  { s with
    links := ⟨s.links.l0.lineReset, s.links.l1.lineReset, s.links.l2.lineReset, s.links.l3.lineReset,
      s.links.l4.lineReset, s.links.l5.lineReset⟩ }

theorem lineReset_eq (s : State) : lineReset s = allHeads.foldl resetHead (allSlots.foldl resetSlot (linksReset s)) := rfl

/-- A line reset, seen from the roll: every slot reset in turn, then every head IDLE. -/
theorem resetsAll_lineReset (s : State) :
    ∃ u, ResetsAll allSlots (view s) u ∧ view (lineReset s) = u.idleHeads :=
  ⟨_, resetsAll_foldl allSlots (linksReset s), by rw [lineReset_eq, view_foldl_resetHead]⟩

theorem rollStep_lineReset (s : State) : RollStep (view s) (view (lineReset s)) := by
  obtain ⟨u, slots, heads⟩ := resetsAll_lineReset s
  rw [heads]
  exact .reset slots

end Sys2Proof.Roll

namespace Sys2Proof.Roll

open Sys2Proof.Machine Sys2Proof.Safety

/-! ### Frames and events -/

/-- A frame does to the roll what a good frame does to it, if it is taken, and else nothing. -/
theorem rollMove_onFrame {l : LinkId} {good : State → State} {s : State} (step : RollMove (view s) (view (good s))) :
    RollMove (view s) (view (onFrame l good s)) := by
  unfold onFrame
  split_ifs
  · exact step
  · exact .same
  · exact .same

/-- A request does to the roll what its block does with its fields, on a link that admits it, and else nothing. -/
theorem rollMove_request {α : Type} {l : LinkId} {r : Request} {b : Body α} {take : α → State → State × Reply} {s t : State}
    (e : request l r b take s = .next t)
    (step : ∀ a u, admits l r = true → RollMove (view u) (view (take a u).1)) : RollMove (view s) (view t) := by
  obtain rfl : onFrame l (takeGood l r.code (checked l r b take)) s = t := by simpa [request] using e
  refine rollMove_onFrame ?_
  rw [takeGood, view_updLink, ← view_updLink s l Link.goodFrame]
  unfold checked
  split_ifs with adm
  · cases b with
    | fields a => exact step a _ adm
    | wrongLength => exact .same
  · exact .same

/-- An event of the unit is its work, or nothing. -/
theorem event_next {f : State → State} {s t : State} (e : event f s = .next t) : t = f s ∨ t = s := by
  obtain rfl : (if s.powered then f s else s) = t := by simpa [event] using e
  split_ifs
  exacts [.inl rfl, .inr rfl]

/-- An event does to the roll what its work does, with power, and else nothing. -/
theorem rollMove_event {f : State → State} {s t : State} (e : event f s = .next t)
    (step : RollMove (view s) (view (f s))) : RollMove (view s) (view t) := by
  obtain rfl | rfl := event_next e
  · exact step
  · exact .same

theorem rollMove_onCarrier {c : Nat} {s : State} {take : SlotId → State × Reply}
    (step : ∀ k, s.bound c = some k → RollMove (view s) (view (take k).1)) : RollMove (view s) (view (onCarrier c s take).1) := by
  unfold onCarrier
  split
  · exact step _ ‹_›
  · exact .same

theorem rollMove_asHolder {l : LinkId} {c : Nat} {s : State} {take : SlotId → State × Reply}
    (step : ∀ k, (s.slot k).holder = some (.link l) → RollMove (view s) (view (take k).1)) :
    RollMove (view s) (view (asHolder l c s take).1) :=
  rollMove_onCarrier fun k _ => by
    split_ifs with held
    · exact step k held
    · exact .same

theorem rollMove_onHead {n : Nat} {s : State} {take : HeadId → State × Reply}
    (step : ∀ h, RollMove (view s) (view (take h).1)) : RollMove (view s) (view (onHead n s take).1) := by
  unfold onHead
  split
  · exact step _
  · exact .same

theorem rollMove_claimCheck {l : LinkId} {needed : SlotState} {c : Nat} {s : State} {items : State → SlotId → List Byte}
    {take : SlotId → State × Reply}
    (step : ∀ k, (s.slot k).holder = none → (s.slot k).state = needed → RollMove (view s) (view (take k).1)) :
    RollMove (view s) (view (claimCheck l needed c s items take).1) :=
  rollMove_onCarrier fun k _ => by
    split
    · split_ifs <;> exact .same
    · split_ifs with state
      · exact step k ‹_› state
      · exact .same

/-! ### The requests of the supervisor, and the links -/

theorem rollMove_takeNextReferral (a : Unit) (s : State) : RollMove (view s) (view (takeNextReferral a s).1) := by
  unfold takeNextReferral
  split <;> exact .same

/-- A closing by somebody who may close the slot. -/
theorem rollMove_closeSlot {k : SlotId} {o : ClosingOutcome} {s : State} (by_ : Closes (s.slot k) o) (m : Option ScrapMethod) :
    RollMove (view s) (view (closeSlot k o (s.setSlot k { s.slot k with method := m }))) := by
  obtain ⟨r, made, frees⟩ := frees_closeSlot k o (s.setSlot k { s.slot k with method := m })
  rw [State.slot_setSlot_self] at made
  rw [view_setSlot] at frees
  exact .closed k o m r by_ made frees

/-- A closing that writes no method. -/
theorem rollMove_closeSlot_plain {k : SlotId} {o : ClosingOutcome} {s : State} (by_ : Closes (s.slot k) o) :
    RollMove (view s) (view (closeSlot k o s)) := by
  have step := rollMove_closeSlot by_ (s.slot k).method
  rwa [State.setSlot_slot] at step

/-- A withdrawal that its check lets pass is of a slot that nobody holds, below CONDEMN (R13). -/
theorem closes_withdrawn {x : Slot} (check : withdrawalCheck x = none) (isOpen : x.state.isOpen = true) :
    Closes x .withdrawn := by
  unfold withdrawalCheck at check
  split_ifs at check with held worst
  exact .withdrawn (by simpa using held) worst isOpen

theorem rollMove_carryOutRuling {k : SlotId} {s : State} (r : Ruling) (state : (s.slot k).state = .referred) :
    RollMove (view s) (view (carryOutRuling k r s).1) := by
  cases r with
  | retest =>
    simp only [carryOutRuling]
    split_ifs with limit
    · exact .same
    · convert RollMove.retested (v := view s) k state limit using 1
      simp [unheld]
  | condemn =>
    convert RollMove.condemned (v := view s) k ⟨205, .condemn, .supervisor, none⟩ state rfl using 1
    simp [carryOutRuling]
  | withdraw =>
    simp only [carryOutRuling]
    split
    · exact .same
    · exact rollMove_closeSlot_plain (closes_withdrawn ‹_› (by rw [state]; rfl))

theorem rollMove_takeRule (a : RuleArgs) (s : State) : RollMove (view s) (view (takeRule a s).1) := by
  unfold takeRule
  split
  · split_ifs with state
    · exact rollMove_carryOutRuling _ state
    · exact .same
  · exact .same
  · exact .same

/-- The states that allow a withdrawal are open. -/
theorem isOpen_of_withdrawable {x : SlotState} (h : x.withdrawable = true) : x.isOpen = true := by
  cases x <;> simp_all [SlotState.withdrawable, SlotState.isOpen]

theorem rollMove_takeWithdraw (c : Nat) (s : State) : RollMove (view s) (view (takeWithdraw c s).1) :=
  rollMove_onCarrier fun k _ => by
    split
    · exact .same
    · split_ifs with allows
      · exact rollMove_closeSlot_plain (closes_withdrawn ‹_› (isOpen_of_withdrawable allows))
      · exact .same

/-- A link's claim on one slot given up. -/
theorem rollMove_giveUpClaim {k : SlotId} {l : LinkId} {s : State} (held : (s.slot k).holder = some (.link l)) :
    RollMove (view s) (view (giveUpClaim k s)) := by
  rw [view_giveUpClaim]
  exact .dropped (.one (.claim k l held))

theorem rollMove_takeBreakClaim (c : Nat) (s : State) : RollMove (view s) (view (takeBreakClaim c s).1) :=
  rollMove_onCarrier fun k _ => by
    split
    · exact .same
    · exact .same
    · exact rollMove_giveUpClaim ‹_›

theorem rollMove_takeStopLink (n : Nat) (s : State) : RollMove (view s) (view (takeStopLink n s).1) := by
  unfold takeStopLink
  split
  · exact .same
  · rename_i m _
    split_ifs
    · exact .same
    · exact .same
    · rw [view_updLink]
      exact .dropped (drops_dropClaims m s)

theorem rollMove_takeStartLink (n : Nat) (s : State) : RollMove (view s) (view (takeStartLink n s).1) := by
  unfold takeStartLink
  split <;> exact .same

theorem rollMove_takeForceNotice (a : ForceNoticeArgs) (s : State) : RollMove (view s) (view (takeForceNotice a s).1) := by
  unfold takeForceNotice
  split
  · exact .same
  · split_ifs
    · exact .same
    · exact rollMove_of_view_eq (view_raiseTo _ _ s)

theorem rollMove_takeNoticeSetup (l : LinkId) (a : NoticeSetupArgs) (s : State) :
    RollMove (view s) (view (takeNoticeSetup l a s).1) := by
  unfold takeNoticeSetup
  split_ifs <;> exact .same

theorem rollMove_takeLookup (a : LookupArgs) (s : State) : RollMove (view s) (view (takeLookup a s).1) := by
  unfold takeLookup
  split
  · exact .same
  · split_ifs
    · exact .same
    · exact rollMove_onCarrier fun _ _ => .same
  · split <;> exact .same

/-! ### Admission and inspection -/

/-- A carrier of the index is bound to the slot that its entry names. -/
theorem bound_place (s : State) (c : Fin 255) : s.bound (c.val + 1) = (view s).index c := by
  simp only [State.bound, (carrierPlace_eq_some (c.val + 1) c).mpr rfl, Option.bind_some]
  rfl

/-- A carrier that is bound has its place in the index. -/
theorem bound_some {s : State} {c : Nat} {k : SlotId} (h : s.bound c = some k) :
    ∃ i : Fin 255, c = i.val + 1 ∧ (view s).index i = some k := by
  obtain ⟨i, hi, hk⟩ := Option.bind_eq_some_iff.mp h
  exact ⟨i, (carrierPlace_eq_some c i).mp hi, hk⟩

theorem view_bindSlot (c : Fin 255) (k : SlotId) (x : Slot) (s : State) :
    view (bindSlot c k x s) = ((view s).setSlot k x).bind c k := by
  rw [bindSlot, view_reporting, view_bind, view_setSlot]

theorem rollMove_admitChecked {p : BindingParams} {proving : Bool} {make : Identity → Slot} {s : State}
    (new : ∀ i : Identity, i.proving = proving → NewSlot p.carrier i (make i)) :
    RollMove (view s) (view (admitChecked p proving make s).1) := by
  unfold admitChecked
  split
  · exact .same
  · rename_i t loaded
    split_ifs with kind bound open_
    · exact .same
    · exact .same
    · exact .same
    · split
      · exact .same
      · rename_i k vacant
        rw [view_bindSlot]
        refine .admitted p.carrier k ⟨p.serial, p.typeIdx, t.rev, proving⟩ _ t (lowestFree_free vacant) ?_ (new _ rfl) loaded rfl
          (not_not.mp kind) ?_
        · simpa [bound_place] using bound
        · intro j d isOpen hd same
          exact open_ ((serialOpen_iff s _).mpr ⟨j, isOpen, by rw [show (s.slot j).ident = some d from hd, Option.map_some, same]⟩)

theorem rollMove_takeAdmitOrdinary (a : AdmitArgs) (s : State) : RollMove (view s) (view (takeAdmitOrdinary a s).1) := by
  unfold takeAdmitOrdinary
  split
  · exact .same
  · split
    · exact rollMove_admitChecked fun i ordinary => ⟨by simp [Slot.bindNew, ordinary], rfl, rfl, rfl, rfl, rfl, rfl, rfl, rfl⟩
    · exact .same
    · exact .same

theorem rollMove_takeAdmitProving (a : AdmitProvingArgs) (s : State) : RollMove (view s) (view (takeAdmitProving a s).1) := by
  unfold takeAdmitProving
  split
  · exact .same
  · split
    · exact rollMove_admitChecked fun i proving => ⟨by simp [Slot.bindNew, proving], rfl, rfl, rfl, rfl, rfl, rfl, rfl, rfl⟩
    · exact .same

theorem rollMove_takeClaim {l : LinkId} (c : Nat) (s : State) (adm : admits l .claim = true) :
    RollMove (view s) (view (takeClaim l c s).1) := by
  obtain rfl : l = .L1 := by simpa [admits] using adm
  refine rollMove_claimCheck fun k vacant state => ?_
  rw [enterHeld_eq, view_setSlot]
  exact .claimed (v := view s) k .L1 .inspecting (s.slot k).stamp vacant rfl state

theorem rollMove_takeFinding {l : LinkId} (a : FindingArgs) (s : State) (adm : admits l .finding = true) :
    RollMove (view s) (view (takeFinding l a s).1) := by
  obtain rfl : l = .L1 := by simpa [admits] using adm
  refine rollMove_asHolder fun k held => ?_
  split
  · rw [post_eq, view_setSlot]
    exact .noted (v := view s) k _ held (.finding _)
  · exact .same

/-- A weighing notes its weight record, with finding 200 or without. -/
theorem noted_weighed {x : Slot} (lw wm : Nat) (first : x.weight = none) : Noted x (x.weighed lw wm) := by
  simp only [Slot.weighed]
  split_ifs
  · exact .weightFinding _ _ first
  · exact .weight _ first

theorem rollMove_takeWeigh {l : LinkId} (a : WeighArgs) (s : State) (adm : admits l .weigh = true) :
    RollMove (view s) (view (takeWeigh l a s).1) := by
  obtain rfl : l = .L1 := by simpa [admits] using adm
  refine rollMove_asHolder fun k held => ?_
  dsimp only
  split_ifs with range weighed
  · exact .same
  · exact .same
  · rw [view_setSlot]
    exact .noted (v := view s) k _ held (noted_weighed _ _ (by simpa using weighed))

/-- The routing of an inspected slot, seen from the roll. -/
theorem view_routeInspected (k : SlotId) (s : State) : view (routeInspected k s) = (view s).inspected k (s.slot k) := by
  unfold routeInspected RollView.inspected
  cases (s.slot k).worst with
  | none => exact view_enterUnheld _ _ _
  | note => exact view_enterUnheld _ _ _
  | refer => exact view_enterReferred _ _
  | condemn => exact view_enterAwaitScrap _ _

/-- A slot written twice in a routing is written once. -/
theorem inspected_setSlot (v : RollView) (k : SlotId) (x y : Slot) : (v.setSlot k x).inspected k y = v.inspected k y := by
  unfold RollView.inspected
  cases y.worst <;> simp only [setSlot_setSlot]

theorem rollMove_takeInspected {l : LinkId} (c : Nat) (s : State) (adm : admits l .inspected = true) :
    RollMove (view s) (view (takeInspected l c s).1) := by
  obtain rfl : l = .L1 := by simpa [admits] using adm
  refine rollMove_asHolder fun k held => ?_
  dsimp only
  split_ifs
  · exact .same
  · simp only [view_routeInspected]
    unfold ageCheck
    split_ifs
    · rw [post_eq, view_setSlot, inspected_setSlot, State.slot_setSlot_self]
      exact .inspected (v := view s) k _ held (.inr ⟨_, rfl⟩)
    · exact .inspected (v := view s) k _ held (.inl rfl)

theorem rollMove_takeRelease (l : LinkId) (c : Nat) (s : State) : RollMove (view s) (view (takeRelease l c s).1) :=
  rollMove_asHolder fun _ held => rollMove_giveUpClaim held

/-! ### The bench controller -/

theorem rollMove_takeMount (a : MountArgs) (s : State) : RollMove (view s) (view (takeMount a s).1) :=
  rollMove_onHead fun h => rollMove_onCarrier fun k bound => by
    dsimp only
    split_ifs with held state busy
    · exact .same
    · exact .same
    · exact .same
    · obtain ⟨c, hc, index⟩ := bound_some bound
      convert RollMove.mounted (v := view s) h k c index (by simpa using held) (not_not.mp state) (not_not.mp busy) using 1
      simp [mountSlot, view_setHead, setSlot_setHead, hc, viewHead]

/-- What BEGIN's checks let pass has an attempt left (R68). -/
theorem attempt_left {x : Slot} {hd : Head} {ty : TypeFields} {ps : Pressures} (h : beginCheck x hd ty = .ok ps) :
    x.attempts < 2 + x.grants := by
  by_contra spent
  simp [beginCheck, Nat.not_lt.mp spent] at h

theorem view_countProving (h : HeadId) (s : State) : view (countProving h s) = view s := by
  unfold countProving
  split
  · rfl
  · simp only
    split_ifs
    · rw [view_lapse]; exact view_setHead_same rfl
    · exact view_setHead_same rfl

theorem rollMove_takeBegin (n : Nat) (s : State) : RollMove (view s) (view (takeBegin n s).1) :=
  rollMove_onHead fun h => by
    dsimp only
    split
    · rename_i m phase mount
      split_ifs
      · exact .same
      · split
        · exact .same
        · split
          · exact .same
          · rename_i ps ok
            convert RollMove.begun (v := view s) h m (newTest h ((s.slot m.slot).attempts + 1) ps.pa s.calendar) mount
              (of_decide_eq_true phase) (attempt_left ok) rfl using 1
            simp only [beginTest]
            split_ifs <;>
              simp [view_countProving, view_setHead, setSlot_setHead, Head.toZeroing, viewHead, mount]
    · exact .same

theorem rollMove_takeAbort (n : Nat) (s : State) : RollMove (view s) (view (takeAbort n s).1) :=
  rollMove_onHead fun h => by
    dsimp only
    split
    · rename_i m phase mount
      exact rollMove_endByCause _ mount phase mount (by simp [RollView.setHead, view])
    · exact .same

theorem rollMove_takeDismount (n : Nat) (s : State) : RollMove (view s) (view (takeDismount n s).1) :=
  rollMove_onHead fun h => by
    have idle (u : State) : view (u.setHead h (Head.toIdle (u.head h))) = (view u).setHead h .idle := view_setHead _ _ _
    dsimp only
    split
    · exact .same
    · split
      · exact .same
      · rename_i m mount
        split_ifs with phase phase'
        · convert RollMove.dismounted (v := view s) h m mount phase using 1
          rw [dismountMounted, view_enterUnheld, State.updHead_eq, idle]
          rfl
        · refine .routed (v := view s) h m mount phase' ?_
          have routes := routes_applyOutcome m.slot (s.setHead h (Head.toIdle (s.head h)))
          rwa [idle] at routes
        · exact .same

theorem rollMove_takeHeadSetup (a : HeadSetupArgs) (s : State) : RollMove (view s) (view (takeHeadSetup a s).1) :=
  rollMove_onHead fun h => by
    split_ifs
    · exact .same
    · exact rollMove_of_view_eq (view_setHead_same rfl)

/-! ### The stamp and scrap stations -/

theorem rollMove_takeClaimStamp {l : LinkId} (c : Nat) (s : State) (adm : admits l .claimStamp = true) :
    RollMove (view s) (view (takeClaimStamp l c s).1) := by
  obtain rfl : l = .L3 := by simpa [admits] using adm
  refine rollMove_claimCheck fun k vacant state => ?_
  split_ifs
  · exact .same
  · convert RollMove.claimed (v := view s) k .L3 .stamping (s.compose { s.slot k with state := .stamping, holder := some (.link .L3) })
      vacant rfl state using 1
    simp [takeStampClaim]

theorem rollMove_takeStamped {l : LinkId} (c : Nat) (s : State) (adm : admits l .stamped = true) :
    RollMove (view s) (view (takeStamped l c s).1) := by
  obtain rfl : l = .L3 := by simpa [admits] using adm
  exact rollMove_asHolder fun k held => rollMove_closeSlot_plain (.stamped held)

theorem rollMove_takeClaimScrap {l : LinkId} (c : Nat) (s : State) (adm : admits l .claimScrap = true) :
    RollMove (view s) (view (takeClaimScrap l c s).1) := by
  obtain rfl : l = .L4 := by simpa [admits] using adm
  refine rollMove_claimCheck fun k vacant state => ?_
  rw [enterHeld_eq, view_setSlot]
  exact .claimed (v := view s) k .L4 .scrapping (s.slot k).stamp vacant rfl state

theorem rollMove_takeScrapped {l : LinkId} (a : ScrappedArgs) (s : State) (adm : admits l .scrapped = true) :
    RollMove (view s) (view (takeScrapped l a s).1) := by
  obtain rfl : l = .L4 := by simpa [admits] using adm
  refine rollMove_asHolder fun k held => ?_
  split
  · exact .same
  · exact rollMove_closeSlot (.scrapped held) _

/-! ### The archive computer -/

/-- The fields of a LOAD_TYPE that is not refused are sound (R26, R27, R30). -/
theorem typeSound_readTypeFields {a : LoadTypeArgs} {i : TypeId} {f : TypeFields} (h : readTypeFields a = some (i, f)) :
    TypeSound f := by
  simp only [readTypeFields, Option.bind_eq_bind, Option.bind_eq_some_iff] at h
  obtain ⟨_, _, _, _, proving, _, h⟩ := h
  rw [Option.ite_none_right_eq_some] at h
  simp only [Option.some.injEq, Prod.mk.injEq] at h
  obtain ⟨ok, -, rfl⟩ := h
  simp only [typeRanges, provingRanges, inRange, poMax, raised, Bool.and_eq_true, decide_eq_true_eq] at ok
  obtain ⟨⟨⟨⟨⟨⟨⟨⟨⟨⟨⟨⟨⟨⟨⟨⟨hpt, hhold⟩, hw⟩, hlp⟩, hree⟩, hlo⟩, hld⟩, hlr⟩, hlw⟩, hlife⟩, hint⟩, hls⟩, hstar⟩, hramp⟩,
    hsettle⟩, hproving⟩, hroom⟩ := ok
  refine ⟨hpt, hhold, hw, hlp, hree.2, hlo.2, hld, hlr.2, hlw.2, hlife.2, hint, hls.2, hstar, hramp, hsettle, ?_, ?_,
    Nat.lt_succ_of_le (of_decide_eq_true hroom)⟩
  all_goals
    cases proving with
    | false => simp
    | true => simp_all

theorem rollMove_takeLoadType (a : LoadTypeArgs) (s : State) : RollMove (view s) (view (takeLoadType a s).1) := by
  unfold takeLoadType
  split
  · exact .same
  · rename_i i f fields
    split_ifs with locked
    · exact .same
    · rw [view_setType]
      refine .typed (v := view s) i _ (fun k d isOpen hd e => locked ?_) (.inr ⟨f, _, typeSound_readTypeFields fields, rfl⟩)
      exact (locked_iff s i).mpr ⟨k, isOpen, by rw [show (s.slot k).ident = some d from hd, Option.map_some, e]⟩

theorem rollMove_takeDropType (n : Nat) (s : State) : RollMove (view s) (view (takeDropType n s).1) := by
  unfold takeDropType
  split
  · exact .same
  · rename_i i _
    simp only
    split_ifs with empty locked
    · exact .same
    · exact .same
    · rw [view_setType]
      refine .typed (v := view s) i _ (fun k d isOpen hd e => locked ?_) (.inl rfl)
      exact (locked_iff s i).mpr ⟨k, isOpen, by rw [show (s.slot k).ident = some d from hd, Option.map_some, e]⟩

theorem rollMove_takeReadType (n : Nat) (s : State) : RollMove (view s) (view (takeReadType n s).1) := by
  unfold takeReadType
  split
  · exact .same
  · split <;> exact .same

theorem rollMove_takeSetMark (t : Text) (s : State) : RollMove (view s) (view (takeSetMark t s).1) := by
  unfold takeSetMark
  split <;> exact .same

theorem rollMove_takeSetLimits (a : LimitsArgs) (s : State) : RollMove (view s) (view (takeSetLimits a s).1) := by
  unfold takeSetLimits
  split
  · exact .same
  · rename_i x _
    have unread : view (lapseExpired { s with limits := x }) = view s := view_lapseExpired _
    dsimp only
    rw [← unread]
    exact .dropped (drops_loseSilentLinks _)

theorem rollMove_takeSetDate (l : LinkId) (a : DateArgs) (s : State) : RollMove (view s) (view (takeSetDate l a s).1) := by
  unfold takeSetDate
  split
  · exact .same
  · simp only
    split_ifs
    · exact rollMove_of_view_eq (view_takeSnapshot s)
    · exact .same

theorem rollMove_takeReadPage (i : Nat) (s : State) : RollMove (view s) (view (takeReadPage i s).1) := by
  unfold takeReadPage
  split_ifs
  · exact .same
  · split
    · exact .same
    · split <;> exact .same

theorem view_turnChanges (p : PageId) (s : State) : view (turnChanges p s) = view s :=
  view_congr (by simp [turnChanges]) (by simp [turnChanges]) (by simp [turnChanges]) (by simp [turnChanges])
    (by simp [turnChanges]) (by simp [turnChanges, State.head])

theorem rollMove_takeTurnPage (n : Nat) (s : State) : RollMove (view s) (view (takeTurnPage n s).1) := by
  unfold takeTurnPage
  split_ifs
  · exact .same
  · split
    · exact .same
    · rename_i p _
      split_ifs
      · exact .same
      · have frees := frees_moveRecords (reporting (turnChanges p) s)
        rw [view_reporting, view_turnChanges] at frees
        exact .moved frees

theorem rollMove_takeFinishPage (a : Unit) (s : State) : RollMove (view s) (view (takeFinishPage a s).1) := by
  unfold takeFinishPage
  split
  · exact .same
  · rename_i p _
    split_ifs
    · exact .same
    · have frees := frees_moveRecords (finishPageOp p s)
      rw [view_finishPageOp] at frees
      exact .moved frees

/-! ### Events and power -/

theorem rollStep_answerSent (l : LinkId) (s : State) : RollStep (view s) (view (answerSent l s)) := by
  unfold answerSent
  split
  · exact .move .same
  · simp only
    split_ifs
    · exact rollStep_lineReset (s.updLink l _)
    · exact .move .same

/-- The view of a unit that starts: an empty roll, its types kept. -/
theorem view_restart (s : State) :
    view s.restart = ⟨fun _ => Slot.empty, fun _ => none, [], [], (view s).types, fun _ => .idle⟩ := by
  ext1 <;> try rfl
  · funext k; simp [view, State.slot, State.restart, State.reset]
  · funext i; simp [view, State.restart, State.reset]
  · funext h; simp [view, State.head, State.restart, State.reset, viewHead, Head.initial, HeadView.idle]

theorem rollMove_restart (s : State) : RollMove (view s) (view s.restart) := by
  rw [view_restart]
  exact .restarted

theorem view_fillFirstPage (s : State) : view (fillFirstPage s) = view s := by
  unfold fillFirstPage
  split_ifs <;> rfl

/-- What a command does to the roll, whatever the state it meets. -/
theorem rollStep_exec {c : Instr} {s t : State} (e : exec c s = .next t) : RollStep (view s) (view t) := by
  cases c with
  | status | notices | clearErrors | readStats | lineReset => exact .move (rollMove_request e fun _ _ _ => .same)
  | snapshot => exact .move (rollMove_request e fun _ u _ => rollMove_of_view_eq (view_takeSnapshot u))
  | headStatus => exact .move (rollMove_request e fun _ _ _ => rollMove_onHead fun _ => .same)
  | noticeSetup l => exact .move (rollMove_request e fun a u _ => rollMove_takeNoticeSetup l a u)
  | lookup => exact .move (rollMove_request e fun a u _ => rollMove_takeLookup a u)
  | nextReferral => exact .move (rollMove_request e fun a u _ => rollMove_takeNextReferral a u)
  | rule => exact .move (rollMove_request e fun a u _ => rollMove_takeRule a u)
  | withdraw => exact .move (rollMove_request e fun a u _ => rollMove_takeWithdraw a u)
  | breakClaim => exact .move (rollMove_request e fun a u _ => rollMove_takeBreakClaim a u)
  | stopLink => exact .move (rollMove_request e fun a u _ => rollMove_takeStopLink a u)
  | startLink => exact .move (rollMove_request e fun a u _ => rollMove_takeStartLink a u)
  | setDate l => exact .move (rollMove_request e fun a u _ => rollMove_takeSetDate l a u)
  | forceNotice => exact .move (rollMove_request e fun a u _ => rollMove_takeForceNotice a u)
  | admitOrdinary => exact .move (rollMove_request e fun a u _ => rollMove_takeAdmitOrdinary a u)
  | admitProving => exact .move (rollMove_request e fun a u _ => rollMove_takeAdmitProving a u)
  | claim => exact .move (rollMove_request e rollMove_takeClaim)
  | finding => exact .move (rollMove_request e rollMove_takeFinding)
  | weigh => exact .move (rollMove_request e rollMove_takeWeigh)
  | inspected => exact .move (rollMove_request e rollMove_takeInspected)
  | release l => exact .move (rollMove_request e fun a u _ => rollMove_takeRelease l a u)
  | mount => exact .move (rollMove_request e fun a u _ => rollMove_takeMount a u)
  | begin => exact .move (rollMove_request e fun a u _ => rollMove_takeBegin a u)
  | abort => exact .move (rollMove_request e fun a u _ => rollMove_takeAbort a u)
  | dismount => exact .move (rollMove_request e fun a u _ => rollMove_takeDismount a u)
  | headSetup => exact .move (rollMove_request e fun a u _ => rollMove_takeHeadSetup a u)
  | claimStamp => exact .move (rollMove_request e rollMove_takeClaimStamp)
  | stamped => exact .move (rollMove_request e rollMove_takeStamped)
  | claimScrap => exact .move (rollMove_request e rollMove_takeClaimScrap)
  | scrapped => exact .move (rollMove_request e rollMove_takeScrapped)
  | loadType => exact .move (rollMove_request e fun a u _ => rollMove_takeLoadType a u)
  | dropType => exact .move (rollMove_request e fun a u _ => rollMove_takeDropType a u)
  | readType => exact .move (rollMove_request e fun a u _ => rollMove_takeReadType a u)
  | setMark => exact .move (rollMove_request e fun a u _ => rollMove_takeSetMark a u)
  | setLimits => exact .move (rollMove_request e fun a u _ => rollMove_takeSetLimits a u)
  | readPage => exact .move (rollMove_request e fun a u _ => rollMove_takeReadPage a u)
  | turnPage => exact .move (rollMove_request e fun a u _ => rollMove_takeTurnPage a u)
  | finishPage => exact .move (rollMove_request e fun a u _ => rollMove_takeFinishPage a u)
  | resetPushbutton => exact (event_next e).elim (fun h => h ▸ rollStep_lineReset s) fun h => h ▸ .move .same
  | answerSent l => exact (event_next e).elim (fun h => h ▸ rollStep_answerSent l s) fun h => h ▸ .move .same
  | moveRecords => exact .move (rollMove_event e (.moved (frees_moveRecords s)))
  | unitClockAdvance => exact .move (rollMove_event e (.dropped (drops_advanceClock s)))
  | silenceTimeout => exact .move (rollMove_event e (by split_ifs; exacts [.dropped (drops_advanceClock s), .same]))
  | lapseByTime => exact .move (rollMove_event e (by split_ifs; exacts [.dropped (drops_advanceClock s), .same]))
  | overrun => exact .move (rollMove_event e (by split_ifs <;> exact .same))
  | parity | framing => exact .move (rollMove_event e .same)
  | fragment | check | gapOver20ms => exact .move (rollMove_event (f := fun s => s.updLink _ _) e .same)
  | readingPair h p j => exact .move (rollMove_event e (rollMove_takePair h p j s))
  | zeroTimeout | rampTimeout | holdComplete | tailEnd | releaseTimeout | settleTimeout =>
    obtain rfl := Host.Outcome.next.inj e
    exact .move (rollMove_takePairAs _ _ _ _ s)
  | unknownCode | lengthByteFault =>
    obtain rfl := Host.Outcome.next.inj e
    exact .move (rollMove_onFrame .same)
  | powerOn =>
    obtain rfl := Host.Outcome.next.inj e
    rw [view_fillFirstPage]
    exact .move (rollMove_restart s)
  | powerLoss =>
    obtain rfl := Host.Outcome.next.inj e
    exact .move (rollMove_restart s)

/-- What a step does to the roll: what the command at the front does, or nothing on an empty queue. -/
theorem rollStep_step {s t : State} (e : step s = .next t) : RollStep (view s) (view t) := by
  cases q : s.pending with
  | nil =>
    rw [Sys2Proof.Laws.step_empty q] at e
    obtain rfl := Host.Outcome.next.inj e
    exact .move (rollMove_of_view_eq (by rw [Sys2Proof.Laws.idle_keeps]; rfl))
  | cons c rest =>
    rw [Sys2Proof.Laws.step_front q] at e
    exact rollStep_exec (s := { s with pending := rest }) e

end Sys2Proof.Roll

namespace Sys2Proof.Roll

open Sys2Proof.Machine Sys2Proof.Safety

/-! ### The roll's law on the view -/

/-- What the roll's law asks of one slot alone. -/
structure SlotSound (x : Slot) : Prop where
  carrierRange : ∀ c, x.carrier = some c → 1 ≤ c ∧ c ≤ 255
  bound : x.carrier.isSome = x.state.isOpen
  linkHolder : ∀ l, x.holder = some (.link l) ↔ holderOf x.state = some l
  headHolder : (∃ h, x.holder = some (.head h)) ↔ x.state = .testing
  identity : x.ident.isSome ↔ x.state ≠ .free
  record : x.closing.isSome ↔ x.state = .closed

/-- Heads hold exactly their mounted slots (R16, R17). -/
structure HeadsAgree (slots : SlotId → Slot) (heads : HeadId → HeadView) : Prop where
  mounted : ∀ h k, (slots k).holder = some (.head h) ↔ ∃ c, (heads h).mount = some ⟨k, c⟩
  mountCarrier : ∀ h m, (heads h).mount = some m → (slots m.slot).carrier = some m.carrier
  idle : ∀ h, (heads h).mount = none ↔ (heads h).phase = .idle

/-- `RollLaw`, said of the view. -/
structure Lawful (v : RollView) : Prop where
  slot : ∀ k, SlotSound (v.slots k)
  index : ∀ i k, v.index i = some k ↔ (v.slots k).carrier = some (i.val + 1)
  heads : HeadsAgree v.slots v.heads
  referralOnce : v.referral.Nodup
  referral : ∀ k, k ∈ v.referral ↔ (v.slots k).state = .referred
  closingOnce : v.closing.Nodup
  closing : ∀ k, k ∈ v.closing ↔ (v.slots k).state = .closed
  serials : ∀ j k i i', (v.slots j).state.isOpen = true → (v.slots k).state.isOpen = true →
    (v.slots j).ident = some i → (v.slots k).ident = some i' → i.serial = i'.serial → j = k
  types : ∀ k i, (v.slots k).state.isOpen = true → (v.slots k).ident = some i →
    ∃ t, (v.types i.typeIdx).loaded = some t ∧ t.rev = i.typeRev ∧ t.fields.proving = i.proving

theorem rollLaw_iff (s : State) : RollLaw s ↔ Lawful (view s) := by
  constructor
  · intro R
    exact
      { slot := fun k => ⟨R.carrierRange k, R.bound k, R.linkHolder k, R.headHolder k, R.identity k, R.record k⟩
        index := R.index, heads := ⟨R.mounted, R.mountCarrier, R.idle⟩, referralOnce := R.referralOnce, referral := R.referral,
        closingOnce := R.closingOnce, closing := R.closing, serials := R.serials, types := R.types }
  · intro L
    exact
      { index := L.index, carrierRange := fun k => (L.slot k).carrierRange, bound := fun k => (L.slot k).bound,
        linkHolder := fun k => (L.slot k).linkHolder, headHolder := fun k => (L.slot k).headHolder, mounted := L.heads.mounted,
        mountCarrier := L.heads.mountCarrier, idle := L.heads.idle, referralOnce := L.referralOnce, referral := L.referral,
        closingOnce := L.closingOnce, closing := L.closing, identity := fun k => (L.slot k).identity,
        record := fun k => (L.slot k).record, serials := L.serials, types := L.types }

/-! ### One slot -/

/-- The three states that a link holds a slot in, each with its link (R16). -/
theorem held_cases {st : SlotState} {l : LinkId} (owner : holderOf st = some l) :
    (st = .inspecting ∧ l = .L1) ∨ (st = .stamping ∧ l = .L3) ∨ (st = .scrapping ∧ l = .L4) := by
  cases st <;> simp_all [holderOf]

namespace SlotSound
variable {x y : Slot}

/-- A slot that is not held has no holder. -/
theorem holder_none (S : SlotSound x) (link : holderOf x.state = none) (test : x.state ≠ .testing) : x.holder = none := by
  cases h : x.holder with
  | none => rfl
  | some w =>
    cases w with
    | link l => simp [(S.linkHolder l).mp h] at link
    | head g => exact absurd (S.headHolder.mp ⟨g, h⟩) test

theorem holder_of_not_open (S : SlotSound x) (h : x.state.isOpen = false) : x.holder = none := by
  apply S.holder_none <;> cases e : x.state <;> simp_all [SlotState.isOpen, holderOf]

theorem carrier_of_not_open (S : SlotSound x) (h : x.state.isOpen = false) : x.carrier = none := by
  have := S.bound
  rw [h] at this
  simpa using this

theorem closing_of_open (S : SlotSound x) (h : x.state.isOpen = true) : x.closing.isSome = false := by
  have e : x.state ≠ .closed := fun c => by simp [c, SlotState.isOpen] at h
  simpa using fun c => e (S.record.mp c)

theorem ident_of_open (S : SlotSound x) (h : x.state.isOpen = true) : x.ident.isSome = true :=
  S.identity.mpr fun f => by simp [f, SlotState.isOpen] at h

/-- A slot held by a link is in that link's held state. -/
theorem open_of_link (S : SlotSound x) {l : LinkId} (h : x.holder = some (.link l)) : x.state.isOpen = true := by
  obtain ⟨e, -⟩ | ⟨e, -⟩ | ⟨e, -⟩ := held_cases ((S.linkHolder l).mp h) <;> rw [e] <;> rfl

/-- A slot held by a head is TESTING. -/
theorem testing_of_head (S : SlotSound x) {h : HeadId} (e : x.holder = some (.head h)) : x.state = .testing :=
  S.headHolder.mp ⟨h, e⟩

/-- An open slot that stays open with its cylinder is sound when its new holder suits its new state. -/
theorem moved (S : SlotSound x) (wasOpen : x.state.isOpen = true) (isOpen : y.state.isOpen = true) (carrier : y.carrier = x.carrier)
    (ident : y.ident = x.ident) (closing : y.closing = x.closing)
    (link : ∀ l, y.holder = some (.link l) ↔ holderOf y.state = some l)
    (head : (∃ h, y.holder = some (.head h)) ↔ y.state = .testing) : SlotSound y := by
  refine ⟨carrier ▸ S.carrierRange, ?_, link, head, ?_, ?_⟩
  · rw [carrier, S.bound, wasOpen, isOpen]
  · rw [ident, S.ident_of_open wasOpen]
    exact ⟨fun _ f => by simp [f, SlotState.isOpen] at isOpen, fun _ => rfl⟩
  · rw [closing, S.closing_of_open wasOpen]
    exact ⟨fun c => by simp at c, fun f => by simp [f, SlotState.isOpen] at isOpen⟩

/-- An open slot that stays as it is but for fields that the law does not read. -/
theorem kept (S : SlotSound x) (state : y.state = x.state) (carrier : y.carrier = x.carrier) (ident : y.ident = x.ident)
    (closing : y.closing = x.closing) (holder : y.holder = x.holder) : SlotSound y := by
  obtain ⟨h1, h2, h3, h4, h5, h6⟩ := S
  constructor <;> simp only [state, carrier, ident, closing, holder] <;> assumption

/-- An open slot that enters an open state that is not held. -/
theorem unheld (S : SlotSound x) (wasOpen : x.state.isOpen = true) {st : SlotState} (isOpen : st.isOpen = true)
    (link : holderOf st = none) (test : st ≠ .testing) (carrier : y.carrier = x.carrier) (ident : y.ident = x.ident)
    (closing : y.closing = x.closing) : SlotSound (unheld st y) :=
  S.moved wasOpen isOpen carrier ident closing (by simp [Roll.unheld, link]) (by simp [Roll.unheld, test])

theorem empty : SlotSound Slot.empty := by
  constructor <;> simp [Slot.empty, SlotState.isOpen, holderOf]

/-- An open slot closed with a record. -/
theorem closed (S : SlotSound x) (wasOpen : x.state.isOpen = true) (o : ClosingOutcome) {r : Option ClosingRecord}
    (made : r.isSome = true) : SlotSound (closed o r x) := by
  have ident := S.ident_of_open wasOpen
  constructor <;> simp [Roll.closed, SlotState.isOpen, holderOf, ident, made]

end SlotSound

/-! ### Heads -/

namespace HeadsAgree
variable {slots slots' : SlotId → Slot} {heads : HeadId → HeadView} {k : SlotId} {y : Slot}

/-- Slots that no head holds, before or after, may change as they like. -/
theorem off (A : HeadsAgree slots heads)
    (off : ∀ k, slots' k = slots k ∨ ((∀ h, (slots k).holder ≠ some (.head h)) ∧ ∀ h, (slots' k).holder ≠ some (.head h))) :
    HeadsAgree slots' heads := by
  have holder (k h) : (slots' k).holder = some (.head h) ↔ (slots k).holder = some (.head h) := by
    obtain same | ⟨was, now⟩ := off k
    · rw [same]
    · exact ⟨fun e => absurd e (now h), fun e => absurd e (was h)⟩
  refine ⟨fun h k => (holder k h).trans (A.mounted h k), fun h m mount => ?_, A.idle⟩
  obtain same | ⟨was, -⟩ := off m.slot
  · rw [same]; exact A.mountCarrier h m mount
  · exact absurd ((A.mounted h m.slot).mpr ⟨m.carrier, mount⟩) (was h)

/-- A slot that no head holds, before or after, may change as it likes. -/
theorem offOne (A : HeadsAgree slots heads) (was : ∀ h, (slots k).holder ≠ some (.head h))
    (now : ∀ h, y.holder ≠ some (.head h)) : HeadsAgree (Function.update slots k y) heads :=
  A.off fun j => by
    by_cases e : j = k
    · subst e; exact .inr ⟨was, by simpa using now⟩
    · exact .inl (by simp [e])

/-- A slot that keeps its holder and its carrier, and heads that keep their mounts. -/
theorem stay (A : HeadsAgree slots heads) (holder : y.holder = (slots k).holder) (carrier : y.carrier = (slots k).carrier)
    {heads' : HeadId → HeadView} (mount : ∀ h, (heads' h).mount = (heads h).mount)
    (idle : ∀ h, (heads' h).phase = .idle ↔ (heads h).phase = .idle) : HeadsAgree (Function.update slots k y) heads' := by
  have holders (j) : (Function.update slots k y j).holder = (slots j).holder := by
    by_cases e : j = k
    · subst e; simp [holder]
    · simp [e]
  have carriers (j) : (Function.update slots k y j).carrier = (slots j).carrier := by
    by_cases e : j = k
    · subst e; simp [carrier]
    · simp [e]
  exact ⟨fun h j => by rw [holders, mount]; exact A.mounted h j, fun h m e => by rw [carriers]; exact A.mountCarrier h m (mount h ▸ e),
    fun h => by rw [mount, idle]; exact A.idle h⟩

/-- A head becomes IDLE, and its slot is held by no head. -/
theorem leave (A : HeadsAgree slots heads) {h : HeadId} (was : (slots k).holder = some (.head h))
    (now : ∀ g, y.holder ≠ some (.head g)) :
    HeadsAgree (Function.update slots k y) (Function.update heads h .idle) := by
  obtain ⟨c, mount⟩ := (A.mounted h k).mp was
  constructor
  · intro g j
    by_cases eg : g = h
    · subst eg
      simp only [Function.update_self, HeadView.idle, reduceCtorEq, exists_false, iff_false]
      by_cases ej : j = k
      · subst ej; simpa using now g
      · rw [Function.update_of_ne ej]
        intro held
        obtain ⟨c', mount'⟩ := (A.mounted g j).mp held
        rw [mount] at mount'
        exact ej (congrArg Mount.slot (Option.some.inj mount')).symm
    · rw [Function.update_of_ne eg]
      by_cases ej : j = k
      · subst ej
        refine iff_of_false (by simpa using now g) fun ⟨c', mount'⟩ => eg ?_
        have := (A.mounted g j).mpr ⟨c', mount'⟩
        rw [was] at this
        simpa using this.symm
      · rw [Function.update_of_ne ej]; exact A.mounted g j
  · intro g m e
    by_cases eg : g = h
    · subst eg; simp [HeadView.idle] at e
    · rw [Function.update_of_ne eg] at e
      have held := (A.mounted g m.slot).mpr ⟨m.carrier, e⟩
      have ej : m.slot ≠ k := fun ej => eg (by rw [ej, was] at held; simpa using held.symm)
      rw [Function.update_of_ne ej]
      exact A.mountCarrier g m e
  · intro g
    by_cases eg : g = h
    · subst eg; simp [HeadView.idle]
    · rw [Function.update_of_ne eg]; exact A.idle g

/-- An IDLE head takes a slot that no head holds. -/
theorem enter (A : HeadsAgree slots heads) {h : HeadId} {c : Nat} {q : HeadView} (was : (slots k).holder = none)
    (idle : (heads h).phase = .idle) (now : y.holder = some (.head h)) (carrier : y.carrier = some c)
    (mount : q.mount = some ⟨k, c⟩) (phase : q.phase ≠ .idle) :
    HeadsAgree (Function.update slots k y) (Function.update heads h q) := by
  have vacant : (heads h).mount = none := (A.idle h).mpr idle
  constructor
  · intro g j
    by_cases eg : g = h
    · subst eg
      rw [Function.update_self, mount]
      by_cases ej : j = k
      · subst ej; simp [now]
      · rw [Function.update_of_ne ej]
        refine iff_of_false (fun held => ?_) (by simp [Ne.symm ej])
        obtain ⟨c', e⟩ := (A.mounted g j).mp held
        simp [vacant] at e
    · rw [Function.update_of_ne eg]
      by_cases ej : j = k
      · subst ej
        refine iff_of_false (by simp [now, Ne.symm eg]) fun ⟨c', e⟩ => ?_
        have := (A.mounted g j).mpr ⟨c', e⟩
        simp [was] at this
      · rw [Function.update_of_ne ej]; exact A.mounted g j
  · intro g m e
    by_cases eg : g = h
    · subst eg
      rw [Function.update_self, mount] at e
      obtain rfl := Option.some.inj e
      simp [carrier]
    · rw [Function.update_of_ne eg] at e
      have held := (A.mounted g m.slot).mpr ⟨m.carrier, e⟩
      have ej : m.slot ≠ k := fun ej => by rw [ej, was] at held; simp at held
      rw [Function.update_of_ne ej]
      exact A.mountCarrier g m e
  · intro g
    by_cases eg : g = h
    · subst eg; simp [mount, phase]
    · rw [Function.update_of_ne eg]; exact A.idle g

end HeadsAgree

end Sys2Proof.Roll

namespace Sys2Proof.Roll

open Sys2Proof.Machine Sys2Proof.Safety

/-! ### One open slot changes and stays open -/

/-- Replace the heads. -/
def RollView.withHeads (v : RollView) (heads : HeadId → HeadView) : RollView := { v with heads := heads }

/-- A list without repeats stays so when a new item joins its tail. -/
theorem nodup_snoc {xs : List SlotId} {k : SlotId} (once : xs.Nodup) (out : k ∉ xs) : (xs ++ [k]).Nodup :=
  List.Nodup.append once (List.nodup_singleton k) (by simpa using out)

namespace Lawful
variable {v w : RollView} {k : SlotId} {y : Slot} {heads : HeadId → HeadView}

/-- The slot that changes keeps its cylinder, so index, closing queue, serials and types agree as they did. What the
referral queue and the heads must do is left to the uses. -/
theorem transit (L : Lawful v) (wasOpen : (v.slots k).state.isOpen = true) (isOpen : (w.slots k).state.isOpen = true)
    (sound : SlotSound (w.slots k)) (carrier : (w.slots k).carrier = (v.slots k).carrier)
    (ident : (w.slots k).ident = (v.slots k).ident) (others : ∀ j, j ≠ k → w.slots j = v.slots j) (index : w.index = v.index)
    (closing : w.closing = v.closing) (types : w.types = v.types) (heads : HeadsAgree w.slots w.heads)
    (referralOnce : w.referral.Nodup) (referral : ∀ j, j ∈ w.referral ↔ (w.slots j).state = .referred) : Lawful w := by
  have split (p : SlotId → Prop) (self : p k) (other : ∀ j, w.slots j = v.slots j → p j) (j : SlotId) : p j := by
    by_cases e : j = k
    · exact e ▸ self
    · exact other j (others j e)
  have idents := split (fun j => (w.slots j).ident = (v.slots j).ident) ident fun j e => by rw [e]
  have opens := split (fun j => (w.slots j).state.isOpen = (v.slots j).state.isOpen) (by rw [wasOpen, isOpen]) fun j e => by rw [e]
  constructor
  case slot => exact split _ sound fun j e => e ▸ L.slot j
  case index =>
    intro i j
    rw [index, L.index i j, split (fun j => (w.slots j).carrier = (v.slots j).carrier) carrier (fun j e => by rw [e]) j]
  case heads => exact heads
  case referralOnce => exact referralOnce
  case referral => exact referral
  case closingOnce => exact closing ▸ L.closingOnce
  case closing =>
    intro j
    rw [closing, L.closing j]
    refine split (fun j => (v.slots j).state = .closed ↔ (w.slots j).state = .closed) ?_ (fun j e => by rw [e]) j
    constructor <;> intro h <;> simp [h, SlotState.isOpen] at wasOpen isOpen
  case serials =>
    intro i j d d' oi oj hi hj
    rw [opens] at oi oj
    rw [idents] at hi hj
    exact L.serials i j d d' oi oj hi hj
  case types =>
    intro j d oj hj
    rw [opens] at oj
    rw [idents] at hj
    rw [types]
    exact L.types j d oj hj

/-- The slot stays outside the referral queue, or inside it. -/
theorem setSlot (L : Lawful v) (wasOpen : (v.slots k).state.isOpen = true) (isOpen : y.state.isOpen = true) (sound : SlotSound y)
    (carrier : y.carrier = (v.slots k).carrier) (ident : y.ident = (v.slots k).ident)
    (referred : y.state = .referred ↔ (v.slots k).state = .referred) (agree : HeadsAgree (Function.update v.slots k y) heads) :
    Lawful ((v.withHeads heads).setSlot k y) := by
  refine L.transit wasOpen (by simpa) (by simpa) (by simpa) (by simpa) (fun j e => setSlot_slots_other e) rfl rfl rfl agree
    L.referralOnce fun j => (L.referral j).trans ?_
  by_cases e : j = k
  · subst e; simp [referred]
  · rw [setSlot_slots_other e]; rfl

/-- The slot joins the referral queue. -/
theorem refer (L : Lawful v) (wasOpen : (v.slots k).state.isOpen = true) (sound : SlotSound y)
    (carrier : y.carrier = (v.slots k).carrier) (ident : y.ident = (v.slots k).ident) (was : (v.slots k).state ≠ .referred)
    (now : y.state = .referred) (agree : HeadsAgree (Function.update v.slots k y) heads) :
    Lawful (((v.withHeads heads).setSlot k y).refer k) := by
  have out : k ∉ v.referral := fun h => was ((L.referral k).mp h)
  have slots : (((v.withHeads heads).setSlot k y).refer k).slots = ((v.withHeads heads).setSlot k y).slots := rfl
  refine L.transit wasOpen ?_ (by simpa [slots]) (by simpa [slots]) (by simpa [slots]) (fun j e => by rw [slots, setSlot_slots_other e]; rfl)
    rfl rfl rfl agree ?_ fun j => ?_
  · simp [slots, now, SlotState.isOpen]
  · exact nodup_snoc L.referralOnce out
  · show j ∈ v.referral ++ [k] ↔ _
    by_cases e : j = k
    · subst e; simp [slots, now]
    · rw [slots, setSlot_slots_other e, List.mem_append, L.referral j]
      simp [e, RollView.withHeads]

/-- The slot leaves the referral queue. -/
theorem unrefer (L : Lawful v) (was : (v.slots k).state = .referred) (isOpen : y.state.isOpen = true) (sound : SlotSound y)
    (carrier : y.carrier = (v.slots k).carrier) (ident : y.ident = (v.slots k).ident) (now : y.state ≠ .referred)
    (agree : HeadsAgree (Function.update v.slots k y) v.heads) : Lawful ((v.unrefer k).setSlot k y) := by
  refine L.transit (by rw [was]; rfl) (by simpa) (by simpa) (by simpa) (by simpa)
    (fun j e => by rw [setSlot_slots_other e]; rfl) rfl rfl rfl agree (L.referralOnce.filter _) fun j => ?_
  show j ∈ v.referral.filter _ ↔ _
  by_cases e : j = k
  · subst e; simp [now]
  · rw [setSlot_slots_other e]
    simp [e, L.referral j, RollView.unrefer]

/-! ### A slot closes, and slots are freed -/

/-- An open slot closes, its head, if a head holds it, being emptied in the same event. -/
theorem close (L : Lawful v) (wasOpen : (v.slots k).state.isOpen = true) (o : ClosingOutcome) {r : Option ClosingRecord}
    (made : r.isSome = true) (agree : HeadsAgree (Function.update v.slots k (closed o r (v.slots k))) heads) :
    Lawful ((v.withHeads heads).close k o r) := by
  have slots : ((v.withHeads heads).close k o r).slots = Function.update v.slots k (closed o r (v.slots k)) := rfl
  have notClosed : k ∉ v.closing := fun h => by simp [(L.closing k).mp h, SlotState.isOpen] at wasOpen
  constructor
  case slot =>
    intro j
    rw [slots]
    by_cases e : j = k
    · subst e; simpa using (L.slot j).closed wasOpen o made
    · simpa [e] using L.slot j
  case index =>
    intro i j
    show (if (v.slots k).carrier = some (i.val + 1) then none else v.index i) = some j ↔ _
    rw [slots]
    by_cases e : j = k
    · subst e
      rw [Function.update_self]
      split_ifs with h
      · simp [closed]
      · simp [closed, L.index, h]
    · rw [Function.update_of_ne e]
      split_ifs with h
      · rw [← L.index, (L.index i k).mpr h]; simp [Ne.symm e]
      · exact L.index i j
  case heads => exact agree
  case referralOnce =>
    show (if (v.slots k).state = .referred then _ else v.referral).Nodup
    split_ifs
    · exact L.referralOnce.filter _
    · exact L.referralOnce
  case referral =>
    intro j
    show j ∈ (if (v.slots k).state = .referred then v.referral.filter _ else v.referral) ↔ _
    rw [slots]
    by_cases e : j = k
    · subst e
      rw [Function.update_self]
      split_ifs with h
      · simp [closed]
      · simp [closed, L.referral, h]
    · rw [Function.update_of_ne e]
      split_ifs <;> simp [e, L.referral]
  case closingOnce => exact nodup_snoc L.closingOnce notClosed
  case closing =>
    intro j
    show j ∈ v.closing ++ [k] ↔ _
    rw [slots]
    by_cases e : j = k
    · subst e; simp [closed]
    · simp [e, L.closing]
  case serials =>
    intro i j d d' oi oj
    rw [slots] at oi oj ⊢
    by_cases ei : i = k
    · subst ei; simp [closed, SlotState.isOpen] at oi
    by_cases ej : j = k
    · subst ej; simp [closed, SlotState.isOpen] at oj
    rw [Function.update_of_ne ei] at oi ⊢
    rw [Function.update_of_ne ej] at oj ⊢
    exact L.serials i j d d' oi oj
  case types =>
    intro j d oj
    rw [slots] at oj ⊢
    by_cases ej : j = k
    · subst ej; simp [closed, SlotState.isOpen] at oj
    rw [Function.update_of_ne ej] at oj ⊢
    exact L.types j d oj

/-- A slot of the closing queue is CLOSED, so nobody holds it. -/
theorem not_held_of_closing (L : Lawful v) (h : k ∈ v.closing) : (v.slots k).holder = none :=
  (L.slot k).holder_of_not_open (by rw [(L.closing k).mp h]; rfl)

/-- The slots whose records the pages take are freed. -/
theorem frees (L : Lawful v) (F : Frees v w) : Lawful w := by
  obtain ⟨moved, rest, q, rfl⟩ := F
  have once : (moved ++ rest).Nodup := q ▸ L.closingOnce
  have wasClosed (j) (h : j ∈ moved) : (v.slots j).state = .closed := (L.closing j).mp (by simp [q, h])
  have kept (j) (h : j ∉ moved) : (v.free moved rest).slots j = v.slots j := by simp [RollView.free, h]
  have freed (j) (h : j ∈ moved) : (v.free moved rest).slots j = Slot.empty := by simp [RollView.free, h]
  have notOpen (j) (h : j ∈ moved) : ((v.free moved rest).slots j).state.isOpen = false := by rw [freed j h]; rfl
  constructor
  case slot =>
    intro j
    by_cases h : j ∈ moved
    · rw [freed j h]; exact .empty
    · rw [kept j h]; exact L.slot j
  case index =>
    intro i j
    show v.index i = some j ↔ _
    rw [L.index]
    by_cases h : j ∈ moved
    · rw [freed j h, (L.slot j).carrier_of_not_open (by rw [wasClosed j h]; rfl)]; rfl
    · rw [kept j h]
  case heads =>
    refine L.heads.off fun j => ?_
    by_cases h : j ∈ moved
    · exact .inr ⟨by simp [L.not_held_of_closing (k := j) (by simp [q, h])], by simp [freed j h, Slot.empty]⟩
    · exact .inl (kept j h)
  case referralOnce => exact L.referralOnce
  case referral =>
    intro j
    show j ∈ v.referral ↔ _
    rw [L.referral]
    by_cases h : j ∈ moved
    · rw [freed j h, wasClosed j h]; simp [Slot.empty]
    · rw [kept j h]
  case closingOnce => exact once.of_append_right
  case closing =>
    intro j
    show j ∈ rest ↔ _
    by_cases h : j ∈ moved
    · have out : j ∉ rest := List.disjoint_of_nodup_append once h
      simp [freed j h, Slot.empty, out]
    · rw [kept j h, ← L.closing, q]; simp [h]
  case serials =>
    intro i j d d' oi oj
    by_cases hi : i ∈ moved
    · simp [notOpen i hi] at oi
    by_cases hj : j ∈ moved
    · simp [notOpen j hj] at oj
    rw [kept i hi] at oi ⊢
    rw [kept j hj] at oj ⊢
    exact L.serials i j d d' oi oj
  case types =>
    intro j d oj
    by_cases hj : j ∈ moved
    · simp [notOpen j hj] at oj
    rw [kept j hj] at oj ⊢
    exact L.types j d oj

/-! ### A cylinder is admitted, a type written, power applied -/

/-- A FREE slot takes a cylinder whose carrier is bound to no slot and whose serial is not open. -/
theorem bindNew (L : Lawful v) {c : Fin 255} {i : Identity} {t : LoadedType} (vacant : (v.slots k).state = .free)
    (unbound : v.index c = none) (new : NewSlot c i y) (loaded : (v.types i.typeIdx).loaded = some t)
    (revision : t.rev = i.typeRev) (kind : t.fields.proving = i.proving)
    (serial : ∀ j d, (v.slots j).state.isOpen = true → (v.slots j).ident = some d → d.serial ≠ i.serial) :
    Lawful ((v.setSlot k y).bind c k) := by
  have slots : ((v.setSlot k y).bind c k).slots = Function.update v.slots k y := rfl
  have state : y.state = .awaitTest ∨ y.state = .admitted := by rw [new.state]; split_ifs <;> simp
  have isOpen : y.state.isOpen = true := by obtain h | h := state <;> rw [h] <;> rfl
  have wasFree : (v.slots k).state.isOpen = false := by rw [vacant]; rfl
  constructor
  case slot =>
    intro j
    rw [slots]
    by_cases e : j = k
    · subst e
      rw [Function.update_self]
      constructor
      · intro n h
        rw [new.carrier] at h
        obtain rfl := Option.some.inj h
        omega
      · rw [new.carrier, isOpen]; rfl
      · intro l; obtain h | h := state <;> simp [new.holder, h, holderOf]
      · obtain h | h := state <;> simp [new.holder, h]
      · obtain h | h := state <;> simp [new.ident, h]
      · obtain h | h := state <;> simp [new.closing, h]
    · simpa [e] using L.slot j
  case index =>
    intro n j
    show Function.update v.index c (some k) n = some j ↔ _
    rw [slots]
    have vacantCarrier := (L.slot k).carrier_of_not_open wasFree
    by_cases en : n = c
    · subst en
      rw [Function.update_self]
      by_cases e : j = k
      · subst e; simp [new.carrier]
      · rw [Function.update_of_ne e, ← L.index, unbound]; simp [Ne.symm e]
    · rw [Function.update_of_ne en, L.index]
      by_cases e : j = k
      · subst e
        simp [vacantCarrier, new.carrier, Fin.val_inj, Ne.symm en]
      · rw [Function.update_of_ne e]
  case heads =>
    exact L.heads.offOne (by simp [(L.slot k).holder_of_not_open wasFree]) (by simp [new.holder])
  case referralOnce => exact L.referralOnce
  case referral =>
    intro j
    show j ∈ v.referral ↔ _
    rw [L.referral, slots]
    by_cases e : j = k
    · subst e; obtain h | h := state <;> simp [vacant, h]
    · simp [e]
  case closingOnce => exact L.closingOnce
  case closing =>
    intro j
    show j ∈ v.closing ↔ _
    rw [L.closing, slots]
    by_cases e : j = k
    · subst e; obtain h | h := state <;> simp [vacant, h]
    · simp [e]
  case serials =>
    intro a b d d' oa ob ha hb same
    rw [slots] at oa ob ha hb
    by_cases ea : a = k
    · by_cases eb : b = k
      · rw [ea, eb]
      · subst ea
        rw [Function.update_of_ne eb] at ob hb
        rw [Function.update_self, new.ident] at ha
        obtain rfl := Option.some.inj ha
        exact absurd same.symm (serial b d' ob hb)
    · rw [Function.update_of_ne ea] at oa ha
      by_cases eb : b = k
      · subst eb
        rw [Function.update_self, new.ident] at hb
        obtain rfl := Option.some.inj hb
        exact absurd same (serial a d oa ha)
      · rw [Function.update_of_ne eb] at ob hb
        exact L.serials a b d d' oa ob ha hb same
  case types =>
    intro j d oj hj
    rw [slots] at oj hj
    by_cases e : j = k
    · subst e
      rw [Function.update_self, new.ident] at hj
      obtain rfl := Option.some.inj hj
      exact ⟨t, loaded, revision, kind⟩
    · rw [Function.update_of_ne e] at oj hj
      exact L.types j d oj hj

/-- A type entry that no open slot refers to may be written. -/
theorem setType (L : Lawful v) {i : TypeId} (e : TypeEntry)
    (unlocked : ∀ k d, (v.slots k).state.isOpen = true → (v.slots k).ident = some d → d.typeIdx ≠ i) : Lawful (v.setType i e) :=
  { L with
    types := fun k d o h => by
      have same : (v.setType i e).types d.typeIdx = v.types d.typeIdx := Function.update_of_ne (unlocked k d o h) _ _
      rw [same]
      exact L.types k d o h }

/-- A roll without cylinders and heads without mounts are lawful. -/
theorem blank (types : TypeId → TypeEntry) : Lawful ⟨fun _ => Slot.empty, fun _ => none, [], [], types, fun _ => .idle⟩ := by
  constructor
  case slot => exact fun _ => .empty
  case heads => exact ⟨by simp [Slot.empty, HeadView.idle], by simp [HeadView.idle], by simp [HeadView.idle]⟩
  all_goals simp [Slot.empty, SlotState.isOpen]

end Lawful

end Sys2Proof.Roll

namespace Sys2Proof.Roll

open Sys2Proof.Machine Sys2Proof.Safety

/-! ### Every move keeps the roll's law -/

@[simp] theorem unheld_state (st : SlotState) (x : Slot) : (unheld st x).state = st := rfl
@[simp] theorem unheld_holder (st : SlotState) (x : Slot) : (unheld st x).holder = none := rfl
@[simp] theorem unheld_carrier (st : SlotState) (x : Slot) : (unheld st x).carrier = x.carrier := rfl
@[simp] theorem unheld_ident (st : SlotState) (x : Slot) : (unheld st x).ident = x.ident := rfl
@[simp] theorem unheld_closing (st : SlotState) (x : Slot) : (unheld st x).closing = x.closing := rfl
@[simp] theorem unheld_test (st : SlotState) (x : Slot) : (unheld st x).test = x.test := rfl
@[simp] theorem unheld_worst (st : SlotState) (x : Slot) : (unheld st x).worst = x.worst := rfl
@[simp] theorem unheld_attempts (st : SlotState) (x : Slot) : (unheld st x).attempts = x.attempts := rfl
@[simp] theorem unheld_grants (st : SlotState) (x : Slot) : (unheld st x).grants = x.grants := rfl
@[simp] theorem unheld_isProving (st : SlotState) (x : Slot) : (unheld st x).isProving = x.isProving := rfl

/-- A slot whose inspection notes something is still the slot that L1 holds. -/
theorem Noted.keeps {x y : Slot} (N : Noted x y) : y.state = x.state ∧ y.carrier = x.carrier ∧
    y.ident = x.ident ∧ y.closing = x.closing ∧ y.holder = x.holder := by
  cases N <;> simp

namespace Lawful
variable {v w : RollView} {k : SlotId} {y : Slot}

/-- A slot that no head holds enters an open state that is not held. -/
theorem toUnheld (L : Lawful v) (was : ∀ h, (v.slots k).holder ≠ some (.head h)) (wasOpen : (v.slots k).state.isOpen = true)
    {st : SlotState} (isOpen : st.isOpen = true) (link : holderOf st = none) (test : st ≠ .testing)
    (notReferred : st ≠ .referred) (wasNot : (v.slots k).state ≠ .referred) (carrier : y.carrier = (v.slots k).carrier)
    (ident : y.ident = (v.slots k).ident) (closing : y.closing = (v.slots k).closing) : Lawful (v.setSlot k (unheld st y)) :=
  L.setSlot (heads := v.heads) wasOpen isOpen ((L.slot k).unheld wasOpen isOpen link test carrier ident closing) carrier ident
    (iff_of_false notReferred wasNot) (L.heads.offOne was (by simp))

/-- A slot that stays as it is but for fields that the law does not read, and heads that keep their mounts. -/
theorem keepSlot (L : Lawful v) (wasOpen : (v.slots k).state.isOpen = true) (state : y.state = (v.slots k).state)
    (carrier : y.carrier = (v.slots k).carrier) (ident : y.ident = (v.slots k).ident) (closing : y.closing = (v.slots k).closing)
    (holder : y.holder = (v.slots k).holder) {heads : HeadId → HeadView} (mount : ∀ h, (heads h).mount = (v.heads h).mount)
    (idle : ∀ h, (heads h).phase = .idle ↔ (v.heads h).phase = .idle) : Lawful ((v.withHeads heads).setSlot k y) :=
  L.setSlot wasOpen (state ▸ wasOpen) ((L.slot k).kept state carrier ident closing holder) carrier ident (by rw [state])
    (L.heads.stay holder carrier mount idle)

/-- Heads that keep their mounts, one of them written. -/
theorem keepSlotHead (L : Lawful v) {h : HeadId} {q : HeadView} (wasOpen : (v.slots k).state.isOpen = true)
    (state : y.state = (v.slots k).state) (carrier : y.carrier = (v.slots k).carrier) (ident : y.ident = (v.slots k).ident)
    (closing : y.closing = (v.slots k).closing) (holder : y.holder = (v.slots k).holder)
    (mount : q.mount = (v.heads h).mount) (idle : q.phase = .idle ↔ (v.heads h).phase = .idle) :
    Lawful ((v.setHead h q).setSlot k y) := by
  refine L.keepSlot (heads := Function.update v.heads h q) wasOpen state carrier ident closing holder (fun g => ?_) fun g => ?_
  · by_cases e : g = h
    · subst e; simpa using mount
    · simp [e]
  · by_cases e : g = h
    · subst e; simpa using idle
    · simp [e]

/-- The slot mounted in a head is TESTING, held by it. -/
theorem testing_of_mount (L : Lawful v) {h : HeadId} {m : Mount} (mount : (v.heads h).mount = some m) :
    (v.slots m.slot).holder = some (.head h) ∧ (v.slots m.slot).state = .testing := by
  have held := (L.heads.mounted h m.slot).mpr ⟨m.carrier, mount⟩
  exact ⟨held, (L.slot m.slot).testing_of_head held⟩

theorem givesUp (L : Lawful v) (G : GivesUp v w) : Lawful w := by
  obtain ⟨k, l, held⟩ := G
  have owner := ((L.slot k).linkHolder l).mp held
  have wasOpen := (L.slot k).open_of_link held
  unfold givenUp
  rw [owner, Option.isSome_some, if_pos rfl]
  have returns : (v.slots k).state.returned.isOpen = true ∧ holderOf (v.slots k).state.returned = none ∧
      (v.slots k).state.returned ≠ .testing ∧ (v.slots k).state.returned ≠ .referred ∧ (v.slots k).state ≠ .referred := by
    obtain ⟨e, -⟩ | ⟨e, -⟩ | ⟨e, -⟩ := held_cases owner <;> rw [e] <;> decide
  obtain ⟨isOpen, link, test, notNow, notBefore⟩ := returns
  exact L.toUnheld (by simp [held]) wasOpen isOpen link test notNow notBefore rfl rfl rfl

theorem drops (L : Lawful v) (D : Drops v w) : Lawful w := by
  induction D with
  | refl => exact L
  | tail _ one ih => exact ih.givesUp one

/-- A head empties, and the slot that it held enters an open state that is not held. -/
theorem leaveHead (L : Lawful v) {h : HeadId} (held : (v.slots k).holder = some (.head h)) {st : SlotState}
    (isOpen : st.isOpen = true) (link : holderOf st = none) (test : st ≠ .testing) (notReferred : st ≠ .referred) :
    Lawful ((v.setHead h .idle).setSlot k (unheld st (v.slots k))) := by
  have state := (L.slot k).testing_of_head held
  have wasOpen : (v.slots k).state.isOpen = true := by rw [state]; rfl
  exact L.setSlot (heads := Function.update v.heads h .idle) wasOpen isOpen
    ((L.slot k).unheld wasOpen isOpen link test rfl rfl rfl) rfl rfl (iff_of_false notReferred (by simp [state]))
    (L.heads.leave held (by simp))

/-- A head empties, and the slot that it held joins the referral queue. -/
theorem leaveReferred (L : Lawful v) {h : HeadId} (held : (v.slots k).holder = some (.head h))
    (carrier : y.carrier = (v.slots k).carrier) (ident : y.ident = (v.slots k).ident) (closing : y.closing = (v.slots k).closing) :
    Lawful (((v.setHead h .idle).setSlot k (unheld .referred y)).refer k) := by
  have state := (L.slot k).testing_of_head held
  have wasOpen : (v.slots k).state.isOpen = true := by rw [state]; rfl
  exact L.refer (heads := Function.update v.heads h .idle) wasOpen
    ((L.slot k).unheld wasOpen rfl rfl (by simp) carrier ident closing) carrier ident (by simp [state]) rfl
    (L.heads.leave held (by simp))

/-- A head empties, and the slot that it held is routed by its outcome. -/
theorem routes (L : Lawful v) {h : HeadId} (held : (v.slots k).holder = some (.head h))
    (R : Routes k (v.setHead h .idle) w) : Lawful w := by
  have state := (L.slot k).testing_of_head held
  have wasOpen : (v.slots k).state.isOpen = true := by rw [state]; rfl
  cases R with
  | proving r kind made frees =>
    exact (L.close (heads := Function.update v.heads h .idle) wasOpen .proving made
      (L.heads.leave held (by simp [closed]))).frees frees
  | ordinary kind =>
    have leave {st : SlotState} (isOpen : st.isOpen = true) (link : holderOf st = none) (test : st ≠ .testing)
        (notReferred : st ≠ .referred) := L.leaveHead held isOpen link test notReferred
    obtain ⟨-, e⟩ | ⟨-, e⟩ | ⟨-, -, e⟩ | ⟨-, -, -, e⟩ := (v.setHead h .idle).routeOrdinary_cases k <;> rw [e, setHead_slots]
    · exact leave rfl rfl (by simp) (by simp)
    · exact leave rfl rfl (by simp) (by simp)
    · exact L.leaveReferred held (post_carrier _ _) (post_ident _ _) (post_closing _ _)
    · exact leave rfl rfl (by simp) (by simp)

/-- An inspected slot is routed by its worst severity. -/
theorem inspected (L : Lawful v) (held : (v.slots k).holder = some (.link .L1)) (carrier : y.carrier = (v.slots k).carrier)
    (ident : y.ident = (v.slots k).ident) (closing : y.closing = (v.slots k).closing) : Lawful (v.inspected k y) := by
  have owner := ((L.slot k).linkHolder .L1).mp held
  have wasOpen := (L.slot k).open_of_link held
  have wasNot : (v.slots k).state ≠ .referred := fun e => by simp [e, holderOf] at owner
  have off : ∀ h, (v.slots k).holder ≠ some (.head h) := by simp [held]
  unfold RollView.inspected
  cases y.worst with
  | none => exact L.toUnheld off wasOpen rfl rfl (by simp) (by simp) wasNot carrier ident closing
  | note => exact L.toUnheld off wasOpen rfl rfl (by simp) (by simp) wasNot carrier ident closing
  | condemn => exact L.toUnheld off wasOpen rfl rfl (by simp) (by simp) wasNot carrier ident closing
  | refer =>
    exact L.refer (heads := v.heads) wasOpen ((L.slot k).unheld wasOpen rfl rfl (by simp) carrier ident closing) carrier ident
      wasNot rfl (L.heads.offOne off (by simp))

/-- Somebody who may close a slot closes an open slot that no head holds. -/
theorem closes (L : Lawful v) {o : ClosingOutcome} (C : Closes (v.slots k) o) :
    (v.slots k).state.isOpen = true ∧ ∀ h, (v.slots k).holder ≠ some (.head h) := by
  cases C with
  | stamped held => exact ⟨(L.slot k).open_of_link held, by simp [held]⟩
  | scrapped held => exact ⟨(L.slot k).open_of_link held, by simp [held]⟩
  | withdrawn vacant _ isOpen => exact ⟨isOpen, by simp [vacant]⟩

/-- A ruling sends a REFERRED slot to an open state that is not held. -/
theorem ruled (L : Lawful v) (was : (v.slots k).state = .referred) {st : SlotState} (isOpen : st.isOpen = true)
    (link : holderOf st = none) (test : st ≠ .testing) (notReferred : st ≠ .referred) (carrier : y.carrier = (v.slots k).carrier)
    (ident : y.ident = (v.slots k).ident) (closing : y.closing = (v.slots k).closing) :
    Lawful ((v.unrefer k).setSlot k (unheld st y)) := by
  have wasOpen : (v.slots k).state.isOpen = true := by rw [was]; rfl
  have vacant : (v.slots k).holder = none := (L.slot k).holder_none (by rw [was]; rfl) (by simp [was])
  exact L.unrefer was isOpen ((L.slot k).unheld wasOpen isOpen link test carrier ident closing) carrier ident notReferred
    (L.heads.offOne (by simp [vacant]) (by simp))

/-- Every move keeps the roll's law. -/
theorem move (L : Lawful v) (M : RollMove v w) : Lawful w := by
  cases M with
  | same => exact L
  | rippled q agree =>
    exact { L with
      heads := ⟨fun h k => by rw [(agree h).1]; exact L.heads.mounted h k,
        fun h m e => L.heads.mountCarrier h m ((agree h).1 ▸ e), fun h => by rw [(agree h).1, (agree h).2]; exact L.heads.idle h⟩ }
  | typed i e unlocked written => exact L.setType e unlocked
  | admitted c k i x t vacant unbound new loaded revision kind serial =>
    exact L.bindNew vacant unbound new loaded revision kind serial
  | claimed k l st stamp vacant owner state =>
    have link (m : LinkId) : holderOf st = some m ↔ l = m := by rw [owner, Option.some.injEq]
    have states : st.returned.isOpen = true ∧ st.isOpen = true ∧ st ≠ .testing ∧ (st = .referred ↔ st.returned = .referred) := by
      obtain ⟨rfl, -⟩ | ⟨rfl, -⟩ | ⟨rfl, -⟩ := held_cases owner <;> decide
    rw [← state] at states
    obtain ⟨wasOpen, isOpen, test, referred⟩ := states
    exact L.setSlot (heads := v.heads) wasOpen isOpen
      ((L.slot k).moved wasOpen isOpen rfl rfl rfl (by simp [link]) (by simp [test])) rfl rfl referred
      (L.heads.offOne (by simp [vacant]) (by simp))
  | dropped D => exact L.drops D
  | noted k y held N =>
    obtain ⟨state, carrier, ident, closing, holder⟩ := N.keeps
    exact L.keepSlot ((L.slot k).open_of_link held) state carrier ident closing holder (fun _ => rfl) fun _ => Iff.rfl
  | inspected k y held age =>
    obtain rfl | ⟨f, rfl⟩ := age
    · exact L.inspected held rfl rfl rfl
    · exact L.inspected held (post_carrier _ _) (post_ident _ _) (post_closing _ _)
  | mounted h k c bound vacant state idle =>
    have carrier : (v.slots k).carrier = some (c.val + 1) := (L.index c k).mp bound
    have wasOpen : (v.slots k).state.isOpen = true := by rw [state]; rfl
    exact L.setSlot (heads := Function.update v.heads h _) wasOpen rfl
      ((L.slot k).moved wasOpen rfl rfl rfl rfl (by simp [holderOf]) (by simp)) rfl rfl (by simp [state])
      (L.heads.enter (c := c.val + 1) vacant idle rfl carrier rfl (by simp))
  | begun h m r mount phase allowed fresh =>
    obtain ⟨held, state⟩ := L.testing_of_mount mount
    exact L.keepSlotHead (by rw [state]; rfl) rfl rfl rfl rfl rfl mount.symm (by simp [phase])
  | runs h m q f mount phase stays flies outcome =>
    obtain ⟨held, state⟩ := L.testing_of_mount mount
    have idle : q.phase = .idle ↔ (v.heads h).phase = .idle :=
      iff_of_false (fun e => by simp [e, Phase.inFlight] at flies) fun e => by simp [e, Phase.inFlight] at phase
    exact L.keepSlotHead (by rw [state]; rfl) rfl rfl rfl rfl rfl (stays.trans mount.symm) idle
  | ends h m r o fs f mount phase outcome sound =>
    obtain ⟨held, state⟩ := L.testing_of_mount mount
    have idle : Phase.done = .idle ↔ (v.heads h).phase = .idle :=
      iff_of_false (by simp) fun e => by simp [e, Phase.inFlight] at phase
    exact L.keepSlotHead (by rw [state]; rfl) (by simp) (by simp) (by simp) (by simp) (by simp) mount.symm idle
  | dismounted h m mount phase =>
    exact L.leaveHead (L.testing_of_mount mount).1 rfl rfl (by simp) (by simp)
  | routed h m mount phase R => exact L.routes (L.testing_of_mount mount).1 R
  | retested k state grants => exact L.ruled state rfl rfl (by simp) (by simp) rfl rfl rfl
  | condemned k f state severity => exact L.ruled state rfl rfl (by simp) (by simp) (by simp) (by simp) (by simp)
  | closed k o m r C made frees =>
    obtain ⟨wasOpen, off⟩ := L.closes C
    have written : Lawful (v.setSlot k { v.slots k with method := m }) :=
      L.keepSlot (y := { v.slots k with method := m }) wasOpen rfl rfl rfl rfl rfl (fun _ => rfl) fun _ => Iff.rfl
    refine (written.close (heads := v.heads) (by simpa) o (by rw [made]; exact (L.slot k).ident_of_open wasOpen) ?_).frees frees
    exact written.heads.offOne (by simpa) (by simp [Roll.closed])
  | moved F => exact L.frees F
  | restarted => exact Lawful.blank v.types

end Lawful

end Sys2Proof.Roll

namespace Sys2Proof.Roll

open Sys2Proof.Machine Sys2Proof.Safety

/-! ### What freeing, routing and resetting leave of the slots -/

namespace Frees
variable {v w : RollView}

theorem heads (F : Frees v w) : w.heads = v.heads := by obtain ⟨_, _, _, rfl⟩ := F; rfl
theorem types (F : Frees v w) : w.types = v.types := by obtain ⟨_, _, _, rfl⟩ := F; rfl

/-- A slot stands as it was, or it was closing and is FREE. -/
theorem slot (F : Frees v w) (k : SlotId) : w.slots k = v.slots k ∨ (k ∈ v.closing ∧ w.slots k = Slot.empty) := by
  obtain ⟨moved, rest, q, rfl⟩ := F
  by_cases h : k ∈ moved
  · exact .inr ⟨by simp [q, h], by simp [RollView.free, h]⟩
  · exact .inl (by simp [RollView.free, h])

end Frees

namespace Routes
variable {v w : RollView} {k : SlotId}

theorem heads (R : Routes k v w) : w.heads = v.heads := by
  cases R with
  | proving r kind made frees => exact frees.heads
  | ordinary kind =>
    obtain ⟨-, e⟩ | ⟨-, e⟩ | ⟨-, -, e⟩ | ⟨-, -, -, e⟩ := v.routeOrdinary_cases k <;> rw [e] <;> rfl

/-- The routed slot is held by nobody. -/
theorem holder (R : Routes k v w) : (w.slots k).holder = none := by
  cases R with
  | proving r kind made frees =>
    obtain e | ⟨-, e⟩ := frees.slot k <;> rw [e]
    · simp [RollView.close, closed]
    · rfl
  | ordinary kind =>
    obtain ⟨-, e⟩ | ⟨-, e⟩ | ⟨-, -, e⟩ | ⟨-, -, -, e⟩ := v.routeOrdinary_cases k <;> rw [e] <;> simp [RollView.refer]

/-- Any other slot stands as it was, or is FREE. -/
theorem other (R : Routes k v w) {j : SlotId} (h : j ≠ k) : w.slots j = v.slots j ∨ w.slots j = Slot.empty := by
  cases R with
  | proving r kind made frees =>
    have same : (v.close k .proving r).slots j = v.slots j := by simp [RollView.close, h]
    exact same ▸ (frees.slot j).imp_right And.right
  | ordinary kind =>
    obtain ⟨-, e⟩ | ⟨-, e⟩ | ⟨-, -, e⟩ | ⟨-, -, -, e⟩ := v.routeOrdinary_cases k <;> rw [e] <;> simp [RollView.refer, h]

/-- Routing does not read the heads. -/
theorem withHeads (R : Routes k v w) (g : HeadId → HeadView) : Routes k (v.withHeads g) (w.withHeads g) := by
  cases R with
  | proving r kind made frees =>
    obtain ⟨moved, rest, q, rfl⟩ := frees
    exact .proving r kind made ⟨moved, rest, q, rfl⟩
  | ordinary kind =>
    have same : (v.routeOrdinary k).withHeads g = (v.withHeads g).routeOrdinary k := by
      have slots : (v.withHeads g).slots = v.slots := rfl
      simp only [RollView.routeOrdinary, slots]
      split
      case h_3 => split_ifs <;> rfl
      all_goals rfl
    rw [same]
    exact .ordinary kind

end Routes

namespace Resets
variable {v w : RollView} {k : SlotId}

theorem heads (R : Resets k v w) : w.heads = v.heads := by
  cases R with
  | done h held phase routes => exact routes.heads
  | cut h held phase routes => exact routes.heads
  | _ => rfl

/-- Any other slot stands as it was, or is FREE. -/
theorem other (R : Resets k v w) {j : SlotId} (h : j ≠ k) : w.slots j = v.slots j ∨ w.slots j = Slot.empty := by
  cases R with
  | done g held phase routes => exact routes.other h
  | cut g held phase routes =>
    have r := routes.other h
    rwa [setSlot_slots_other h] at r
  | claim l held => exact .inl (setSlot_slots_other h)
  | mounted g held phase => exact .inl (setSlot_slots_other h)
  | _ => exact .inl rfl

/-- A slot that nobody holds stays held by nobody, whichever slot is reset. -/
theorem holder_none (R : Resets k v w) {j : SlotId} (h : (v.slots j).holder = none) : (w.slots j).holder = none := by
  by_cases e : j = k
  · subst e
    cases R with
    | free => exact h
    | idle => exact h
    | claim l held => rw [held] at h; cases h
    | mounted => simp
    | done g held phase routes => exact routes.holder
    | cut g held phase routes => exact routes.holder
  · obtain e | e := R.other e <;> rw [e]
    · exact h
    · rfl

end Resets

/-! ### A line reset is a run of moves

A line reset empties the heads after the slots. Seen with each head emptied as its slot is reset, it is what a run of
RELEASE, ABORT and DISMOUNT would do, slot by slot. -/

/-- The heads of a shadow that still hold a slot stand as the unit's own. -/
def Shadows (v : RollView) (g : HeadId → HeadView) : Prop := ∀ k h, (v.slots k).holder = some (.head h) → g h = v.heads h

/-- A slot held by a head of the shadow is reset and its head is emptied: no other head of the shadow changes. -/
theorem Shadows.leave {v w : RollView} {g : HeadId → HeadView} {k : SlotId} {h : HeadId} (S : Shadows v g)
    (L : Lawful (v.withHeads g)) (R : Resets k v w) (held : (v.slots k).holder = some (.head h))
    (now : (w.slots k).holder = none) : Shadows w (Function.update g h .idle) := by
  intro j f hj
  have ej : j ≠ k := fun e => by rw [e, now] at hj; cases hj
  have was : (v.slots j).holder = some (.head f) := by
    obtain e | e := R.other ej
    · rwa [e] at hj
    · rw [e] at hj; cases hj
  have ef : f ≠ h := by
    rintro rfl
    obtain ⟨c, mk⟩ := (L.heads.mounted f k).mp held
    obtain ⟨c', mj⟩ := (L.heads.mounted f j).mp was
    rw [mk] at mj
    exact ej (congrArg Mount.slot (Option.some.inj mj)).symm
  rw [Function.update_of_ne ef, R.heads]
  exact S j f was

/-- A test cut short by a line reset ends without a finding. -/
theorem testEnd_cut (x : Slot) : TestEnd x (if x.isProving = true then .notProved else .invalid) [] :=
  ⟨by simp, by split_ifs <;> simp, fun _ => rfl⟩

/-- A slot in a link's held state returns to the state it was claimed from. -/
theorem givenUp_of_holderOf {x : Slot} {l : LinkId} (owner : holderOf x.state = some l) :
    givenUp x = unheld x.state.returned x := by
  unfold givenUp
  rw [owner, Option.isSome_some, if_pos rfl]

/-- One slot reset, seen with its head emptied, is a run of moves after which nobody holds it. -/
theorem Resets.moves {v w : RollView} {g : HeadId → HeadView} {k : SlotId} (L : Lawful (v.withHeads g)) (S : Shadows v g)
    (R : Resets k v w) :
    ∃ g', Relation.ReflTransGen RollMove (v.withHeads g) (w.withHeads g') ∧ Shadows w g' ∧ (w.slots k).holder = none := by
  have mountOf {h : HeadId} (held : (v.slots k).holder = some (.head h)) : ∃ c, (g h).mount = some ⟨k, c⟩ :=
    (L.heads.mounted h k).mp held
  cases R with
  | free held => exact ⟨g, .refl, S, held⟩
  | claim l held =>
    have owner : holderOf (v.slots k).state = some l := ((L.slot k).linkHolder l).mp held
    have returned := givenUp_of_holderOf owner
    refine ⟨g, .single (.dropped (.one (.claim (v := v.withHeads g) k l held))), ?_, by rw [setSlot_slots_self, returned]; rfl⟩
    intro j h hj
    by_cases e : j = k
    · subst e; rw [setSlot_slots_self, returned] at hj; cases hj
    · rw [setSlot_slots_other e] at hj; exact S j h hj
  | idle h held phase =>
    obtain ⟨c, mount⟩ := mountOf held
    rw [← S k h held] at phase
    exact absurd ((L.heads.idle h).mpr phase) (by simp [RollView.withHeads, mount])
  | mounted h held phase =>
    obtain ⟨c, mount⟩ := mountOf held
    rw [← S k h held] at phase
    have now : ((v.setSlot k (unheld .awaitTest (v.slots k))).slots k).holder = none := by simp
    exact ⟨Function.update g h .idle, .single (.dismounted (v := v.withHeads g) h ⟨k, c⟩ mount phase),
      S.leave L (.mounted h held (S k h held ▸ phase)) held now, now⟩
  | done h held phase routes =>
    obtain ⟨c, mount⟩ := mountOf held
    have phase' := phase
    rw [← S k h held] at phase
    exact ⟨Function.update g h .idle,
      .single (.routed (v := v.withHeads g) h ⟨k, c⟩ mount phase (routes.withHeads (Function.update g h .idle))),
      S.leave L (.done h held phase' routes) held routes.holder, routes.holder⟩
  | cut h held phase routes =>
    obtain ⟨c, mount⟩ := mountOf held
    have R : Resets k v w := .cut h held phase routes
    rw [← S k h held] at phase
    let u := (v.setSlot k (cutSlot (v.heads h).ripple (v.slots k))).withHeads (Function.update g h ⟨some ⟨k, c⟩, .done, none⟩)
    have ends : RollMove (v.withHeads g) u :=
      .ends (v := v.withHeads g) h ⟨k, c⟩ none _ [] (cutRecord (v.slots k).isProving (v.heads h).ripple) mount phase
        (fun _ => rfl) (testEnd_cut (v.slots k))
    have leaves : RollMove u (w.withHeads (Function.update g h .idle)) := by
      refine .routed h ⟨k, c⟩ (by simp [u, RollView.withHeads]) (by simp [u, RollView.withHeads]) ?_
      have r := routes.withHeads (Function.update g h .idle)
      have same : u.setHead h .idle =
          (v.setSlot k (cutSlot (v.heads h).ripple (v.slots k))).withHeads (Function.update g h .idle) := by
        simp [u, RollView.withHeads, RollView.setHead]
      rwa [same]
    exact ⟨Function.update g h .idle, (Relation.ReflTransGen.single ends).tail leaves, S.leave L R held routes.holder, routes.holder⟩

namespace Lawful

theorem moves {v w : RollView} (L : Lawful v) (M : Relation.ReflTransGen RollMove v w) : Lawful w := by
  induction M with
  | refl => exact L
  | tail _ one ih => exact ih.move one

end Lawful

/-- Slots reset one after the other, seen with their heads emptied, are a run of moves after which nobody holds them. -/
theorem ResetsAll.moves {ks : List SlotId} {v w : RollView} {g : HeadId → HeadView} (L : Lawful (v.withHeads g)) (S : Shadows v g)
    (R : ResetsAll ks v w) :
    ∃ g', Relation.ReflTransGen RollMove (v.withHeads g) (w.withHeads g') ∧ (∀ k ∈ ks, (w.slots k).holder = none) ∧
      ∀ k, (v.slots k).holder = none → (w.slots k).holder = none := by
  induction R generalizing g with
  | nil v => exact ⟨g, .refl, by simp, fun _ h => h⟩
  | cons one rest ih =>
    obtain ⟨g1, run, S1, now⟩ := one.moves L S
    obtain ⟨g2, run', later, stays⟩ := ih (L.moves run) S1
    refine ⟨g2, run.trans run', ?_, fun j h => stays j (one.holder_none h)⟩
    simpa using ⟨stays _ now, later⟩

/-- On a lawful roll, what a command does is a run of moves. -/
theorem RollStep.moves {v w : RollView} (L : Lawful v) (R : RollStep v w) : Relation.ReflTransGen RollMove v w := by
  cases R with
  | move M => exact .single M
  | @reset u slots =>
    obtain ⟨g, run, now, -⟩ := slots.moves (g := v.heads) L fun _ _ _ => rfl
    have Lu : Lawful (u.withHeads g) := L.moves run
    refine run.tail ?_
    have noMount (h : HeadId) : (g h).mount = none := by
      cases e : (g h).mount with
      | none => rfl
      | some m =>
        have held : (u.slots m.slot).holder = some (.head h) := (Lu.heads.mounted h m.slot).mpr ⟨m.carrier, e⟩
        rw [now m.slot (mem_allSlots _)] at held
        cases held
    exact .rippled (v := u.withHeads g) _ fun h => ⟨(noMount h).symm, ((Lu.heads.idle h).mp (noMount h)).symm⟩

/-- Settles O15. A step is a run of moves on the roll, each of which keeps its law. -/
theorem stepKeepsRollLaw : Obligations.StepKeepsRollLaw := by
  intro s t R e
  have L := (rollLaw_iff s).mp R
  exact (rollLaw_iff t).mpr (L.moves ((rollStep_step e).moves L))

end Sys2Proof.Roll

namespace Sys2Proof.Roll

open Sys2Proof.Machine Sys2Proof.Safety

/-! ### The verdict's law on the view -/

/-- The phase of the head that holds a slot, if a head holds it. -/
def RollView.holderPhase (v : RollView) (k : SlotId) : Option Phase :=
  match (v.slots k).holder with
  | some (.head h) => some (v.heads h).phase
  | some (.link _) => none
  | none => none

theorem holderPhase_head {v : RollView} {k : SlotId} {h : HeadId} (held : (v.slots k).holder = some (.head h)) :
    v.holderPhase k = some (v.heads h).phase := by
  simp [RollView.holderPhase, held]

theorem holderPhase_off {v : RollView} {k : SlotId} (off : ∀ h, (v.slots k).holder ≠ some (.head h)) : v.holderPhase k = none := by
  unfold RollView.holderPhase
  split
  · exact absurd ‹_› (off _)
  · rfl
  · rfl

/-- The verdict's law, of one slot and the phase of the head that holds it. -/
structure SlotJudged (x : Slot) (p : Option Phase) : Prop where
  clean : x.state = .awaitTest ∨ x.state = .referred → x.worst ≠ .condemn
  stamp : x.state = .awaitStamp ∨ x.state = .stamping → x.worst ≠ .condemn ∧ outcomeOf x = some .pass
  scrap : x.state = .awaitScrap ∨ x.state = .scrapping → x.worst = .condemn
  recorded : ∀ q, p = some q → begun q → x.test.isSome = true
  inTest : ∀ q, p = some q → q ≠ .done → x.worst ≠ .condemn
  done : p = some .done → (x.worst = .condemn ↔ outcomeOf x = some .condemn)
  proving : x.isProving = true → x.worst = .none ∧ (x.state = .awaitTest ∨ x.state = .testing ∨ x.state = .closed)

/-- Every slot is judged. -/
def Judged (v : RollView) : Prop := ∀ k, SlotJudged (v.slots k) (v.holderPhase k)

theorem verdictLaw_iff {s : State} (L : Lawful (view s)) : VerdictLaw s ↔ Judged (view s) := by
  constructor
  · intro V k
    have mountOf {q : Phase} (e : (view s).holderPhase k = some q) :
        ∃ h c, (s.head h).mount = some ⟨k, c⟩ ∧ (s.head h).phase = q := by
      cases held : (s.slot k).holder with
      | none => rw [holderPhase_off (by simp [held])] at e; cases e
      | some w =>
        cases w with
        | link l => rw [holderPhase_off (by simp [held])] at e; cases e
        | head h =>
          rw [holderPhase_head (v := view s) held] at e
          obtain ⟨c, mount⟩ := (L.heads.mounted h k).mp held
          exact ⟨h, c, mount, Option.some.inj e⟩
    refine ⟨V.clean k, V.stamp k, V.scrap k, fun q e b => ?_, fun q e n => ?_, fun e => ?_, V.proving k⟩
    · obtain ⟨h, c, mount, rfl⟩ := mountOf e; exact V.recorded h _ mount b
    · obtain ⟨h, c, mount, rfl⟩ := mountOf e; exact V.inTest h _ mount n
    · obtain ⟨h, c, mount, phase⟩ := mountOf e; exact V.done h _ mount phase
  · intro J
    have phaseOf {h : HeadId} {m : Mount} (mount : (s.head h).mount = some m) :
        (view s).holderPhase m.slot = some (s.head h).phase := holderPhase_head (L.testing_of_mount mount).1
    exact
      { clean := fun k => (J k).clean, stamp := fun k => (J k).stamp, scrap := fun k => (J k).scrap
        recorded := fun h m mount b => (J m.slot).recorded _ (phaseOf mount) b
        inTest := fun h m mount n => (J m.slot).inTest _ (phaseOf mount) n
        done := fun h m mount phase => (J m.slot).done (by rw [phaseOf mount, phase])
        proving := fun k => (J k).proving }

/-! ### Worst severities and outcomes of a slot that changes -/

theorem worse_condemn {a b : Severity} : worse a b = .condemn ↔ a = .condemn ∨ b = .condemn := by
  cases a <;> cases b <;> decide

@[simp] theorem post_isProving (x : Slot) (f : Finding) : (x.post f).isProving = x.isProving := by simp [Slot.isProving]

/-- Findings that are all CONDEMN make the worst severity CONDEMN exactly when there is one, or when it was. -/
theorem posts_worst_condemn {fs : List Finding} (severity : ∀ f ∈ fs, f.severity = .condemn) (x : Slot) :
    (posts fs x).worst = .condemn ↔ x.worst = .condemn ∨ fs ≠ [] := by
  induction fs generalizing x with
  | nil => simp
  | cons f fs ih =>
    rw [posts_cons, ih (fun g hg => severity g (List.mem_cons_of_mem f hg)), post_worst, worse_condemn,
      severity f List.mem_cons_self]
    simp

@[simp] theorem outcomeOf_unheld (st : SlotState) (x : Slot) : outcomeOf (unheld st x) = outcomeOf x := rfl

namespace SlotJudged
variable {x y : Slot} {p : Option Phase} {st : SlotState}

theorem empty : SlotJudged Slot.empty none := by
  constructor <;> simp [Slot.empty, Slot.isProving]

/-- A slot that no head holds is judged by its state, its worst severity and its outcome. -/
theorem off (clean : y.state = .awaitTest ∨ y.state = .referred → y.worst ≠ .condemn)
    (stamp : y.state = .awaitStamp ∨ y.state = .stamping → y.worst ≠ .condemn ∧ outcomeOf y = some .pass)
    (scrap : y.state = .awaitScrap ∨ y.state = .scrapping → y.worst = .condemn)
    (proving : y.isProving = true → y.worst = .none ∧ (y.state = .awaitTest ∨ y.state = .testing ∨ y.state = .closed)) :
    SlotJudged y none :=
  ⟨clean, stamp, scrap, by simp, by simp, by simp, proving⟩

/-- A proving slot takes part in testing alone: in any other open state a slot is ordinary. -/
theorem ordinary (J : SlotJudged x p) (h : x.state ≠ .awaitTest) (h' : x.state ≠ .testing) (h'' : x.state ≠ .closed) :
    x.isProving = false := by
  cases e : x.isProving with
  | false => rfl
  | true => obtain ⟨-, a | a | a⟩ := J.proving e <;> simp_all

/-- A slot below CONDEMN may await its test. -/
theorem awaitTest (below : y.worst ≠ .condemn) (proving : y.isProving = true → y.worst = .none) :
    SlotJudged (unheld .awaitTest y) none :=
  off (by simpa using below) (by simp) (by simp) fun h => ⟨proving h, by simp⟩

/-- An ordinary slot below CONDEMN may be REFERRED. -/
theorem referred (below : y.worst ≠ .condemn) (kind : y.isProving = false) : SlotJudged (unheld .referred y) none :=
  off (by simpa using below) (by simp) (by simp) (by simp [kind])

/-- An ordinary slot at CONDEMN may await its scrapping. -/
theorem awaitScrap (worst : y.worst = .condemn) (kind : y.isProving = false) : SlotJudged (unheld .awaitScrap y) none :=
  off (by simp) (by simp) (by simpa using worst) (by simp [kind])

/-- An ordinary PASS below CONDEMN may await its stamp. -/
theorem awaitStamp (below : y.worst ≠ .condemn) (outcome : outcomeOf y = some .pass) (kind : y.isProving = false) :
    SlotJudged (unheld .awaitStamp y) none :=
  off (by simp) (by simpa using ⟨below, outcome⟩) (by simp) (by simp [kind])

/-- A slot that closes is judged by its worst severity alone. -/
theorem closed (o : ClosingOutcome) (r : Option ClosingRecord) (proving : y.isProving = true → y.worst = .none) :
    SlotJudged (closed o r y) none :=
  off (by simp [Roll.closed]) (by simp [Roll.closed]) (by simp [Roll.closed]) fun h => ⟨proving h, by simp [Roll.closed]⟩

end SlotJudged

/-! ### Every move keeps the verdict's law -/

/-- One slot changes, the others stand or are freed, and the heads that hold others keep their phases. -/
theorem Judged.change {v w : RollView} (J : Judged v) (k : SlotId)
    (others : ∀ j, j ≠ k → w.slots j = v.slots j ∨ w.slots j = Slot.empty)
    (phases : ∀ j h, j ≠ k → (v.slots j).holder = some (.head h) → (w.heads h).phase = (v.heads h).phase)
    (now : SlotJudged (w.slots k) (w.holderPhase k)) : Judged w := by
  intro j
  by_cases e : j = k
  · exact e ▸ now
  obtain same | freed := others j e
  · have phase : w.holderPhase j = v.holderPhase j := by
      unfold RollView.holderPhase
      rw [same]
      split
      · rw [phases j _ e ‹_›]
      · rfl
      · rfl
    rw [same, phase]
    exact J j
  · rw [holderPhase_off (by simp [freed, Slot.empty]), freed]
    exact .empty

/-- One slot that no head holds afterwards changes, and no head. -/
theorem Judged.setSlot {v : RollView} {k : SlotId} {y : Slot} (J : Judged v) (off : ∀ h, y.holder ≠ some (.head h))
    (now : SlotJudged y none) : Judged (v.setSlot k y) := by
  refine J.change k (fun j e => .inl (setSlot_slots_other e)) (fun _ _ _ _ => rfl) ?_
  rw [holderPhase_off (by simpa using off), setSlot_slots_self]
  exact now

/-- The queues take no part. -/
theorem Judged.refer {v : RollView} {k : SlotId} (J : Judged v) : Judged (v.refer k) := J
theorem Judged.unrefer {v : RollView} {k : SlotId} (J : Judged v) : Judged (v.unrefer k) := J

/-- Slots freed are judged. -/
theorem Judged.frees {v w : RollView} (J : Judged v) (F : Frees v w) : Judged w := by
  intro k
  have phase : w.slots k = v.slots k → w.holderPhase k = v.holderPhase k := fun e => by
    simp only [RollView.holderPhase, e, F.heads]
  obtain e | ⟨-, e⟩ := F.slot k
  · rw [phase e, e]; exact J k
  · rw [holderPhase_off (by simp [e, Slot.empty]), e]; exact .empty

/-- One slot changes with the head that holds it. -/
theorem Judged.setHeadSlot {v : RollView} {h : HeadId} {k : SlotId} {y : Slot} {q : HeadView} (J : Judged v)
    (unique : ∀ j, j ≠ k → (v.slots j).holder ≠ some (.head h))
    (now : SlotJudged y (((v.setHead h q).setSlot k y).holderPhase k)) : Judged ((v.setHead h q).setSlot k y) := by
  refine J.change k (fun j e => .inl (setSlot_slots_other e)) (fun j f e held => ?_) (by rw [setSlot_slots_self]; exact now)
  have ef : f ≠ h := fun ef => unique j e (ef ▸ held)
  show (Function.update v.heads h q f).phase = _
  rw [Function.update_of_ne ef]

/-- One slot changes with the head that holds it still. -/
theorem Judged.setHeld {v : RollView} {h : HeadId} {k : SlotId} {y : Slot} {q : HeadView} (J : Judged v)
    (unique : ∀ j, j ≠ k → (v.slots j).holder ≠ some (.head h)) (held : y.holder = some (.head h))
    (now : SlotJudged y (some q.phase)) : Judged ((v.setHead h q).setSlot k y) := by
  refine J.setHeadSlot unique ?_
  rw [holderPhase_head (h := h) (by simpa using held)]
  simpa [RollView.setHead, RollView.setSlot] using now

/-- One slot leaves the head that held it. -/
theorem Judged.setLeft {v : RollView} {h : HeadId} {k : SlotId} {y : Slot} {q : HeadView} (J : Judged v)
    (unique : ∀ j, j ≠ k → (v.slots j).holder ≠ some (.head h)) (left : y.holder = none) (now : SlotJudged y none) :
    Judged ((v.setHead h q).setSlot k y) := by
  refine J.setHeadSlot unique ?_
  rwa [holderPhase_off (by simp [left])]

namespace Lawful
variable {v : RollView} {h : HeadId} {k : SlotId}

/-- A head holds one slot at most. -/
theorem unique_of_mount (L : Lawful v) {m : Mount} (mount : (v.heads h).mount = some m) (j : SlotId) (e : j ≠ m.slot) :
    (v.slots j).holder ≠ some (.head h) := by
  intro held
  obtain ⟨c, mount'⟩ := (L.heads.mounted h j).mp held
  rw [mount] at mount'
  exact e (congrArg Mount.slot (Option.some.inj mount')).symm

/-- An IDLE head holds no slot. -/
theorem none_of_idle (L : Lawful v) (idle : (v.heads h).phase = .idle) (j : SlotId) : (v.slots j).holder ≠ some (.head h) := by
  intro held
  obtain ⟨c, mount⟩ := (L.heads.mounted h j).mp held
  rw [(L.heads.idle h).mpr idle] at mount
  cases mount

end Lawful

/-- A test in flight has begun, and is not DONE. -/
theorem begun_of_inFlight {p : Phase} (h : p.inFlight = true) : begun p ∧ p ≠ .done := by
  cases p <;> simp_all [begun, Phase.inFlight]

namespace Judged
variable {v w : RollView} {k : SlotId} {h : HeadId}

theorem givesUp (J : Judged v) (L : Lawful v) (G : GivesUp v w) : Judged w := by
  obtain ⟨k, l, held⟩ := G
  have owner := ((L.slot k).linkHolder l).mp held
  have Jk := J k
  rw [givenUp_of_holderOf owner]
  refine J.setSlot (by simp) (SlotJudged.off ?_ ?_ ?_ ?_) <;> rw [unheld_state]
  · obtain ⟨e, -⟩ | ⟨e, -⟩ | ⟨e, -⟩ := held_cases owner <;> simp [e, SlotState.returned]
  · intro st
    obtain ⟨e, -⟩ | ⟨e, -⟩ | ⟨e, -⟩ := held_cases owner
    · simp [e, SlotState.returned] at st
    · exact Jk.stamp (.inr e)
    · simp [e, SlotState.returned] at st
  · intro st
    obtain ⟨e, -⟩ | ⟨e, -⟩ | ⟨e, -⟩ := held_cases owner
    · simp [e, SlotState.returned] at st
    · simp [e, SlotState.returned] at st
    · exact Jk.scrap (.inr e)
  · intro kind
    have := Jk.ordinary (by rintro e; simp [e, holderOf] at owner) (by rintro e; simp [e, holderOf] at owner)
      (by rintro e; simp [e, holderOf] at owner)
    simp [this] at kind

theorem drops (J : Judged v) (L : Lawful v) (D : Drops v w) : Judged w := by
  induction D with
  | refl => exact J
  | tail before one ih => exact ih.givesUp (L.drops before) one

/-- A slot of L1 is ordinary, and INSPECTING. -/
theorem inspecting (J : Judged v) (L : Lawful v) (held : (v.slots k).holder = some (.link .L1)) :
    (v.slots k).state = .inspecting ∧ (v.slots k).isProving = false := by
  have owner := ((L.slot k).linkHolder .L1).mp held
  have state : (v.slots k).state = .inspecting := by simpa using held_cases owner
  exact ⟨state, (J k).ordinary (by simp [state]) (by simp [state]) (by simp [state])⟩

theorem inspected (J : Judged v) {y : Slot} (kind : y.isProving = false) : Judged (v.inspected k y) := by
  unfold RollView.inspected
  cases e : y.worst with
  | none => exact J.setSlot (by simp) (.awaitTest (by simp [e]) (by simp [kind]))
  | note => exact J.setSlot (by simp) (.awaitTest (by simp [e]) (by simp [kind]))
  | refer => exact (J.setSlot (by simp) (.referred (by simp [e]) kind)).refer
  | condemn => exact J.setSlot (by simp) (.awaitScrap e kind)

/-- A slot whose test is DONE is routed as its worst severity and outcome agree. -/
theorem routes (J : Judged v) (L : Lawful v) {m : Mount} (mount : (v.heads h).mount = some m) (phase : (v.heads h).phase = .done)
    (R : Routes m.slot (v.setHead h .idle) w) : Judged w := by
  have held := (L.testing_of_mount mount).1
  have Jm := J m.slot
  rw [holderPhase_head held, phase] at Jm
  have unique := L.unique_of_mount mount
  have leave {y : Slot} (left : y.holder = none) (now : SlotJudged y none) : Judged ((v.setHead h .idle).setSlot m.slot y) :=
    J.setLeft unique left now
  cases R with
  | proving r kind made frees =>
    refine Judged.frees ?_ frees
    exact leave rfl (.closed .proving r fun k => (Jm.proving k).1)
  | ordinary kind =>
    have kind : (v.slots m.slot).isProving = false := kind
    obtain ⟨o, e⟩ | ⟨o, e⟩ | ⟨o, -, e⟩ | ⟨-, o, -, e⟩ := (v.setHead h .idle).routeOrdinary_cases m.slot <;>
      rw [setHead_slots] at o e <;> rw [e]
    · exact leave rfl (.awaitStamp (fun c => by simp [(Jm.done rfl).mp c] at o) o kind)
    · exact leave rfl (.awaitScrap ((Jm.done rfl).mpr o) kind)
    · refine (leave rfl (.referred (fun c => ?_) (by simpa using kind))).refer
      rw [post_worst, worse_condemn, or_iff_left (by simp)] at c
      simp [(Jm.done rfl).mp c] at o
    · exact leave rfl (.awaitTest (fun c => o ((Jm.done rfl).mp c)) fun k => (Jm.proving k).1)

/-- Every move on a lawful roll keeps the verdict's law. -/
theorem move (J : Judged v) (L : Lawful v) (M : RollMove v w) : Judged w := by
  cases M with
  | same => exact J
  | rippled q agree =>
    intro k
    have phase : RollView.holderPhase { v with heads := q } k = v.holderPhase k := by
      simp only [RollView.holderPhase, (agree _).2]
    rw [phase]
    exact J k
  | typed i e unlocked written => exact J
  | admitted c k i x t vacant unbound new loaded revision kind serial =>
    refine J.setSlot (k := k) (by simp [new.holder]) (.off (by simp [new.worst]) ?_ ?_ ?_)
    · intro st; rw [new.state] at st; split_ifs at st <;> simp at st
    · intro st; rw [new.state] at st; split_ifs at st <;> simp at st
    · intro h
      have proving : i.proving = true := by simpa [Slot.isProving, new.ident] using h
      exact ⟨new.worst, .inl (by rw [new.state, if_pos proving])⟩
  | claimed k l st stamp vacant owner state =>
    have Jk := J k
    refine J.setSlot (by simp) (.off ?_ ?_ ?_ ?_)
    · rintro (rfl | rfl) <;> simp [holderOf] at owner
    · rintro (rfl | rfl)
      · simp [holderOf] at owner
      · exact Jk.stamp (.inl state)
    · rintro (rfl | rfl)
      · simp [holderOf] at owner
      · exact Jk.scrap (.inl state)
    · intro kind
      have claimable : st.returned ≠ .awaitTest ∧ st.returned ≠ .testing ∧ st.returned ≠ .closed := by
        obtain ⟨rfl, -⟩ | ⟨rfl, -⟩ | ⟨rfl, -⟩ := held_cases owner <;> decide
      rw [← state] at claimable
      obtain ⟨notWaiting, notTesting, notClosed⟩ := claimable
      have := Jk.ordinary notWaiting notTesting notClosed
      rw [← Bool.not_eq_true] at this
      exact absurd kind this
  | dropped D => exact J.drops L D
  | noted k y held N =>
    obtain ⟨state, kind⟩ := J.inspecting L held
    obtain ⟨same, -, ident, -, holder⟩ := N.keeps
    have state' : y.state = .inspecting := same.trans state
    have kind' : y.isProving = false := by rw [← kind]; simp only [Slot.isProving, ident]
    exact J.setSlot (by simp [holder, held]) (.off (by simp [state']) (by simp [state']) (by simp [state']) (by simp [kind']))
  | inspected k y held age =>
    obtain ⟨-, kind⟩ := J.inspecting L held
    obtain rfl | ⟨f, rfl⟩ := age
    · exact J.inspected kind
    · exact J.inspected (by simpa using kind)
  | mounted h k c bound vacant state idle =>
    have Jk := J k
    refine J.setHeld (fun j _ => L.none_of_idle idle j) rfl ⟨by simp, by simp, by simp, ?_, fun _ _ _ => Jk.clean (.inl state),
      by simp, fun kind => ⟨(Jk.proving kind).1, by simp⟩⟩
    rintro _ ⟨⟩ ⟨-, notMounted⟩
    exact absurd rfl notMounted
  | begun h m r mount phase allowed fresh =>
    obtain ⟨held, state⟩ := L.testing_of_mount mount
    have Jm := J m.slot
    rw [holderPhase_head held, phase] at Jm
    exact J.setHeld (L.unique_of_mount mount) held ⟨by simp [state], by simp [state], by simp [state], fun _ _ _ => rfl,
      fun _ _ _ => Jm.inTest _ rfl (by simp), by simp, Jm.proving⟩
  | runs h m q f mount phase stays flies outcome =>
    obtain ⟨held, state⟩ := L.testing_of_mount mount
    obtain ⟨begins, notDone⟩ := begun_of_inFlight phase
    have Jm := J m.slot
    rw [holderPhase_head held] at Jm
    refine J.setHeld (L.unique_of_mount mount) held ⟨by simp [state], by simp [state], by simp [state], fun _ _ _ => ?_,
      fun _ _ _ => Jm.inTest _ rfl notDone, fun e => ?_, Jm.proving⟩
    · rw [Option.isSome_map]; exact Jm.recorded _ rfl begins
    · exact absurd (Option.some.inj e) (begun_of_inFlight flies).2
  | ends h m r o fs f mount phase outcome sound =>
    obtain ⟨held, state⟩ := L.testing_of_mount mount
    obtain ⟨begins, notDone⟩ := begun_of_inFlight phase
    have Jm := J m.slot
    rw [holderPhase_head held] at Jm
    obtain ⟨t, test⟩ := Option.isSome_iff_exists.mp (Jm.recorded _ rfl begins)
    have below := Jm.inTest _ rfl notDone
    refine J.setHeld (L.unique_of_mount mount) (by simpa using held) ⟨by simp [state], by simp [state], by simp [state],
      fun _ _ _ => by simp [test], fun q e n => absurd (Option.some.inj e).symm n, fun _ => ?_, fun kind => ?_⟩
    · show (posts fs (v.slots m.slot)).worst = .condemn ↔ _
      rw [posts_worst_condemn sound.severity, or_iff_right below, Ne, sound.agree, not_not]
      simp [outcomeOf, test, outcome]
    · have proving : (v.slots m.slot).isProving = true := (posts_isProving fs _).symm.trans kind
      obtain ⟨worst, -⟩ := Jm.proving proving
      simp [sound.proving proving, worst, state]
  | dismounted h m mount phase =>
    have Jm := J m.slot
    rw [holderPhase_head (L.testing_of_mount mount).1, phase] at Jm
    exact J.setLeft (L.unique_of_mount mount) rfl (.awaitTest (Jm.inTest _ rfl (by simp)) fun kind => (Jm.proving kind).1)
  | routed h m mount phase R => exact J.routes L mount phase R
  | retested k state grants =>
    have kind := (J k).ordinary (by simp [state]) (by simp [state]) (by simp [state])
    exact J.unrefer.setSlot (by simp) (.awaitTest ((J k).clean (.inr state)) fun h => absurd h (by simpa [Slot.isProving] using kind))
  | condemned k f state severity =>
    have kind := (J k).ordinary (by simp [state]) (by simp [state]) (by simp [state])
    exact J.unrefer.setSlot (by simp) (.awaitScrap (by simp [worse_condemn, severity]) (by simpa using kind))
  | closed k o m r C made frees =>
    refine Judged.frees ?_ frees
    have now := SlotJudged.closed (y := { v.slots k with method := m }) o r fun kind => ((J k).proving kind).1
    have set := J.setSlot (k := k) (by simp [Roll.closed]) now
    simpa [RollView.close, RollView.setSlot, Judged, RollView.holderPhase] using set
  | moved F => exact J.frees F
  | restarted => exact fun _ => .empty

theorem moves (J : Judged v) (L : Lawful v) (M : Relation.ReflTransGen RollMove v w) : Judged w := by
  induction M with
  | refl => exact J
  | tail before one ih => exact ih.move (L.moves before) one

end Judged

/-- Settles O16. A step is a run of moves on the roll, each of which keeps the law of each slot and the head that holds
it. -/
theorem stepKeepsVerdictLaw : Obligations.StepKeepsVerdictLaw := by
  intro s t R V e
  have L := (rollLaw_iff s).mp R
  have run := (rollStep_step e).moves L
  exact (verdictLaw_iff (L.moves run)).mpr (((verdictLaw_iff L).mp V).moves L run)

end Sys2Proof.Roll

namespace Sys2Proof.Roll

open Sys2Proof.Machine Sys2Proof.Safety

/-! ### What a command does to one slot, whatever the state -/

/-- What a slot keeps while it is bound or CLOSED: nothing posted is lost, and its cylinder stays the same (R2, R5, R6). -/
structure Kept (x y : Slot) : Prop where
  worst : severityRank x.worst ≤ severityRank y.worst
  findings : x.findings <+: y.findings
  overflow : x.overflow = true → y.overflow = true
  ident : y.ident = x.ident
  made : y.made = x.made
  tare : y.tare = x.tare
  ree : y.ree = x.ree
  weight : x.weight ≠ none → y.weight = x.weight

namespace Kept
variable {x y z : Slot}

/-- A slot whose kept fields are the same. -/
theorem of_eq (worst : y.worst = x.worst) (findings : y.findings = x.findings) (overflow : y.overflow = x.overflow)
    (ident : y.ident = x.ident) (made : y.made = x.made) (tare : y.tare = x.tare) (ree : y.ree = x.ree)
    (weight : y.weight = x.weight) : Kept x y :=
  ⟨by rw [worst], by rw [findings], by rw [overflow]; exact id, ident, made, tare, ree, fun _ => weight⟩

theorem refl (x : Slot) : Kept x x := of_eq rfl rfl rfl rfl rfl rfl rfl rfl

theorem trans (K : Kept x y) (K' : Kept y z) : Kept x z :=
  { worst := K.worst.trans K'.worst, findings := K.findings.trans K'.findings, overflow := K'.overflow ∘ K.overflow
    ident := K'.ident.trans K.ident, made := K'.made.trans K.made, tare := K'.tare.trans K.tare, ree := K'.ree.trans K.ree
    weight := fun w => (K'.weight (by rwa [K.weight w])).trans (K.weight w) }

theorem post (x : Slot) (f : Finding) : Kept x (x.post f) := by
  have worst := (severityRank_worse x.worst f.severity).1
  unfold Slot.post
  split
  · exact ⟨worst, List.prefix_append _ _, id, rfl, rfl, rfl, rfl, fun _ => rfl⟩
  · exact ⟨worst, List.prefix_rfl, fun _ => rfl, rfl, rfl, rfl, rfl, fun _ => rfl⟩

theorem posts (fs : List Finding) (x : Slot) : Kept x (posts fs x) := by
  induction fs generalizing x with
  | nil => exact .refl x
  | cons f fs ih => exact (post x f).trans (ih (x.post f))

theorem unheld (st : SlotState) (x : Slot) : Kept x (unheld st x) := of_eq rfl rfl rfl rfl rfl rfl rfl rfl

theorem closed (o : ClosingOutcome) (r : Option ClosingRecord) (x : Slot) : Kept x (closed o r x) :=
  of_eq rfl rfl rfl rfl rfl rfl rfl rfl

theorem noted (N : Noted x y) : Kept x y := by
  have weighed (w : Weight) (first : x.weight = none) : Kept x { x with weight := some w } :=
    ⟨le_rfl, List.prefix_rfl, id, rfl, rfl, rfl, rfl, fun n => absurd first n⟩
  cases N with
  | finding f => exact .post x f
  | weight w first => exact weighed w first
  | weightFinding w f first => exact (weighed w first).trans (.post _ f)

end Kept

/-- A slot is kept with both its counts. -/
structure Stays (x y : Slot) : Prop where
  kept : Kept x y
  attempts : y.attempts = x.attempts
  grants : y.grants = x.grants

namespace Stays
variable {x y z : Slot}

theorem refl (x : Slot) : Stays x x := ⟨.refl x, rfl, rfl⟩
theorem trans (S : Stays x y) (S' : Stays y z) : Stays x z :=
  ⟨S.kept.trans S'.kept, S'.attempts.trans S.attempts, S'.grants.trans S.grants⟩

theorem posts (fs : List Finding) (x : Slot) : Stays x (posts fs x) := ⟨.posts fs x, posts_attempts fs x, posts_grants fs x⟩
theorem post (f : Finding) (x : Slot) : Stays x (x.post f) := posts [f] x
theorem unheld (st : SlotState) (x : Slot) : Stays x (unheld st x) := ⟨.unheld st x, rfl, rfl⟩
theorem closed (o : ClosingOutcome) (r : Option ClosingRecord) (x : Slot) : Stays x (closed o r x) := ⟨.closed o r x, rfl, rfl⟩

theorem givenUp (x : Slot) : Stays x (givenUp x) := by
  unfold Roll.givenUp
  split_ifs
  · exact .unheld _ x
  · exact .refl x

theorem noted (N : Noted x y) : Stays x y := by
  refine ⟨.noted N, ?_, ?_⟩ <;> cases N <;> simp

end Stays

/-- A slot is kept with both its counts, or is FREE. -/
def StaysOrFree (x y : Slot) : Prop := Stays x y ∨ y = Slot.empty

theorem StaysOrFree.of_same_or_free {x y : Slot} (h : y = x ∨ y = Slot.empty) : StaysOrFree x y := by
  obtain rfl | e := h
  · exact .inl (.refl _)
  · exact .inr e

theorem Frees.stays {v w : RollView} (F : Frees v w) (k : SlotId) : StaysOrFree (v.slots k) (w.slots k) :=
  .of_same_or_free ((F.slot k).imp_right And.right)

theorem StaysOrFree.after {x y z : Slot} (S : Stays x y) (S' : StaysOrFree y z) : StaysOrFree x z := S'.imp_left S.trans

theorem Routes.stays {v w : RollView} {k : SlotId} (R : Routes k v w) : StaysOrFree (v.slots k) (w.slots k) := by
  cases R with
  | proving r kind made frees =>
    have slot : (v.close k .proving r).slots k = closed .proving r (v.slots k) := by simp [RollView.close]
    exact .after (slot ▸ .closed _ _ _) (frees.stays k)
  | ordinary kind =>
    obtain ⟨-, e⟩ | ⟨-, e⟩ | ⟨-, -, e⟩ | ⟨-, -, -, e⟩ := v.routeOrdinary_cases k <;> rw [e] <;> refine .inl ?_
    · rw [setSlot_slots_self]; exact .unheld _ _
    · rw [setSlot_slots_self]; exact .unheld _ _
    · show Stays _ ((v.setSlot k _).slots k)
      rw [setSlot_slots_self]
      exact (Stays.post _ _).trans (.unheld _ _)
    · rw [setSlot_slots_self]; exact .unheld _ _

theorem Drops.stays {v w : RollView} (D : Drops v w) (j : SlotId) : Stays (v.slots j) (w.slots j) := by
  induction D with
  | refl => exact .refl _
  | tail _ one ih =>
    obtain ⟨k, l, held⟩ := one
    by_cases e : j = k
    · subst e
      rw [setSlot_slots_self]
      exact ih.trans (.givenUp _)
    · rwa [setSlot_slots_other e]

/-! ### What a line reset does to one slot -/

theorem Resets.stays {v w : RollView} {k : SlotId} (R : Resets k v w) : StaysOrFree (v.slots k) (w.slots k) := by
  cases R with
  | free => exact .inl (.refl _)
  | idle => exact .inl (.refl _)
  | claim => rw [setSlot_slots_self]; exact .inl (.givenUp _)
  | mounted => rw [setSlot_slots_self]; exact .inl (.unheld _ _)
  | done h held phase routes => exact routes.stays
  | cut h held phase routes =>
    have cut : Stays (v.slots k) (cutSlot (v.heads h).ripple (v.slots k)) := ⟨.of_eq rfl rfl rfl rfl rfl rfl rfl rfl, rfl, rfl⟩
    have routed := routes.stays
    rw [setSlot_slots_self] at routed
    exact .after cut routed

/-- A slot that nobody holds stands as it was, whichever slot is reset, or is FREE. -/
theorem Resets.same_or_free {v w : RollView} {k j : SlotId} (R : Resets k v w) (nobody : (v.slots j).holder = none) :
    w.slots j = v.slots j ∨ w.slots j = Slot.empty := by
  by_cases e : j = k
  · subst e
    cases R with
    | free => exact .inl rfl
    | idle => exact .inl rfl
    | claim l held => rw [held] at nobody; cases nobody
    | mounted h held => rw [held] at nobody; cases nobody
    | done h held => rw [held] at nobody; cases nobody
    | cut h held => rw [held] at nobody; cases nobody
  · exact R.other e

/-- A slot that nobody holds stands as it was after a line reset, or is FREE. -/
theorem ResetsAll.same_or_free {v w : RollView} {ks : List SlotId} {j : SlotId} (R : ResetsAll ks v w)
    (nobody : (v.slots j).holder = none) : w.slots j = v.slots j ∨ w.slots j = Slot.empty := by
  induction R with
  | nil => exact .inl rfl
  | cons one rest ih =>
    have next := ih (one.holder_none nobody)
    obtain e | e := one.same_or_free nobody
    · rwa [e] at next
    · rw [e, or_self] at next; exact .inr next

theorem ResetsAll.stays {v w : RollView} {ks : List SlotId} (R : ResetsAll ks v w) (j : SlotId) :
    StaysOrFree (v.slots j) (w.slots j) := by
  induction R with
  | nil => exact .inl (.refl _)
  | @cons k ks v u w one rest ih =>
    have first : StaysOrFree (v.slots j) (u.slots j) := by
      by_cases e : j = k
      · subst e; exact one.stays
      · exact .of_same_or_free (one.other e)
    obtain S | e := first
    · exact .after S ih
    · have rest := rest.same_or_free (j := j) (by rw [e]; rfl)
      rw [e, or_self] at rest
      exact .inr rest

/-! ### What a move does to one slot -/

/-- What one command does to one slot: it stays or is freed, begins an attempt that is allowed, is granted one more, or
was FREE and takes a cylinder. -/
inductive SlotChange (x y : Slot) : Prop
  | stays (S : StaysOrFree x y)
  | begun (K : Kept x y) (attempts : y.attempts = x.attempts + 1) (grants : y.grants = x.grants)
      (allowed : x.attempts < 2 + x.grants)
  | granted (K : Kept x y) (attempts : y.attempts = x.attempts) (grants : y.grants = x.grants + 1) (below : x.grants ≠ 253)
  | admitted (vacant : x.state = .free) (attempts : y.attempts = 0) (grants : y.grants = 0)

namespace SlotChange
variable {v w : RollView} {k : SlotId} {x y : Slot}

theorem kept (S : Stays x y) : SlotChange x y := .stays (.inl S)
theorem refl (x : Slot) : SlotChange x x := .kept (.refl x)

/-- Slots of which one is written. -/
theorem update (C : SlotChange (v.slots k) y) (written : w.slots = Function.update v.slots k y) (j : SlotId) :
    SlotChange (v.slots j) (w.slots j) := by
  rw [written]
  by_cases e : j = k
  · subst e; rwa [Function.update_self]
  · rw [Function.update_of_ne e]; exact .refl _

theorem inspected (S : Stays (v.slots k) y) (j : SlotId) : SlotChange (v.slots j) ((v.inspected k y).slots j) := by
  have moved (st : SlotState) : SlotChange (v.slots k) (unheld st y) := .kept (S.trans (.unheld st y))
  unfold RollView.inspected
  cases y.worst <;> exact (moved _).update rfl j

/-- A closed slot is set aside, and then slots are freed. -/
theorem closed {o : ClosingOutcome} {r : Option ClosingRecord} {m : Option ScrapMethod}
    (F : Frees ((v.setSlot k { v.slots k with method := m }).close k o r) w) (j : SlotId) :
    SlotChange (v.slots j) (w.slots j) := by
  refine .stays (.after ?_ (F.stays j))
  by_cases e : j = k
  · subst e
    have slot : ((v.setSlot j { v.slots j with method := m }).close j o r).slots j =
        Roll.closed o r { v.slots j with method := m } := by simp [RollView.close]
    rw [slot]
    exact ⟨.of_eq rfl rfl rfl rfl rfl rfl rfl rfl, rfl, rfl⟩
  · have slot : ((v.setSlot k { v.slots k with method := m }).close k o r).slots j = v.slots j := by simp [RollView.close, e]
    exact slot ▸ .refl _

theorem move (M : RollMove v w) (j : SlotId) : SlotChange (v.slots j) (w.slots j) := by
  cases M with
  | same => exact .refl _
  | rippled q agree => exact .refl _
  | typed i e unlocked written => exact .refl _
  | admitted c k i x t vacant unbound new loaded revision kind serial =>
    exact (SlotChange.admitted vacant new.attempts new.grants).update rfl j
  | claimed k l st stamp vacant owner state =>
    have C : SlotChange (v.slots k) { v.slots k with state := st, holder := some (.link l), stamp := stamp } :=
      .kept ⟨.of_eq rfl rfl rfl rfl rfl rfl rfl rfl, rfl, rfl⟩
    exact C.update rfl j
  | dropped D => exact .kept (D.stays j)
  | noted k y held N => exact (SlotChange.kept (.noted N)).update rfl j
  | inspected k y held age =>
    obtain rfl | ⟨f, rfl⟩ := age
    · exact inspected (.refl _) j
    · exact inspected (.post f _) j
  | mounted h k c bound vacant state idle =>
    have C : SlotChange (v.slots k) { v.slots k with state := .testing, holder := some (.head h) } :=
      .kept ⟨.of_eq rfl rfl rfl rfl rfl rfl rfl rfl, rfl, rfl⟩
    exact C.update rfl j
  | begun h m r mount phase allowed fresh =>
    have C : SlotChange (v.slots m.slot) { v.slots m.slot with attempts := (v.slots m.slot).attempts + 1, test := some r } :=
      .begun (.of_eq rfl rfl rfl rfl rfl rfl rfl rfl) rfl rfl allowed
    exact C.update rfl j
  | runs h m q f mount phase stays flies outcome =>
    have C : SlotChange (v.slots m.slot) { v.slots m.slot with test := (v.slots m.slot).test.map f } :=
      .kept ⟨.of_eq rfl rfl rfl rfl rfl rfl rfl rfl, rfl, rfl⟩
    exact C.update rfl j
  | ends h m r o fs f mount phase outcome sound =>
    have C : SlotChange (v.slots m.slot) { posts fs (v.slots m.slot) with test := (v.slots m.slot).test.map f } :=
      .kept ((Stays.posts fs _).trans ⟨.of_eq rfl rfl rfl rfl rfl rfl rfl rfl, rfl, rfl⟩)
    exact C.update rfl j
  | dismounted h m mount phase => exact (SlotChange.kept (.unheld .awaitTest (v.slots m.slot))).update rfl j
  | routed h m mount phase R =>
    by_cases e : j = m.slot
    · subst e; exact .stays R.stays
    · exact .stays (.of_same_or_free (R.other e))
  | retested k state grants =>
    have C : SlotChange (v.slots k) (unheld .awaitTest { v.slots k with grants := (v.slots k).grants + 1 }) :=
      .granted (.of_eq rfl rfl rfl rfl rfl rfl rfl rfl) rfl rfl grants
    exact C.update rfl j
  | condemned k f state severity =>
    exact (SlotChange.kept ((Stays.post f (v.slots k)).trans (.unheld .awaitScrap _))).update rfl j
  | closed k o m r C made frees => exact closed frees j
  | moved F => exact .stays (F.stays j)
  | restarted => exact .stays (.inr rfl)

/-- What a step does to each slot (R2, R5, R6). -/
theorem step (T : RollStep v w) (j : SlotId) : SlotChange (v.slots j) (w.slots j) := by
  cases T with
  | move M => exact move M j
  | reset slots => exact .stays (slots.stays j)

end SlotChange

/-! ### The allowance and the types -/

/-- The allowance of attempts and the bound of the grants of a slot (R2, R68, R139). -/
def SlotAllowed (x : Slot) : Prop := x.attempts ≤ 2 + x.grants ∧ x.grants ≤ 253

theorem SlotChange.allowed {x y : Slot} (C : SlotChange x y) (A : SlotAllowed x) : SlotAllowed y := by
  obtain ⟨within, granted⟩ := A
  cases C with
  | stays S =>
    obtain S | rfl := S
    · exact ⟨by rw [S.attempts, S.grants]; exact within, by rw [S.grants]; exact granted⟩
    · exact ⟨Nat.zero_le _, Nat.zero_le _⟩
  | begun K a g allowed => exact ⟨by omega, by omega⟩
  | granted K a g below => exact ⟨by omega, by omega⟩
  | admitted vacant a g => exact ⟨by omega, by omega⟩

/-- A LOADED entry that keeps its ranges and the revision of its last load (R26, R27, R28). -/
def EntrySound (e : TypeEntry) : Prop := ∀ t, e.loaded = some t → TypeSound t.fields ∧ t.rev = e.lastRev

theorem Routes.types {v w : RollView} {k : SlotId} (R : Routes k v w) : w.types = v.types := by
  cases R with
  | proving r kind made frees => exact frees.types
  | ordinary kind =>
    obtain ⟨-, e⟩ | ⟨-, e⟩ | ⟨-, -, e⟩ | ⟨-, -, -, e⟩ := v.routeOrdinary_cases k <;> rw [e] <;> rfl

theorem Drops.types {v w : RollView} (D : Drops v w) : w.types = v.types := by
  induction D with
  | refl => rfl
  | tail _ one ih => obtain ⟨k, l, held⟩ := one; exact ih

theorem ResetsAll.types {v w : RollView} {ks : List SlotId} (R : ResetsAll ks v w) : w.types = v.types := by
  induction R with
  | nil => rfl
  | cons one rest ih =>
    rw [ih]
    cases one with
    | done h held phase routes => exact routes.types
    | cut h held phase routes => exact routes.types
    | _ => rfl

/-- A step leaves every type entry as it was, or LOAD_TYPE or DROP_TYPE writes one. -/
theorem RollStep.types {v w : RollView} (T : RollStep v w) :
    w.types = v.types ∨ ∃ i e, w.types = Function.update v.types i e ∧ EntrySound e := by
  cases T with
  | reset slots => exact .inl slots.types
  | move M =>
    cases M with
    | typed i e unlocked written =>
      refine .inr ⟨i, e, rfl, ?_⟩
      rintro t loaded
      obtain none | ⟨f, r, sound, rfl⟩ := written
      · rw [none] at loaded; cases loaded
      · obtain rfl := Option.some.inj loaded
        exact ⟨sound, rfl⟩
    | dropped D => exact .inl D.types
    | inspected k y => refine .inl ?_; unfold RollView.inspected; cases y.worst <;> rfl
    | routed h m mount phase R => exact .inl R.types
    | closed k o m r C made frees => exact .inl frees.types
    | moved F => exact .inl F.types
    | _ => exact .inl rfl

/-- Settles O18: what a step does to each slot keeps the allowance, and only LOAD_TYPE and DROP_TYPE write an entry. -/
theorem stepKeepsAllowanceAndTypesLaws : Obligations.StepKeepsAllowanceAndTypesLaws := by
  refine ⟨fun s t allowed st k => (SlotChange.step (rollStep_step st) k).allowed (allowed k), fun s t sound st => ?_⟩
  show ∀ i, EntrySound ((view t).types i)
  obtain same | ⟨i, e, written, entry⟩ := (rollStep_step st).types
  · rw [same]; exact sound
  · intro j
    rw [written]
    by_cases h : j = i
    · subst h; rwa [Function.update_self]
    · rw [Function.update_of_ne h]; exact sound j

/-! ### What a bound or CLOSED slot keeps -/

theorem Drops.same {v w : RollView} {k : SlotId} (D : Drops v w) (nobody : (v.slots k).holder = none) : w.slots k = v.slots k := by
  induction D with
  | refl => rfl
  | tail _ one ih =>
    obtain ⟨j, l, held⟩ := one
    have other : k ≠ j := by rintro rfl; rw [ih, nobody] at held; cases held
    rw [setSlot_slots_other other, ih]

/-- A CLOSED slot of a lawful roll stands as it was through a move, or is FREE: a move writes a slot that is FREE, held,
or open. -/
theorem RollMove.closed_stands {v w : RollView} {k : SlotId} (M : RollMove v w) (L : Lawful v) (shut : (v.slots k).state = .closed) :
    w.slots k = v.slots k ∨ w.slots k = Slot.empty := by
  have nobody : (v.slots k).holder = none := (L.slot k).holder_of_not_open (by rw [shut]; rfl)
  have update {j : SlotId} {y : Slot} (written : w.slots = Function.update v.slots j y) (other : j ≠ k) :
      w.slots k = v.slots k ∨ w.slots k = Slot.empty := by rw [written, Function.update_of_ne other.symm]; exact .inl rfl
  have ofState {j : SlotId} {st : SlotState} (state : (v.slots j).state = st) (notClosed : st ≠ .closed) : j ≠ k := by
    rintro rfl; exact notClosed (state ▸ shut)
  have ofHolder {j : SlotId} {o : Holder} (held : (v.slots j).holder = some o) : j ≠ k := by
    rintro rfl; rw [nobody] at held; cases held
  have ofMount {h : HeadId} {m : Mount} (mount : (v.heads h).mount = some m) : m.slot ≠ k :=
    ofHolder ((L.heads.mounted h m.slot).mpr ⟨m.carrier, mount⟩)
  cases M with
  | same => exact .inl rfl
  | rippled q agree => exact .inl rfl
  | typed i e unlocked written => exact .inl rfl
  | admitted c j i x t vacant unbound new loaded revision kind serial => exact update rfl (ofState vacant (by simp))
  | claimed j l st stamp vacant owner state =>
    exact update rfl (ofState state (by obtain ⟨rfl, -⟩ | ⟨rfl, -⟩ | ⟨rfl, -⟩ := held_cases owner <;> decide))
  | dropped D => exact .inl (D.same nobody)
  | noted j y held N => exact update rfl (ofHolder held)
  | inspected j y held age =>
    refine update (j := j) (y := (v.inspected j y).slots j) ?_ (ofHolder held)
    unfold RollView.inspected
    cases y.worst <;> simp [RollView.setSlot, RollView.refer]
  | mounted h j c bound vacant state idle => exact update rfl (ofState state (by simp))
  | begun h m r mount phase allowed fresh => exact update rfl (ofMount mount)
  | runs h m q f mount phase stays flies outcome => exact update rfl (ofMount mount)
  | ends h m r o fs f mount phase outcome sound => exact update rfl (ofMount mount)
  | dismounted h m mount phase => exact update rfl (ofMount mount)
  | routed h m mount phase R => exact R.other (ofMount mount).symm
  | retested j state grants => exact update rfl (ofState state (by simp))
  | condemned j f state severity => exact update rfl (ofState state (by simp))
  | closed j o m r C made frees =>
    have other : j ≠ k := by
      cases C with
      | stamped held => exact ofHolder held
      | scrapped held => exact ofHolder held
      | withdrawn unheld below isOpen => rintro rfl; rw [shut] at isOpen; cases isOpen
    have same : ((v.setSlot j { v.slots j with method := m }).close j o r).slots k = v.slots k := by
      simp [RollView.close, other.symm]
    exact same ▸ (frees.slot k).imp_right And.right
  | moved F => exact (F.slot k).imp_right And.right
  | restarted => exact .inr rfl

/-- A CLOSED slot of a lawful roll stands as it was through a step, or is FREE. -/
theorem RollStep.closed_stands {v w : RollView} {k : SlotId} (T : RollStep v w) (L : Lawful v) (shut : (v.slots k).state = .closed) :
    w.slots k = v.slots k ∨ w.slots k = Slot.empty := by
  cases T with
  | move M => exact M.closed_stands L shut
  | reset slots => exact slots.same_or_free ((L.slot k).holder_of_not_open (by rw [shut]; rfl))

/-- What a slot that is not FREE before or after a step keeps. -/
theorem SlotChange.bound {x y : Slot} (C : SlotChange x y) (was : x.state ≠ .free) (isStill : y.state ≠ .free) :
    Kept x y ∧ x.attempts ≤ y.attempts ∧ x.grants ≤ y.grants := by
  cases C with
  | stays S =>
    obtain S | rfl := S
    · exact ⟨S.kept, S.attempts.ge, S.grants.ge⟩
    · exact absurd rfl isStill
  | begun K a g allowed => exact ⟨K, by omega, by omega⟩
  | granted K a g below => exact ⟨K, by omega, by omega⟩
  | admitted vacant a g => exact absurd vacant was

/-- Settles O22: no step takes anything of a bound slot back, and none touches a CLOSED slot but to free it. -/
theorem findingsCountsAndClosedSlotsAreKept : Obligations.FindingsCountsAndClosedSlotsAreKept := by
  refine ⟨fun c s t k was e isStill => ?_, fun c s t k law shut e => (rollStep_exec e).closed_stands ((rollLaw_iff s).mp law) shut⟩
  obtain ⟨K, attempts, grants⟩ := (SlotChange.step (rollStep_exec e) k).bound was isStill
  exact ⟨K.worst, K.findings, K.overflow, attempts, grants, K.ident, K.made, K.tare, K.ree, K.weight⟩

end Sys2Proof.Roll

namespace Sys2Proof.Roll

open Sys2Proof.Machine Sys2Proof.Safety Sys2Proof.Laws

/-! ### The carrier index, and requests on a carrier that is not bound -/

/-- The slot that a carrier is bound to is the one that the index holds at its place (R7). -/
theorem bound_eq_some (s : State) (c : Nat) (k : SlotId) :
    s.bound c = some k ↔ ∃ i : Fin 255, i.val + 1 = c ∧ s.index[i] = some k := by
  simp only [State.bound, Option.bind_eq_some_iff, carrierPlace_eq_some, eq_comm (a := c)]

/-- Carrier 0 is bound to no slot (R7). -/
theorem bound_zero (s : State) : s.bound 0 = none := by
  cases e : s.bound 0 with
  | none => rfl
  | some k =>
    obtain ⟨i, place, -⟩ := (bound_eq_some s 0 k).mp e
    omega

section
variable {s : State} {l : LinkId} {c : Nat}

/-- A request whose block resolves an unbound carrier is refused NO_CARRIER (R8). -/
theorem request_noCarrier {α : Type} (r : Request) (a : α) (take : α → State → State × Reply) (h : CanTake s l)
    (adm : admits l r = true) (unbound : s.bound c = none) {cont : SlotId → State × Reply}
    (resolves : take a (heard s l) = onCarrier c (heard s l) cont) :
    request l r (.fields a) take s = .next (refusedWith s l r.code .noCarrier) :=
  request_refused r a take h adm .noCarrier (by rw [resolves, onCarrier_none _ (by rwa [heard_bound])])

/-- MOUNT in a head that there is resolves its carrier first (R65). -/
theorem takeMount_resolves {n : Nat} (some : n < 4) (u : State) : ∃ cont, takeMount ⟨n, c⟩ u = onCarrier c u cont := by
  obtain ⟨h, rfl⟩ : ∃ h, headNumber h = n := by
    interval_cases n
    exacts [⟨.H0, rfl⟩, ⟨.H1, rfl⟩, ⟨.H2, rfl⟩, ⟨.H3, rfl⟩]
  rw [takeMount, onHead_some]
  exact ⟨_, rfl⟩

/-- RELEASE of an unbound carrier, by each link that takes it (R18). -/
theorem release_noCarrier (h : CanTake s l) (adm : admits l .release = true) (unbound : s.bound c = none) :
    exec (.release l (.fields c)) s = .next (refusedWith s l 21 .noCarrier) :=
  request_noCarrier .release c (takeRelease l) h adm unbound rfl

/-- Settles O28: every block that names a carrier resolves it before anything else. -/
theorem unboundCarrierIsRefused : Obligations.UnboundCarrierIsRefused := by
  refine ⟨bound_eq_some, fun s c unbound => ⟨bound_zero s, ?_, ?_, ?_, ?_, ?_, ?_⟩⟩
  · exact fun h => ⟨request_noCarrier .withdraw c takeWithdraw h rfl unbound rfl,
      request_noCarrier .breakClaim c takeBreakClaim h rfl unbound rfl⟩
  · exact fun h => ⟨request_noCarrier .claim c (takeClaim .L1) h rfl unbound rfl,
      fun n v m => request_noCarrier .finding (⟨c, n, v, m⟩ : FindingArgs) (takeFinding .L1) h rfl unbound rfl,
      fun w => request_noCarrier .weigh (⟨c, w⟩ : WeighArgs) (takeWeigh .L1) h rfl unbound rfl,
      request_noCarrier .inspected c (takeInspected .L1) h rfl unbound rfl⟩
  · intro h n inRange
    obtain ⟨cont, resolves⟩ := takeMount_resolves (c := c) inRange (heard s .L2)
    exact request_noCarrier .mount ⟨n, c⟩ takeMount h rfl unbound resolves
  · exact fun h => ⟨request_noCarrier .claimStamp c (takeClaimStamp .L3) h rfl unbound rfl,
      request_noCarrier .stamped c (takeStamped .L3) h rfl unbound rfl⟩
  · exact fun h => ⟨request_noCarrier .claimScrap c (takeClaimScrap .L4) h rfl unbound rfl,
      fun m => request_noCarrier .scrapped (⟨c, m⟩ : ScrappedArgs) (takeScrapped .L4) h rfl unbound rfl⟩
  · rintro l (rfl | rfl | rfl) h
    · exact release_noCarrier h rfl unbound
    · exact release_noCarrier h rfl unbound
    · exact release_noCarrier h rfl unbound

end

/-! ### Claims given up on request -/

/-- A claim given up for inspection (R18). -/
theorem giveUpClaim_inspecting {k : SlotId} {s : State} (h : (s.slot k).state = .inspecting) :
    giveUpClaim k s = s.setSlot k { s.slot k with state := .admitted, holder := none } := by
  unfold giveUpClaim; rw [h]; rfl

/-- A claim given up for stamping: the slot awaits its stamp again, with the notice of its entry (R18). -/
theorem giveUpClaim_stamping {k : SlotId} {s : State} (h : (s.slot k).state = .stamping) :
    giveUpClaim k s = raise .stampReady (s.setSlot k { s.slot k with state := .awaitStamp, holder := none }) := by
  unfold giveUpClaim; rw [h]; rfl

/-- A claim given up for scrapping (R18). -/
theorem giveUpClaim_scrapping {k : SlotId} {s : State} (h : (s.slot k).state = .scrapping) :
    giveUpClaim k s = raise .scrapReady (s.setSlot k { s.slot k with state := .awaitScrap, holder := none }) := by
  unfold giveUpClaim; rw [h]; rfl

section
variable {s : State} {l : LinkId} {c : Nat} {k : SlotId}

/-- RELEASE by a link that does not hold the slot (R17). -/
theorem release_other (h : CanTake s l) (adm : admits l .release = true) (bound : s.bound c = some k)
    (other : (s.slot k).holder ≠ some (.link l)) :
    exec (.release l (.fields c)) s = .next (refusedWith s l 21 .notHolder) :=
  request_refused .release c (takeRelease l) h adm .notHolder (asHolder_other _ bound other)

/-- RELEASE by the link that holds the slot (R18). -/
theorem release_held (h : CanTake s l) (adm : admits l .release = true) (bound : s.bound c = some k)
    (held : (s.slot k).holder = some (.link l)) :
    exec (.release l (.fields c)) s = .next (answered (giveUpClaim k (heard s l)) l 21 .ok []) :=
  request_ok .release c (takeRelease l) [] h adm (asHolder_held _ bound held)

/-- What BREAK_CLAIM does with a bound carrier, by the slot's holder (R143). -/
theorem takeBreakClaim_bound (bound : s.bound c = some k) :
    takeBreakClaim c s =
      match (s.slot k).holder with
      | some (.head _) => (s, refusal .held)
      | none => (s, refusal .state)
      | some (.link l) =>
        (giveUpClaim k s, okWith (u8 k.val ++ u8 (linkNumber l) ++ u8 (slotStateByte (s.slot k).state.returned))) :=
  onCarrier_some _ bound

/-- BREAK_CLAIM of a slot that a link holds (R143). -/
theorem breakClaim_held (h : CanTake s .L0) (bound : s.bound c = some k) (held : (s.slot k).holder = some (.link l)) :
    exec (.breakClaim .L0 (.fields c)) s =
      .next (answered (giveUpClaim k (heard s .L0)) .L0 9 .ok
        (u8 k.val ++ u8 (linkNumber l) ++ u8 (slotStateByte (s.slot k).state.returned))) :=
  request_ok .breakClaim c takeBreakClaim _ h rfl (by rw [takeBreakClaim_bound (s := heard s .L0) (k := k) bound, heard_slot, held])

end

/-- Settles O32: RELEASE and BREAK_CLAIM both give the claim up, and what that does is said once per held state. -/
theorem claimsAreGivenUp : Obligations.ClaimsAreGivenUp := by
  intro s c k bound
  refine ⟨fun l which h => ?_, fun h => ⟨fun free => ?_, fun g held => ?_, fun l held => ?_⟩⟩
  · have adm : admits l .release = true := by obtain rfl | rfl | rfl := which <;> rfl
    refine ⟨release_other h adm bound, fun held => ?_⟩
    rw [release_held h adm bound held]
    refine ⟨fun st => ?_, fun st => ?_, fun st => ?_⟩
    · rw [giveUpClaim_inspecting (by exact st), heard_slot]
    · rw [giveUpClaim_stamping (by exact st), heard_slot]
    · rw [giveUpClaim_scrapping (by exact st), heard_slot]
  · exact request_refused .breakClaim c takeBreakClaim h rfl .state
      (by rw [takeBreakClaim_bound (s := heard s .L0) (k := k) bound, heard_slot, free])
  · exact request_refused .breakClaim c takeBreakClaim h rfl .held
      (by rw [takeBreakClaim_bound (s := heard s .L0) (k := k) bound, heard_slot, held])
  · rw [breakClaim_held h bound held]
    refine ⟨fun st => ?_, fun st => ?_, fun st => ?_⟩
    · rw [giveUpClaim_inspecting (by exact st), heard_slot, st]; rfl
    · rw [giveUpClaim_stamping (by exact st), heard_slot, st]; rfl
    · rw [giveUpClaim_scrapping (by exact st), heard_slot, st]; rfl

end Sys2Proof.Roll

namespace Sys2Proof.Roll

open Sys2Proof.Machine Sys2Proof.Safety Sys2Proof.Laws

/-! ### The answers' items as the obligations send them -/

theorem opt_eq_sentOr {α : Type} (n : Nat) (f : α → List Byte) (x : Option α) : opt n f x = sentOr n f x := by
  cases x <;> rfl

theorem yesNo_eq_sentYes (b : Bool) : yesNo b = sentYes (b = true) := by cases b <;> rfl

theorem severity_eq_sent (v : Severity) : u8 (severityByte v) = sentSeverity v := by cases v <;> rfl

theorem finding_eq_sent (f : Finding) : findingBytes f = sentFinding f := by
  obtain ⟨code, severity, source, value⟩ := f
  have packed : severityByte severity + 4 * sourceByte source + 16 * value.isSome.toNat =
      [Severity.none, .note, .refer, .condemn].idxOf severity + 4 * ([Source.inspection, .unit, .supervisor].idxOf source + 1) +
        (if value = none then 0 else 16) := by
    cases severity <;> cases source <;> cases value <;> rfl
  simp only [findingBytes, sentFinding, packed, opt_eq_sentOr]
  rfl

theorem findings_eq_sent (fs : List Finding) : (fs.map findingBytes).flatten = fs.flatMap sentFinding := by
  rw [← List.flatMap_def, show findingBytes = sentFinding from funext finding_eq_sent]

/-- The finding of a scrap reason is the first stored CONDEMN (R151). -/
theorem reasonFinding_eq (x : Slot) : x.reasonFinding = (x.findings.filter fun f => decide (f.severity = .condemn)).head? := by
  rw [List.head?_filter]; rfl

/-- An item of a slot's type is an item of its LOADED entry. -/
theorem sentOr_typeOfSlot (n : Nat) (f : TypeFields → List Byte) (s : State) (x : Slot) :
    sentOr n f (s.typeOfSlot x) = sentOr n (fun t => f t.fields) (x.ident.bind fun i => (s.typeEntry i.typeIdx).loaded) := by
  unfold State.typeOfSlot
  cases x.ident with
  | none => rfl
  | some i => cases h : (s.typeEntry i.typeIdx).loaded <;> simp [h, sentOr]

/-- Whether a slot's type has a weight-loss limit; no for a slot without a type. -/
theorem yesNo_lossLimit (s : State) (x : Slot) :
    yesNo (((s.typeOfSlot x).map fun t => decide (0 < t.lw)).getD false) =
      sentOr 1 (fun t => sentYes (0 < t.fields.lw)) (x.ident.bind fun i => (s.typeEntry i.typeIdx).loaded) := by
  rw [← sentOr_typeOfSlot 1 (fun t => sentYes (0 < t.lw))]
  cases s.typeOfSlot x with
  | none => rfl
  | some t => by_cases h : 0 < t.lw <;> simp [yesNo, sentOr, sentYes, sent1, u8, h]

theorem claimItems_sent (u : State) (k : SlotId) :
    let x := u.slot k
    claimItems u k =
      sent1 k.val ++ sentOr 16 (fun i => sentText 16 i.serial) x.ident ++ sentOr 1 (fun i => sent1 i.typeIdx.val) x.ident ++
      sentOr 1 (fun i => sent1 i.typeRev) x.ident ++ sentOr 2 sentMonth x.made ++ sentOr 2 sent2 x.tare ++ sentOr 2 sent2 x.ree ++
      sentOr 1 (fun t => sentYes (0 < t.fields.lw)) (x.ident.bind fun i => (u.typeEntry i.typeIdx).loaded) ++
      sentOr 4 (fun w => sent2 w.wm ++ sent2 w.loss) x.weight ++ sent1 x.findings.length ++ x.findings.flatMap sentFinding ++
      sentYes (x.overflow = true) ++ sentSeverity x.worst := by
  simp only [claimItems, yesNo_lossLimit]
  simp only [Slot.serialBytes, Slot.typeBytes, Slot.revBytes, opt_eq_sentOr, yesNo_eq_sentYes, severity_eq_sent, findings_eq_sent]
  rfl

theorem claimScrapItems_sent (u : State) (k : SlotId) :
    let x := u.slot k
    let reason := (x.findings.filter fun f => decide (f.severity = .condemn)).head?
    claimScrapItems u k =
      sent1 k.val ++ sentOr 16 (fun i => sentText 16 i.serial) x.ident ++ sentOr 1 (fun i => sent1 i.typeIdx.val) x.ident ++
      sentOr 8 (fun t => sentText 8 t.fields.name) (x.ident.bind fun i => (u.typeEntry i.typeIdx).loaded) ++
      sent1 ((reason.map Finding.code).getD 209) ++ sentOr 2 sent2 (reason.bind Finding.value) ++ sentSeverity x.worst ++
      sent1 x.findings.length ++ sentYes (x.overflow = true) := by
  simp only [claimScrapItems, Slot.serialBytes, Slot.typeBytes, State.nameBytes, Slot.scrapReason, Slot.reasonValue,
    reasonFinding_eq, opt_eq_sentOr, sentOr_typeOfSlot, yesNo_eq_sentYes, severity_eq_sent]
  rfl

/-! ### A claim request on a bound carrier -/

section
variable {s : State} {l : LinkId} {c : Nat} {k : SlotId} {r : Request} {needed : SlotState}
  {items : State → SlotId → List Byte} {take : Nat → State → State × Reply} {held : SlotId → State × Reply}

/-- The four outcomes of a claim request whose block is `claimCheck` (R16): the sender's own slot as it stands, HELD,
STATE, and the claim taken. -/
theorem request_claimCheck (h : CanTake s l) (adm : admits l r = true) (bound : s.bound c = some k)
    (checks : take c (heard s l) = claimCheck l needed c (heard s l) items held) {t : State}
    (taken : held k = (t, okWith (items t k))) (same : items (heard s l) k = items s k) :
    ((s.slot k).holder = some (.link l) → request l r (.fields c) take s = .next (answered (heard s l) l r.code .ok (items s k))) ∧
    ((s.slot k).holder ≠ none → (s.slot k).holder ≠ some (.link l) →
      request l r (.fields c) take s = .next (refusedWith s l r.code .held)) ∧
    ((s.slot k).holder = none → (s.slot k).state ≠ needed →
      request l r (.fields c) take s = .next (refusedWith s l r.code .state)) ∧
    ((s.slot k).holder = none → (s.slot k).state = needed →
      request l r (.fields c) take s = .next (answered t l r.code .ok (items t k))) := by
  have cases := claimCheck_cases (l := l) (needed := needed) items held (s := heard s l) (k := k) bound
  rw [heard_slot] at cases
  refine ⟨fun own => ?_, fun other notOwn => ?_, fun free state => ?_, fun free state => ?_⟩
  · exact request_ok r c take _ h adm (by rw [checks, cases, if_pos own, same])
  · exact request_refused r c take h adm .held (by rw [checks, cases, if_neg notOwn, if_pos other])
  · exact request_refused r c take h adm .state (by rw [checks, cases, free]; simp [state])
  · exact request_ok r c take _ h adm (by rw [checks, cases, free]; simp [state, taken])

end

/-- Settles O43: both claims are one claim request, and their items are the rules' item by item. -/
theorem claimsAreTaken : Obligations.ClaimsAreTaken := by
  refine ⟨fun u k => ⟨claimItems_sent u k, claimScrapItems_sent u k⟩, fun s c k bound => ⟨fun h => ?_, fun h => ?_⟩⟩
  · exact request_claimCheck (r := .claim) (take := takeClaim .L1) h rfl bound rfl rfl rfl
  · exact request_claimCheck (r := .claimScrap) (take := takeClaimScrap .L4) h rfl bound rfl rfl rfl

/-! ### A power-on -/

/-- What a start puts back: every head and link as the handbook gives it, and everything volatile but the roll (R23). -/
theorem restart_volatile (s : State) :
    s.restart.powered = true ∧ (∀ h, s.restart.head h = Head.initial) ∧ (∀ l, s.restart.link l = Link.initial) ∧
      s.restart.calendar = none ∧ s.restart.manualDate = false ∧ s.restart.snapHeader = none ∧ s.restart.clock = 0 :=
  ⟨rfl, fun h => by cases h <;> rfl, fun l => by cases l <;> rfl, rfl, rfl, rfl, rfl⟩

/-- A power-on that finds both pages EMPTY changes the state of page A alone. -/
theorem fillFirstPage_eq (s : State) :
    fillFirstPage s =
      { s with pageA := if s.pageA.state = .empty ∧ s.pageB.state = .empty then { s.pageA with state := .filling } else s.pageA } := by
  unfold fillFirstPage
  split_ifs <;> rfl

/-- With an empty roll and an empty referral queue neither condition of the roll holds. -/
theorem conditions_of_empty {s : State} (slots : ∀ k, s.slot k = Slot.empty) (referral : s.referral = []) {c : Condition}
    (h : c ≠ .exportBlocked) : c.holds s = false := by
  cases c with
  | referralWaiting => simp [Condition.holds, referral]
  | registerFull =>
    have free : s.lowestFree ≠ none := fun full => (lowestFree_none s).mp full 0 (by rw [slots]; rfl)
    simp [Condition.holds, Option.isNone_eq_false_iff, Option.isSome_iff_ne_none, free]
  | exportBlocked => exact absurd rfl h

/-- Settles O4: a start puts every volatile item back, and the page is all that the power-on itself writes. -/
theorem powerOnStartsTheUnit : Obligations.PowerOnStartsTheUnit := by
  intro s
  obtain ⟨powered, heads, links, calendar, manual, snap, clock⟩ := restart_volatile s
  have roll := view_restart s
  have slots (k : SlotId) : s.restart.slot k = Slot.empty := congrFun (congrArg RollView.slots roll) k
  have index (i : Fin 255) : s.restart.index[i] = none := congrFun (congrArg RollView.index roll) i
  have referral : s.restart.referral = [] := congrArg RollView.referral roll
  have closing : s.restart.closingQueue = [] := congrArg RollView.closing roll
  refine ⟨fillFirstPage s.restart, rfl, ?_⟩
  rw [fillFirstPage_eq]
  refine ⟨powered, slots, index, referral, closing, fun c h => ?_, heads, links, calendar, manual,
    snap, clock, rfl, rfl, rfl, rfl, rfl, rfl, rfl, rfl⟩
  exact conditions_of_empty (by exact slots) (by exact referral) h

end Sys2Proof.Roll

namespace Sys2Proof.Roll

open Sys2Proof.Machine Sys2Proof.Safety

/-! ### What notices and reports do to the links -/

/-- An operation that changes one link by what it held, folded over links without repetition, changes each of them so. -/
theorem link_foldl {f : State → LinkId → State} {g : LinkId → Link → Link}
    (one : ∀ s l m, (f s l).link m = if m = l then g m (s.link m) else s.link m) {ls : List LinkId} (once : ls.Nodup) (s : State)
    (m : LinkId) : (ls.foldl f s).link m = if m ∈ ls then g m (s.link m) else s.link m := by
  induction ls generalizing s with
  | nil => rfl
  | cons l ls ih =>
    obtain ⟨new, once⟩ := List.nodup_cons.mp once
    rw [List.foldl_cons, ih once, one]
    by_cases e : m = l
    · subst e; simp [new]
    · simp [e]

theorem towards_nodup (k : NoticeKind) : (towards k).Nodup := by cases k <;> decide

theorem raiseTo_link_eq (n : Notice) (s : State) (l m : LinkId) :
    (raiseTo n l s).link m = if m = l then noted n (s.link m) else s.link m := by
  rw [raiseTo_link]
  by_cases e : m = l
  · subst e; by_cases h : (s.link m).state = .stopped <;> simp [noted, h]
  · simp [e]

/-- A notice raised reaches the links of its kind (R182). -/
theorem raise_link (n : Notice) (s : State) (m : LinkId) :
    (raise n s).link m = if m ∈ towards n.kind then noted n (s.link m) else s.link m :=
  link_foldl (g := fun _ => noted n) (fun s l m => raiseTo_link_eq n s l m) (towards_nodup _) s m

/-- What the report of a changed condition does to a link that it is directed to: a RISING selection takes a change to
true, a BOTH selection either (R183). -/
def answerTo (c : Condition) (now : Bool) (k : Link) : Link :=
  if now = true ∨ k.edges.getLsbD c.edgeBit = true then noted c.notice k else k

theorem reportTo_link (c : Condition) (now : Bool) (s : State) (l m : LinkId) :
    (reportTo c now l s).link m = if m = l then answerTo c now (s.link m) else s.link m := by
  unfold reportTo answerTo
  by_cases e : m = l
  · subst e
    by_cases h : (now || (s.link m).edges.getLsbD c.edgeBit) = true
    · rw [if_pos h, raiseTo_link_eq, if_pos rfl, if_pos rfl, if_pos (by simpa using h)]
    · rw [if_neg h, if_pos rfl, if_neg (by simpa using h)]
  · rw [if_neg e]
    split_ifs
    · rw [raiseTo_link_eq, if_neg e]
    · rfl

theorem reportOne_link (was s : State) (c : Condition) (m : LinkId) :
    (reportOne was s c).link m = reported c (c.holds was) (c.holds s) m (s.link m) := by
  unfold reportOne reported
  by_cases e : c.holds was = c.holds s
  · simp [e]
  · rw [if_neg e, link_foldl (g := fun _ => answerTo c (c.holds s)) (fun u l m => reportTo_link c (c.holds s) u l m) (towards_nodup _),
      answerTo]
    by_cases h : m ∈ towards c.notice.kind <;> simp [h, e]

/-- A condition that did not change is not reported. -/
@[simp] theorem reported_same (c : Condition) (b : Bool) (l : LinkId) (k : Link) : reported c b b l k = k := by simp [reported]

/-- Whether a slot is FREE is read from the slots alone. -/
theorem lowestFree_congr {s t : State} (h : s.slots = t.slots) : s.lowestFree = t.lowestFree := by
  have slot (k : SlotId) : s.slot k = t.slot k := by simp only [State.slot, h]
  unfold State.lowestFree
  congr 1
  funext k
  rw [slot]

theorem holds_reportOne (was s : State) (c d : Condition) : d.holds (reportOne was s c) = d.holds s := by
  cases d with
  | referralWaiting => simp [Condition.holds]
  | registerFull => rw [Condition.holds, Condition.holds, lowestFree_congr (reportOne_slots was s c)]
  | exportBlocked => simp [Condition.holds, State.fillingPage]

/-- Each changed condition is reported, one after the other (R183). -/
theorem reporting_link (f : State → State) (s : State) (l : LinkId) :
    (reporting f s).link l =
      reported .exportBlocked s.fillingPage.isNone (f s).fillingPage.isNone l
        (reported .registerFull s.lowestFree.isNone (f s).lowestFree.isNone l
          (reported .referralWaiting (!s.referral.isEmpty) (!(f s).referral.isEmpty) l ((f s).link l))) := by
  show ((reportOne s (reportOne s (reportOne s (f s) .referralWaiting) .registerFull) .exportBlocked)).link l = _
  simp only [reportOne_link, holds_reportOne]
  rfl

/-! ### Notices and reports change the links alone -/

/-- A state that differs from another in its links at most. -/
def SameButLinks (s t : State) : Prop := t = { s with links := t.links }

namespace SameButLinks
variable {s t u : State}

theorem refl (s : State) : SameButLinks s s := rfl

theorem trans (h : SameButLinks s t) (g : SameButLinks t u) : SameButLinks s u := by
  unfold SameButLinks at *
  rw [g, h]

theorem foldl {α : Type} {f : State → α → State} (one : ∀ s a, SameButLinks s (f s a)) (xs : List α) (s : State) :
    SameButLinks s (xs.foldl f s) := by
  induction xs generalizing s with
  | nil => exact .refl s
  | cons a xs ih => exact (one s a).trans (ih (f s a))

theorem raiseTo (n : Notice) (l : LinkId) (s : State) : SameButLinks s (raiseTo n l s) := by
  unfold Machine.raiseTo
  split <;> rfl

theorem reportOne (was s : State) (c : Condition) : SameButLinks s (reportOne was s c) := by
  unfold Machine.reportOne
  split
  · rfl
  · refine foldl (fun u l => ?_) _ _
    unfold reportTo
    split
    · exact .raiseTo _ l u
    · rfl

theorem reporting (f : State → State) (s : State) : SameButLinks (f s) (reporting f s) := foldl (.reportOne s) _ (f s)

end SameButLinks

/-! ### A slot set aside -/

/-- The closing record of a slot with an identity, spelled out (R155). -/
theorem closingRecord_eq (s : State) {x : Slot} {i : Identity} (h : x.ident = some i) (o : ClosingOutcome) :
    s.closingRecord x o = some
      { outcome := o, closeDate := s.calendar
        cylinder :=
          { ident := i, typeName := (((s.typeEntry i.typeIdx).loaded.map fun t => t.fields.name)).getD [],
            carrier := x.carrier.getD 0, made := x.made, tare := x.tare, ree := x.ree, weight := x.weight,
            findings := x.findings, overflow := x.overflow, worst := x.worst, attempts := x.attempts, grants := x.grants,
            test := x.test, stamp := x.stamp, method := x.method }
        scrapReason :=
          if o = .scrapped then
            some (((x.findings.filter fun f => decide (f.severity = .condemn)).head?.map Finding.code).getD 209)
          else none
        provingResult :=
          if o = .proving then
            x.test.map fun t => ⟨decide (t.outcome = some .proved), t.head, if t.outcome = some .proved then some t.pa else none⟩
          else none } := by
  have proving : provingResult x =
      x.test.map fun t => ⟨decide (t.outcome = some .proved), t.head, if t.outcome = some .proved then some t.pa else none⟩ := by
    unfold provingResult
    congr 1
    funext t
    by_cases p : t.outcome = some .proved <;> simp [p]
  have name : ((s.typeOfSlot x).map TypeFields.name).getD [] =
      (((s.typeEntry i.typeIdx).loaded.map fun t => t.fields.name)).getD [] := by
    simp [State.typeOfSlot, h, Function.comp_def]
  simp only [State.closingRecord, State.cylinder, h, Option.map_some, proving, name, Slot.scrapReason, reasonFinding_eq]

/-- Unbinding changes the carrier index alone. -/
theorem unbindOf_keeps (x : Slot) (s : State) : unbindOf x s = { s with index := (unbindOf x s).index } := by
  unfold unbindOf State.unbind
  split
  · split <;> rfl
  · rfl

/-- Leaving the referral queue changes the queue and the links alone. -/
theorem leaveIfReferred_keeps (x : Slot) (k : SlotId) (s : State) :
    leaveIfReferred x k s = { s with referral := (leaveIfReferred x k s).referral, links := (leaveIfReferred x k s).links } := by
  unfold leaveIfReferred
  split
  · have keeps := SameButLinks.reporting (fun s => { s with referral := s.referral.filter fun j => decide (j ≠ k) }) s
    unfold SameButLinks at keeps
    rw [leaveReferral, keeps]
  · rfl

/-- A slot that leaves the referral queue may empty it, and nothing else is reported. -/
theorem leaveIfReferred_link (x : Slot) (k : SlotId) (s : State) (l : LinkId) :
    (leaveIfReferred x k s).link l =
      reported .referralWaiting (!s.referral.isEmpty) (!(leaveIfReferred x k s).referral.isEmpty) l (s.link l) := by
  unfold leaveIfReferred
  split
  · rw [leaveReferral, reporting_link, reporting_referral, lowestFree_congr (t := s) rfl]
    exact (reported_same _ _ l _).trans (reported_same _ _ l _)
  · rw [reported_same]

theorem setAside_keeps (k : SlotId) (o : ClosingOutcome) (s : State) :
    let u := setAside k o s
    u = { s with slots := u.slots, index := u.index, referral := u.referral, closingQueue := u.closingQueue, links := u.links } := by
  simp only [setAside, joinClosing]
  rw [leaveIfReferred_keeps, unbindOf_keeps]
  rfl

theorem setAside_slots (k : SlotId) (o : ClosingOutcome) (s : State) :
    (setAside k o s).slots = (s.setSlot k (closed o (s.closingRecord (s.slot k) o) (s.slot k))).slots := by
  simp only [setAside, joinClosing]
  rw [leaveIfReferred_keeps, unbindOf_keeps]

theorem setAside_link (k : SlotId) (o : ClosingOutcome) (s : State) (l : LinkId) :
    (setAside k o s).link l = reported .referralWaiting (!s.referral.isEmpty) (!(setAside k o s).referral.isEmpty) l (s.link l) := by
  have link := leaveIfReferred_link (s.slot k) k
    (unbindOf (s.slot k) (s.setSlot k (closed o (s.closingRecord (s.slot k) o) (s.slot k)))) l
  rw [unbindOf_keeps] at link
  simp only [setAside, joinClosing]
  rw [unbindOf_keeps]
  exact link

/-- Settles O25: `setAside` is the state before the pages take records, seen part by part. -/
theorem closingSetsTheSlotAside : Obligations.ClosingSetsTheSlotAside := by
  intro k o i s ident
  have seen := view_setAside k o s
  refine ⟨setAside k o s, closeSlot_eq k o s, ?_, ?_, ?_, ?_, setAside_link k o s, setAside_keeps k o s⟩
  · rw [← closingRecord_eq s ident o]
    exact setAside_slots k o s
  · exact fun c => congrFun (congrArg RollView.index seen) c
  · exact congrArg RollView.referral seen
  · exact congrArg RollView.closing seen

end Sys2Proof.Roll

namespace Sys2Proof.Roll

open Sys2Proof.Machine Sys2Proof.Safety

/-! ### What a line reset does to one slot, as a function of the slot and the heads -/

/-- A line reset refers the slot: its ordinary test is INVALID, or becomes so, and its allowance is spent (R12, R24). -/
def Refers (g : HeadId → HeadView) (x : Slot) : Prop :=
  x.isProving = false ∧ 2 + x.grants ≤ x.attempts ∧ ∃ h, x.holder = some (.head h) ∧
    ((g h).phase = .done ∧ outcomeOf x = some .invalid ∨ (g h).phase.inFlight = true ∧ x.test ≠ none)

/-- A line reset closes the slot: a proving slot whose test has begun (R12, R24). -/
def ClosesOn (g : HeadId → HeadView) (x : Slot) : Prop :=
  x.isProving = true ∧ ∃ h, x.holder = some (.head h) ∧ (g h).phase ≠ .mounted

/-- An ordinary slot routed by its outcome (R12). -/
def routedSlot (x : Slot) : Slot :=
  match outcomeOf x with
  | some .pass => unheld .awaitStamp x
  | some .condemn => unheld .awaitScrap x
  | some .invalid =>
    if x.attempts < 2 + x.grants then unheld .awaitTest x
    else unheld .referred (x.post ⟨206, .refer, .unit, some x.attempts⟩)
  | some .proved => unheld .awaitTest x
  | some .notProved => unheld .awaitTest x
  | none => unheld .awaitTest x

section
variable {x : Slot}

theorem routedSlot_pass (o : outcomeOf x = some .pass) : routedSlot x = unheld .awaitStamp x := by simp [routedSlot, o]

theorem routedSlot_condemn (o : outcomeOf x = some .condemn) : routedSlot x = unheld .awaitScrap x := by simp [routedSlot, o]

theorem routedSlot_spent (o : outcomeOf x = some .invalid) (spent : 2 + x.grants ≤ x.attempts) :
    routedSlot x = unheld .referred (x.post ⟨206, .refer, .unit, some x.attempts⟩) := by
  simp [routedSlot, o, Nat.not_lt.mpr spent]

theorem routedSlot_again (notPass : outcomeOf x ≠ some .pass) (notCondemn : outcomeOf x ≠ some .condemn)
    (more : outcomeOf x = some .invalid → x.attempts < 2 + x.grants) : routedSlot x = unheld .awaitTest x := by
  unfold routedSlot
  split
  · exact absurd ‹_› notPass
  · exact absurd ‹_› notCondemn
  · rw [if_pos (more ‹_›)]
  all_goals rfl

end

/-- A slot that a line reset does not close, as it leaves it (R24). -/
def afterReset (g : HeadId → HeadView) (x : Slot) : Slot :=
  match x.holder with
  | none => x
  | some (.link _) => givenUp x
  | some (.head h) =>
    if (g h).phase = .mounted then unheld .awaitTest x
    else if (g h).phase = .done then routedSlot x
    else routedSlot (cutSlot (g h).ripple x)

/-- An ordinary slot routed, with the referral queue that it may join. -/
theorem routeOrdinary_eq (v : RollView) (k : SlotId) :
    (outcomeOf (v.slots k) = some .invalid ∧ 2 + (v.slots k).grants ≤ (v.slots k).attempts ∧
      v.routeOrdinary k = (v.setSlot k (routedSlot (v.slots k))).refer k) ∨
    (¬ (outcomeOf (v.slots k) = some .invalid ∧ 2 + (v.slots k).grants ≤ (v.slots k).attempts) ∧
      v.routeOrdinary k = v.setSlot k (routedSlot (v.slots k))) := by
  obtain ⟨o, e⟩ | ⟨o, e⟩ | ⟨o, spent, e⟩ | ⟨notPass, notCondemn, more, e⟩ := v.routeOrdinary_cases k
  · exact .inr ⟨by simp [o], by rw [e, routedSlot_pass o]⟩
  · exact .inr ⟨by simp [o], by rw [e, routedSlot_condemn o]⟩
  · exact .inl ⟨o, spent, by rw [e, routedSlot_spent o spent]⟩
  · exact .inr ⟨fun ⟨o, spent⟩ => absurd (more o) (Nat.not_lt.mpr spent), by rw [e, routedSlot_again notPass notCondemn more]⟩

/-- What a line reset does to the roll at one slot: the slot stands as `afterReset` gives it, joins the referral queue
too, or is closed. -/
inductive SlotEnds (k : SlotId) (v : RollView) : RollView → Prop
  | stays (noReferral : ¬ Refers v.heads (v.slots k)) (noClosing : ¬ ClosesOn v.heads (v.slots k)) :
      SlotEnds k v (v.setSlot k (afterReset v.heads (v.slots k)))
  | refers (referral : Refers v.heads (v.slots k)) (noClosing : ¬ ClosesOn v.heads (v.slots k)) :
      SlotEnds k v ((v.setSlot k (afterReset v.heads (v.slots k))).refer k)
  | closes {w : RollView} (noReferral : ¬ Refers v.heads (v.slots k)) (closing : ClosesOn v.heads (v.slots k)) (x : Slot)
      (r : Option ClosingRecord) (state : x.state = .testing) (frees : Frees ((v.setSlot k x).close k .proving r) w) :
      SlotEnds k v w

/-- A slot that a line reset cuts short is one that had begun its test. -/
theorem not_mounted_of_inFlight {p : Phase} (fly : p.inFlight = true) : p ≠ .mounted ∧ p ≠ .done := by
  constructor <;> rintro rfl <;> cases fly

/-- Routing a slot whose test stands in `y`, at a head past MOUNTED. -/
theorem SlotEnds.of_routes {v w : RollView} {k : SlotId} {h : HeadId} {y : Slot} (held : (v.slots k).holder = some (.head h))
    (testing : (v.slots k).state = .testing) (begun : (v.heads h).phase ≠ .mounted) (state : y.state = (v.slots k).state)
    (kind : y.isProving = (v.slots k).isProving) (counts : y.attempts = (v.slots k).attempts ∧ y.grants = (v.slots k).grants)
    (after : afterReset v.heads (v.slots k) = routedSlot y)
    (invalid : (v.slots k).isProving = false → (outcomeOf y = some .invalid ↔
      (v.heads h).phase = .done ∧ outcomeOf (v.slots k) = some .invalid ∨
      (v.heads h).phase.inFlight = true ∧ (v.slots k).test ≠ none))
    (R : Routes k (v.setSlot k y) w) : SlotEnds k v w := by
  have head {f : HeadId} (e : (v.slots k).holder = some (.head f)) : f = h := by
    rw [held] at e; exact (Holder.head.inj (Option.some.inj e)).symm
  cases R with
  | proving r proving made frees =>
    rw [setSlot_slots_self, kind] at proving
    refine .closes (fun refers => ?_) ⟨proving, h, held, begun⟩ y r (state.trans testing) frees
    rw [refers.1] at proving
    cases proving
  | ordinary ordinary =>
    rw [setSlot_slots_self, kind] at ordinary
    have noClosing : ¬ ClosesOn v.heads (v.slots k) := fun closing => by rw [closing.1] at ordinary; cases ordinary
    have refers : Refers v.heads (v.slots k) ↔ outcomeOf y = some .invalid ∧ 2 + y.grants ≤ y.attempts := by
      rw [invalid ordinary, counts.1, counts.2]
      constructor
      · rintro ⟨-, spent, f, e, how⟩
        obtain rfl := head e
        exact ⟨how, spent⟩
      · exact fun ⟨how, spent⟩ => ⟨ordinary, spent, h, held, how⟩
    obtain ⟨bad, spent, e⟩ | ⟨not, e⟩ := routeOrdinary_eq (v.setSlot k y) k
    · rw [setSlot_slots_self] at bad spent
      rw [e, setSlot_slots_self, setSlot_setSlot, ← after]
      exact .refers (refers.mpr ⟨bad, spent⟩) noClosing
    · rw [setSlot_slots_self] at not
      rw [e, setSlot_slots_self, setSlot_setSlot, ← after]
      exact .stays (fun r => not (refers.mp r)) noClosing

/-- The outcome of a slot whose ordinary test a line reset cuts short. -/
theorem outcomeOf_cutSlot {x : Slot} (r : Option Ripple) (ordinary : x.isProving = false) :
    outcomeOf (cutSlot r x) = some .invalid ↔ x.test ≠ none := by
  unfold outcomeOf cutSlot
  cases x.test <;> simp [cutRecord, ordinary]

/-- The only outcome of an ordinary test that a line reset cuts short. -/
theorem invalid_of_outcomeOf_cutSlot {x : Slot} {r : Option Ripple} {o : TestOutcome} (ordinary : x.isProving = false)
    (h : outcomeOf (cutSlot r x) = some o) : o = .invalid := by
  unfold outcomeOf cutSlot at h
  cases e : x.test with
  | none => simp [e] at h
  | some t => simpa [e, cutRecord, ordinary, eq_comm] using h

/-- What a held slot must be for a line reset to route it: in a held state of the links, or TESTING at a head that is
not IDLE. -/
structure Routable (g : HeadId → HeadView) (x : Slot) : Prop where
  link : ∀ l, x.holder = some (.link l) → holderOf x.state = some l
  head : ∀ h, x.holder = some (.head h) → x.state = .testing ∧ (g h).phase ≠ .idle

theorem Resets.ends {v w : RollView} {k : SlotId} (R : Resets k v w) (M : Routable v.heads (v.slots k)) : SlotEnds k v w := by
  have stays {y : Slot} (after : afterReset v.heads (v.slots k) = y)
      (notBegun : ∀ h, (v.slots k).holder = some (.head h) → (v.heads h).phase = .mounted) : SlotEnds k v (v.setSlot k y) := by
    rw [← after]
    refine .stays (fun ⟨_, _, h, held, how⟩ => ?_) (fun ⟨_, h, held, begun⟩ => begun (notBegun h held))
    rw [notBegun h held] at how
    simp [Phase.inFlight] at how
  cases R with
  | free nobody =>
    have end_ := stays (y := v.slots k) (by simp [afterReset, nobody]) (by simp [nobody])
    rwa [setSlot_slots_eq] at end_
  | claim l held => exact stays (by simp [afterReset, held]) (by simp [held])
  | idle h held phase => exact absurd phase (M.head h held).2
  | mounted h held phase => exact stays (by simp [afterReset, held, phase]) (by simp [held, phase])
  | done h held phase routes =>
    refine .of_routes (y := v.slots k) held (M.head h held).1 (by simp [phase]) rfl rfl ⟨rfl, rfl⟩ (by simp [afterReset, held, phase])
      (by simp [phase, Phase.inFlight]) (by rwa [setSlot_slots_eq])
  | cut h held fly routes =>
    obtain ⟨begun, notDone⟩ := not_mounted_of_inFlight fly
    refine .of_routes (y := cutSlot (v.heads h).ripple (v.slots k)) held (M.head h held).1 begun rfl rfl ⟨rfl, rfl⟩
      (by simp [afterReset, held, begun, notDone]) (fun ordinary => ?_) routes
    rw [outcomeOf_cutSlot _ ordinary]
    simp [fly, notDone]

end Sys2Proof.Roll

namespace Sys2Proof.Roll

open Sys2Proof.Machine Sys2Proof.Safety

/-! ### One slot of a line reset: its slot, the referral queue, the closing queue -/

/-- A proving slot that has been closed, its record still waiting or already moved. -/
def ProvingClosed (y : Slot) : Prop := (y.state = .closed ∧ y.outcome = some .proving) ∨ y = Slot.empty

namespace SlotEnds
variable {v w : RollView} {k j : SlotId}

/-- The referral queue takes the slot at its tail, or stands. -/
theorem referral (E : SlotEnds k v w) :
    (Refers v.heads (v.slots k) ∧ w.referral = v.referral ++ [k]) ∨ (¬ Refers v.heads (v.slots k) ∧ w.referral = v.referral) := by
  cases E with
  | stays noReferral noClosing => exact .inr ⟨noReferral, rfl⟩
  | refers referral noClosing => exact .inl ⟨referral, rfl⟩
  | closes noReferral closing x r state frees =>
    obtain ⟨moved, rest, q, rfl⟩ := frees
    exact .inr ⟨noReferral, by simp [RollView.free, RollView.close, RollView.setSlot, state]⟩

/-- The closing queue takes the slot at its tail and gives a stretch from its head, whose slots are FREE; or it stands. -/
theorem closing (E : SlotEnds k v w) :
    (ClosesOn v.heads (v.slots k) ∧ ∃ moved, v.closing ++ [k] = moved ++ w.closing ∧ ∀ j ∈ moved, w.slots j = Slot.empty) ∨
      (¬ ClosesOn v.heads (v.slots k) ∧ w.closing = v.closing) := by
  cases E with
  | stays noReferral noClosing => exact .inr ⟨noClosing, rfl⟩
  | refers referral noClosing => exact .inr ⟨noClosing, rfl⟩
  | closes noReferral closing x r state frees =>
    obtain ⟨moved, rest, q, rfl⟩ := frees
    exact .inl ⟨closing, moved, q, fun j m => by simp [RollView.free, m]⟩

/-- A slot that is not waiting to be moved does not wait afterwards, unless it is the one reset and closes. -/
theorem not_mem_closing (E : SlotEnds k v w) (out : j ∉ v.closing) (other : j ≠ k ∨ ¬ ClosesOn v.heads (v.slots k)) :
    j ∉ w.closing := by
  obtain ⟨closes, moved, q, -⟩ | ⟨-, e⟩ := E.closing
  · intro mem
    have all : j ∈ v.closing ++ [k] := by rw [q]; exact List.mem_append_right _ mem
    obtain waiting | rfl := by simpa using all
    · exact out waiting
    · exact other.elim (fun n => n rfl) (fun n => n closes)
  · rwa [e]

/-- Another slot that is not waiting to be moved stands. -/
theorem other (E : SlotEnds k v w) (ne : j ≠ k) (out : j ∉ v.closing) : w.slots j = v.slots j := by
  cases E with
  | stays noReferral noClosing => exact setSlot_slots_other ne
  | refers referral noClosing => exact setSlot_slots_other (v := v) ne
  | closes noReferral closing x r state frees =>
    obtain e | ⟨waiting, -⟩ := frees.slot j
    · rw [e]; simp [RollView.close, RollView.setSlot, ne]
    · exact absurd waiting (by simp [RollView.close, RollView.setSlot, out, ne])

/-- The slot reset, when it does not close. -/
theorem slot_of_not_closes (E : SlotEnds k v w) (noClosing : ¬ ClosesOn v.heads (v.slots k)) :
    w.slots k = afterReset v.heads (v.slots k) := by
  cases E with
  | stays => exact setSlot_slots_self v k _
  | refers => exact setSlot_slots_self v k _
  | closes noReferral closing x r state frees => exact absurd closing noClosing

/-- The slot reset, when it closes. -/
theorem slot_of_closes (E : SlotEnds k v w) (closing : ClosesOn v.heads (v.slots k)) :
    ProvingClosed (w.slots k) := by
  cases E with
  | stays noReferral noClosing => exact absurd closing noClosing
  | refers referral noClosing => exact absurd closing noClosing
  | closes noReferral closing x r state frees =>
    obtain e | ⟨-, e⟩ := frees.slot k
    · exact .inl (by rw [e]; simp [RollView.close, closed])
    · exact .inr e

end SlotEnds

/-! ### A line reset, slot after slot -/

/-- Slots that a line reset can route one after the other: each once, those that a head holds TESTING at a head that is
not IDLE, and none held that waits to be moved. -/
structure Ready (ks : List SlotId) (v : RollView) : Prop where
  once : ks.Nodup
  routable : ∀ k ∈ ks, Routable v.heads (v.slots k)
  queued : ∀ k ∈ ks, k ∈ v.closing → (v.slots k).holder = none

namespace Ready
variable {k : SlotId} {ks : List SlotId} {v u : RollView}

/-- Every slot of a lawful roll is ready. -/
theorem of_lawful (L : Lawful v) : Ready allSlots v where
  once := List.nodup_finRange 48
  routable k _ := by
    refine ⟨fun l => ((L.slot k).linkHolder l).mp, fun h held => ?_⟩
    obtain ⟨c, mount⟩ := (L.heads.mounted h k).mp held
    refine ⟨(L.slot k).testing_of_head held, fun idle => ?_⟩
    rw [(L.heads.idle h).mpr idle] at mount
    cases mount
  queued k _ waiting := (L.slot k).holder_of_not_open (by rw [(L.closing k).mp waiting]; rfl)

/-- A slot still to be reset stands, or nobody held it and nobody does. -/
theorem rest (R : Ready (k :: ks) v) (one : Resets k v u) {j : SlotId} (mem : j ∈ ks) :
    u.slots j = v.slots j ∧ (j ∈ u.closing → j ∈ v.closing) ∨ (u.slots j).holder = none ∧ (v.slots j).holder = none := by
  obtain ⟨new, -⟩ := List.nodup_cons.mp R.once
  have ne : j ≠ k := by rintro rfl; exact new mem
  have E := one.ends (R.routable k List.mem_cons_self)
  by_cases waiting : j ∈ v.closing
  · have nobody := R.queued j (List.mem_cons_of_mem k mem) waiting
    exact .inr ⟨one.holder_none nobody, nobody⟩
  · exact .inl ⟨E.other ne waiting, fun h => absurd h (E.not_mem_closing waiting (.inl ne))⟩

theorem tail (R : Ready (k :: ks) v) (one : Resets k v u) : Ready ks u := by
  refine ⟨(List.nodup_cons.mp R.once).2, fun j mem => ?_, fun j mem waiting => ?_⟩
  · obtain ⟨e, -⟩ | ⟨nobody, -⟩ := R.rest one mem
    · rw [one.heads, e]
      exact R.routable j (List.mem_cons_of_mem k mem)
    · exact ⟨by simp [nobody], by simp [nobody]⟩
  · obtain ⟨e, was⟩ | ⟨nobody, -⟩ := R.rest one mem
    · rw [e]; exact R.queued j (List.mem_cons_of_mem k mem) (was waiting)
    · exact nobody

theorem refers_iff (R : Ready (k :: ks) v) (one : Resets k v u) {j : SlotId} (mem : j ∈ ks) :
    Refers u.heads (u.slots j) ↔ Refers v.heads (v.slots j) := by
  obtain ⟨e, -⟩ | ⟨now, was⟩ := R.rest one mem
  · rw [one.heads, e]
  · simp [Refers, now, was]

theorem closes_iff (R : Ready (k :: ks) v) (one : Resets k v u) {j : SlotId} (mem : j ∈ ks) :
    ClosesOn u.heads (u.slots j) ↔ ClosesOn v.heads (v.slots j) := by
  obtain ⟨e, -⟩ | ⟨now, was⟩ := R.rest one mem
  · rw [one.heads, e]
  · simp [ClosesOn, now, was]

/-- The slot that has been reset is held by nobody. -/
theorem nobody (R : Ready (k :: ks) v) (one : Resets k v u) : (u.slots k).holder = none := by
  have routable := R.routable k List.mem_cons_self
  cases one with
  | free nobody => exact nobody
  | claim l held => rw [setSlot_slots_self, givenUp_of_holderOf (routable.link l held)]; rfl
  | idle h held phase => exact absurd phase (routable.head h held).2
  | mounted => rw [setSlot_slots_self]; rfl
  | done h held phase routes => exact routes.holder
  | cut h held fly routes => exact routes.holder

end Ready

namespace ResetsAll
variable {ks : List SlotId} {v w : RollView}

/-- The slots that a line reset refers join the tail of the referral queue in turn. -/
theorem referral (A : ResetsAll ks v w) (R : Ready ks v) :
    ∃ new, new.Sublist ks ∧ w.referral = v.referral ++ new ∧ ∀ k ∈ ks, (k ∈ new ↔ Refers v.heads (v.slots k)) := by
  induction A with
  | nil => exact ⟨[], .refl _, by simp, by simp⟩
  | @cons k ks v u w one rest ih =>
    obtain ⟨new, sub, queue, mem⟩ := ih (R.tail one)
    obtain ⟨first, once⟩ := List.nodup_cons.mp R.once
    have apart {j : SlotId} (h : j ∈ ks) : j ≠ k := fun e => first (e ▸ h)
    have tail {j : SlotId} (h : j ∈ ks) : j ∈ new ↔ Refers v.heads (v.slots j) := (mem j h).trans (R.refers_iff one h)
    obtain ⟨refers, e⟩ | ⟨not, e⟩ := (one.ends (R.routable k List.mem_cons_self)).referral
    · refine ⟨k :: new, sub.cons_cons k, by rw [queue, e]; simp, fun j h => ?_⟩
      obtain rfl | h := List.mem_cons.mp h
      · simp [refers]
      · simp [apart h, tail h]
    · refine ⟨new, sub.cons k, by rw [queue, e], fun j h => ?_⟩
      obtain rfl | h := List.mem_cons.mp h
      · exact iff_of_false (fun mem => first (sub.subset mem)) not
      · exact tail h

/-- The slots that a line reset closes join the tail of the closing queue in turn, and what leaves its head is FREE. -/
theorem closing (A : ResetsAll ks v w) (R : Ready ks v) :
    ∃ new moved, new.Sublist ks ∧ v.closing ++ new = moved ++ w.closing ∧ 
      (∀ k ∈ ks, (k ∈ new ↔ ClosesOn v.heads (v.slots k))) ∧ ∀ k ∈ moved, w.slots k = Slot.empty := by
  induction A with
  | nil => exact ⟨[], [], .refl _, by simp, by simp, by simp⟩
  | @cons k ks v u w one rest ih =>
    obtain ⟨new, moved, sub, queue, mem, freed⟩ := ih (R.tail one)
    obtain ⟨first, once⟩ := List.nodup_cons.mp R.once
    have apart {j : SlotId} (h : j ∈ ks) : j ≠ k := fun e => first (e ▸ h)
    have tail {j : SlotId} (h : j ∈ ks) : j ∈ new ↔ ClosesOn v.heads (v.slots j) := (mem j h).trans (R.closes_iff one h)
    obtain ⟨closes, before, e, empty⟩ | ⟨not, e⟩ := (one.ends (R.routable k List.mem_cons_self)).closing
    · refine ⟨k :: new, before ++ moved, sub.cons_cons k, ?_, fun j h => ?_, fun j h => ?_⟩
      · calc v.closing ++ k :: new = (v.closing ++ [k]) ++ new := by simp
          _ = before ++ (u.closing ++ new) := by rw [e, List.append_assoc]
          _ = before ++ moved ++ w.closing := by rw [queue, List.append_assoc]
      · obtain rfl | h := List.mem_cons.mp h
        · simp [closes]
        · simp [apart h, tail h]
      · obtain h | h := List.mem_append.mp h
        · have same := rest.same_or_free (j := j) (by rw [empty j h]; rfl)
          rwa [empty j h, or_self] at same
        · exact freed j h
    · refine ⟨new, moved, sub.cons k, by rw [← e, queue], fun j h => ?_, freed⟩
      obtain rfl | h := List.mem_cons.mp h
      · exact iff_of_false (fun mem => first (sub.subset mem)) not
      · exact tail h

/-- A slot that nobody holds and that does not wait to be moved stands. -/
theorem stands {k : SlotId} (A : ResetsAll ks v w) (R : Ready ks v) (nobody : (v.slots k).holder = none) (out : k ∉ v.closing) :
    w.slots k = v.slots k := by
  induction A with
  | nil => rfl
  | @cons j ks v u w one rest ih =>
    have E := one.ends (R.routable j List.mem_cons_self)
    have noClosing : k = j → ¬ ClosesOn v.heads (v.slots j) := by
      rintro rfl ⟨-, h, held, -⟩
      rw [nobody] at held; cases held
    have same : u.slots k = v.slots k := by
      by_cases e : k = j
      · subst e; rw [E.slot_of_not_closes (noClosing rfl), afterReset, nobody]
      · exact E.other e out
    have still : k ∉ u.closing := E.not_mem_closing out (by by_cases e : k = j; exacts [.inr (noClosing e), .inl e])
    rw [ih (R.tail one) (by rw [same]; exact nobody) still, same]

/-- A held slot is reset as it stood before the line reset. -/
theorem held {k : SlotId} (A : ResetsAll ks v w) (R : Ready ks v) (mem : k ∈ ks) {o : Holder} (h : (v.slots k).holder = some o) :
    (ClosesOn v.heads (v.slots k) ∧ ProvingClosed (w.slots k)) ∨
      (¬ ClosesOn v.heads (v.slots k) ∧ w.slots k = afterReset v.heads (v.slots k)) := by
  induction A with
  | nil => cases mem
  | @cons j ks v u w one rest ih =>
    have E := one.ends (R.routable j List.mem_cons_self)
    have out : k ∉ v.closing := fun waiting => by rw [R.queued k mem waiting] at h; cases h
    obtain rfl | mem := List.mem_cons.mp mem
    · by_cases closes : ClosesOn v.heads (v.slots k)
      · refine .inl ⟨closes, ?_⟩
        obtain e | e := rest.same_or_free (R.nobody one)
        · rw [e]; exact E.slot_of_closes closes
        · exact .inr e
      · refine .inr ⟨closes, ?_⟩
        rw [rest.stands (R.tail one) (R.nobody one) (E.not_mem_closing out (.inr closes)), E.slot_of_not_closes closes]
    · obtain ⟨e, -⟩ | ⟨-, was⟩ := R.rest one mem
      · have later := ih (R.tail one) mem (by rw [e]; exact h)
        rwa [one.heads, e] at later
      · rw [was] at h; cases h

end ResetsAll

end Sys2Proof.Roll

namespace Sys2Proof.Roll

open Sys2Proof.Machine Sys2Proof.Safety

/-! ### What an operation adds to the pending set of a link -/

theorem mem_withNotice (n m : Notice) (p : List Notice) : m ∈ withNotice n p ↔ m = n ∨ m ∈ p := by
  simp [withNotice, mem_allNotices]

/-- An operation keeps a link's state and, unless the link is STOPPED, adds the item `n` to its pending set exactly under
the condition `P`. -/
structure Adds (n : Notice) (l : LinkId) (P : Prop) (s t : State) : Prop where
  state : (t.link l).state = (s.link l).state
  pends : (s.link l).state ≠ .stopped → (n ∈ (t.link l).pending ↔ P ∨ n ∈ (s.link l).pending)

/-- An operation that leaves a link's state, and whether an item is pending on it. -/
abbrev Quiet (n : Notice) (l : LinkId) (s t : State) : Prop := Adds n l False s t

section
variable {n m : Notice} {l : LinkId} {P Q : Prop} {s t u : State}

theorem Adds.congr (A : Adds n l P s t) (h : P ↔ Q) : Adds n l Q s t := by rwa [propext h] at A

theorem Adds.trans (A : Adds n l P s t) (B : Adds n l Q t u) : Adds n l (P ∨ Q) s u := by
  refine ⟨B.state.trans A.state, fun listens => ?_⟩
  rw [B.pends (by rwa [A.state]), A.pends listens]
  tauto

/-- An operation that leaves the link leaves its items. -/
theorem Quiet.of_link (h : t.link l = s.link l) : Quiet n l s t := ⟨by rw [h], fun _ => by rw [h]; simp⟩

theorem Quiet.refl (s : State) : Quiet n l s s := .of_link rfl

theorem Adds.then_quiet (A : Adds n l P s t) (B : Quiet n l t u) : Adds n l P s u := (A.trans B).congr (by simp)

theorem Adds.after_quiet (A : Quiet n l s t) (B : Adds n l P t u) : Adds n l P s u := (A.trans B).congr (by simp)

theorem Quiet.foldl {α : Type} {f : State → α → State} (one : ∀ s a, Quiet n l s (f s a)) (xs : List α) (s : State) :
    Quiet n l s (xs.foldl f s) := by
  induction xs generalizing s with
  | nil => exact .refl s
  | cons a xs ih => exact (one s a).then_quiet (ih (f s a))

/-! ### Notices and reports -/

theorem noted_state (n : Notice) (k : Link) : (noted n k).state = k.state := by
  unfold noted
  split <;> rfl

theorem mem_noted {k : Link} (listens : k.state ≠ .stopped) : m ∈ (noted n k).pending ↔ m = n ∨ m ∈ k.pending := by
  rw [noted, if_neg listens, mem_withNotice]

theorem adds_raise (n m : Notice) (l : LinkId) (s : State) : Adds n l (n = m ∧ l ∈ towards m.kind) s (raise m s) := by
  refine ⟨?_, fun listens => ?_⟩ <;> rw [raise_link] <;> split_ifs with reached
  · exact noted_state m _
  · rfl
  · rw [mem_noted listens]; simp [reached]
  · simp [reached]

/-- Another item raised is not this one. -/
theorem quiet_raise (other : n ≠ m) (l : LinkId) (s : State) : Quiet n l s (raise m s) :=
  (adds_raise n m l s).congr (by simp [other])

theorem reported_state (c : Condition) (was now : Bool) (l : LinkId) (k : Link) : (reported c was now l k).state = k.state := by
  unfold reported
  split
  · exact noted_state _ k
  · rfl

/-- A report of another condition does not touch this item. -/
theorem mem_reported_other {c : Condition} {was now : Bool} {k : Link} (other : n ≠ c.notice) :
    n ∈ (reported c was now l k).pending ↔ n ∈ k.pending := by
  unfold reported
  split
  · unfold noted
    split
    · rfl
    · simp [mem_withNotice, other]
  · rfl

/-- A change that makes the referral queue non-empty adds REFERRAL_WAITING (R183). -/
theorem mem_reported_referral {now : Bool} {k : Link} (listens : k.state ≠ .stopped) (reached : l ∈ towards .referralWaiting) :
    Notice.referralWaiting ∈ (reported .referralWaiting false now l k).pending ↔
      now = true ∨ Notice.referralWaiting ∈ k.pending := by
  cases now with
  | false => simp
  | true =>
    have changed : reported .referralWaiting false true l k = noted .referralWaiting k := by
      rw [reported, if_pos ⟨by simp, reached, .inl rfl⟩]; rfl
    rw [changed, mem_noted listens]
    simp

/-- The three items that the slots of a line reset can raise: STAMP_READY, SCRAP_READY, REFERRAL_WAITING (R24). -/
inductive RollNotice : Notice → Prop
  | stamp : RollNotice .stampReady
  | scrap : RollNotice .scrapReady
  | referral : RollNotice .referralWaiting

theorem reporting_state (f : State → State) (s : State) (l : LinkId) : ((reporting f s).link l).state = ((f s).link l).state := by
  rw [reporting_link, reported_state, reported_state, reported_state]

/-- Of the three items a report touches REFERRAL_WAITING alone. -/
theorem mem_reporting (R : RollNotice n) (f : State → State) (s : State) (l : LinkId) :
    n ∈ ((reporting f s).link l).pending ↔
      n ∈ (reported .referralWaiting (!s.referral.isEmpty) (!(f s).referral.isEmpty) l ((f s).link l)).pending := by
  have register : n ≠ Condition.registerFull.notice := by cases R <;> simp [Condition.notice]
  have exported : n ≠ Condition.exportBlocked.notice := by cases R <;> simp [Condition.notice]
  rw [reporting_link, mem_reported_other exported, mem_reported_other register]

/-- A change of the roll or the pages that leaves the links and the referral queue raises none of the three. -/
theorem quiet_reporting (R : RollNotice n) {f : State → State} (links : (f s).link l = s.link l)
    (referral : (f s).referral.isEmpty = s.referral.isEmpty) : Quiet n l s (reporting f s) := by
  refine ⟨by rw [reporting_state, links], fun _ => ?_⟩
  rw [mem_reporting R, referral, reported_same, links, false_or]

end

/-! ### Records moved and slots closed raise none of the three -/

theorem link_enterPage (p : PageId) (c : ClosingRecord) (s : State) (l : LinkId) : (enterPage p c s).link l = s.link l := by
  cases p <;> rfl

theorem link_finishChanges (p : PageId) (s : State) (l : LinkId) : (finishChanges p s).link l = s.link l := by
  simp only [finishChanges]
  split_ifs <;> cases p <;> rfl

theorem referral_finishChanges (p : PageId) (s : State) : (finishChanges p s).referral = s.referral :=
  congrArg RollView.referral (view_finishChanges p s)

section
variable {n : Notice} (R : RollNotice n) (l : LinkId)
include R

theorem quiet_moveOne (p : PageId) (k : SlotId) (c : ClosingRecord) (rest : List SlotId) (s : State) :
    Quiet n l s (moveOne p k c rest s) := by
  have freed : Quiet n l s (freeSlot k rest (enterPage p c s)) := 
    (Quiet.of_link (link_enterPage p c s l)).then_quiet (quiet_reporting R rfl rfl)
  have page : n ≠ .pageFinished := by cases R <;> simp
  have finished (u : State) : Quiet n l u (finishPageOp p u) :=
    (quiet_reporting R (link_finishChanges p u l) (by rw [referral_finishChanges])).then_quiet (quiet_raise page l _)
  simp only [moveOne_eq]
  split
  · exact freed.then_quiet (finished _)
  · exact freed

theorem quiet_moveRecords (s : State) : Quiet n l s (moveRecords s) := by
  suffices ∀ m s, Quiet n l s (moveUpTo m s) from this _ s
  intro m
  induction m with
  | zero => exact fun s => .refl s
  | succ m ih =>
    intro s
    unfold moveUpTo
    split
    · split
      · exact (quiet_moveOne R l _ _ _ _ s).then_quiet (ih _)
      · exact .refl s
    · exact .refl s

/-- Closing a slot that is not REFERRED. -/
theorem quiet_closeSlot {k : SlotId} {s : State} (state : (s.slot k).state ≠ .referred) (o : ClosingOutcome) :
    Quiet n l s (closeSlot k o s) := by
  have queue : (setAside k o s).referral = s.referral := by
    rw [← view_referral, view_setAside]
    exact if_neg state
  rw [closeSlot_eq]
  refine (Quiet.of_link ?_).then_quiet (quiet_moveRecords R l _)
  rw [setAside_link, queue, reported_same]

end

end Sys2Proof.Roll

namespace Sys2Proof.Roll

open Sys2Proof.Machine Sys2Proof.Safety

/-! ### What routing a slot raises -/

/-- Which of the three items an operation raises: STAMP_READY and SCRAP_READY under a condition each, REFERRAL_WAITING when
it makes the empty referral queue non-empty. -/
def Raises (n : Notice) (stamp scrap : Prop) (s t : State) : Prop :=
  n = .stampReady ∧ stamp ∨ n = .scrapReady ∧ scrap ∨ n = .referralWaiting ∧ s.referral = [] ∧ t.referral ≠ []

section
variable {n : Notice} {l : LinkId} {stamp scrap : Prop} {s t u : State}

/-- An operation that raises none of the three. -/
theorem Quiet.raises (Q : Quiet n l s t) (same : t.referral = s.referral) (noStamp : ¬ stamp) (noScrap : ¬ scrap) :
    Adds n l (Raises n stamp scrap s t) s t :=
  Q.congr (by simp +contextual [Raises, noStamp, noScrap, same])

/-- An operation that ends by raising STAMP_READY. -/
theorem Quiet.raises_stamp (Q : Quiet n l s u) (same : u.referral = s.referral) (reached : l ∈ towards n.kind) (isStamp : stamp)
    (noScrap : ¬ scrap) : Adds n l (Raises n stamp scrap s (raise .stampReady u)) s (raise .stampReady u) := by
  refine (Q.after_quiet (adds_raise n .stampReady l u)).congr ?_
  simp +contextual [Raises, noScrap, same, isStamp]
  rintro rfl
  exact reached

/-- An operation that ends by raising SCRAP_READY. -/
theorem Quiet.raises_scrap (Q : Quiet n l s u) (same : u.referral = s.referral) (reached : l ∈ towards n.kind) (noStamp : ¬ stamp)
    (isScrap : scrap) : Adds n l (Raises n stamp scrap s (raise .scrapReady u)) s (raise .scrapReady u) := by
  refine (Q.after_quiet (adds_raise n .scrapReady l u)).congr ?_
  simp +contextual [Raises, noStamp, same, isScrap]
  rintro rfl
  exact reached

/-- A slot that enters REFERRED raises REFERRAL_WAITING when the queue was empty (R183). -/
theorem adds_enterReferred (R : RollNotice n) (reached : l ∈ towards n.kind) (k : SlotId) (s : State) :
    Adds n l (n = .referralWaiting ∧ s.referral = []) s (enterReferred k s) := by
  refine ⟨reporting_state _ s l, fun listens => ?_⟩
  rw [enterReferred, mem_reporting R]
  change n ∈ (reported .referralWaiting (!s.referral.isEmpty) (!(s.referral ++ [k]).isEmpty) l (s.link l)).pending ↔ _
  by_cases waiting : n = .referralWaiting
  · subst waiting
    cases queue : s.referral with
    | nil => simpa using mem_reported_referral (now := true) listens reached
    | cons j q => simp
  · rw [mem_reported_other waiting]
    simp [waiting]

/-- Closing a slot that is not REFERRED leaves the referral queue. -/
theorem referral_closeSlot {k : SlotId} (state : (s.slot k).state ≠ .referred) (o : ClosingOutcome) :
    (closeSlot k o s).referral = s.referral := by
  obtain ⟨r, -, moved, rest, -, e⟩ := frees_closeSlot k o s
  rw [← view_referral, e]
  exact if_neg state

/-! ### Routing by the outcome, case by case -/

variable {k : SlotId}

theorem applyOutcome_proving (kind : (s.slot k).isProving = true) : applyOutcome k s = closeSlot k .proving s := by
  simp [applyOutcome, kind]

theorem applyOutcome_pass (kind : (s.slot k).isProving = false) (o : outcomeOf (s.slot k) = some .pass) :
    applyOutcome k s = enterAwaitStamp k s := by
  unfold outcomeOf at o
  simp [applyOutcome, kind, o]

theorem applyOutcome_condemn (kind : (s.slot k).isProving = false) (o : outcomeOf (s.slot k) = some .condemn) :
    applyOutcome k s = enterAwaitScrap k s := by
  unfold outcomeOf at o
  simp [applyOutcome, kind, o]

theorem applyOutcome_spent (kind : (s.slot k).isProving = false) (o : outcomeOf (s.slot k) = some .invalid)
    (spent : 2 + (s.slot k).grants ≤ (s.slot k).attempts) :
    applyOutcome k s = enterReferred k (post k ⟨206, .refer, .unit, some (s.slot k).attempts⟩ s) := by
  unfold outcomeOf at o
  simp [applyOutcome, kind, o, Nat.not_lt.mpr spent]

theorem applyOutcome_again (kind : (s.slot k).isProving = false) (notPass : outcomeOf (s.slot k) ≠ some .pass)
    (notCondemn : outcomeOf (s.slot k) ≠ some .condemn)
    (more : outcomeOf (s.slot k) = some .invalid → (s.slot k).attempts < 2 + (s.slot k).grants) :
    applyOutcome k s = enterUnheld k .awaitTest s := by
  unfold outcomeOf at *
  simp only [applyOutcome, kind, Bool.false_eq_true, if_false]
  split
  · exact absurd ‹_› notPass
  · exact absurd ‹_› notCondemn
  · rw [if_pos (more ‹_›)]
  all_goals rfl

/-- What routing a TESTING slot raises (R12). -/
theorem adds_applyOutcome (R : RollNotice n) (reached : l ∈ towards n.kind) (state : (s.slot k).state ≠ .referred) :
    Adds n l (Raises n ((s.slot k).isProving = false ∧ outcomeOf (s.slot k) = some .pass)
      ((s.slot k).isProving = false ∧ outcomeOf (s.slot k) = some .condemn) s (applyOutcome k s)) s (applyOutcome k s) := by
  cases kind : (s.slot k).isProving with
  | true =>
    rw [applyOutcome_proving kind]
    exact (quiet_closeSlot R l state .proving).raises (referral_closeSlot state .proving) (by simp) (by simp)
  | false =>
    by_cases pass : outcomeOf (s.slot k) = some .pass
    · rw [applyOutcome_pass kind pass]
      exact Quiet.raises_stamp (Quiet.of_link rfl) rfl reached (by simp [pass]) (by simp [pass])
    by_cases condemn : outcomeOf (s.slot k) = some .condemn
    · rw [applyOutcome_condemn kind condemn]
      exact Quiet.raises_scrap (Quiet.of_link rfl) rfl reached (by simp [condemn]) (by simp [condemn])
    by_cases spent : outcomeOf (s.slot k) = some .invalid ∧ 2 + (s.slot k).grants ≤ (s.slot k).attempts
    · rw [applyOutcome_spent kind spent.1 spent.2]
      have posted : Quiet n l s (post k ⟨206, .refer, .unit, some (s.slot k).attempts⟩ s) := Quiet.of_link rfl
      refine (posted.after_quiet (adds_enterReferred R reached k _)).congr ?_
      simp [Raises, pass, condemn, enterReferred]
    · rw [applyOutcome_again kind pass condemn fun o => by by_contra more; exact spent ⟨o, Nat.not_lt.mp more⟩]
      exact Quiet.raises (Quiet.of_link rfl) rfl (by simp [pass]) (by simp [condemn])

end

/-! ### What a line reset of one slot raises -/

/-- A line reset makes the slot await link `l`: its claim of the link is dropped, or its ordinary test ended with the
outcome `o` that sends it there (R12, R18, R24). -/
def Awaits (l : LinkId) (o : TestOutcome) (g : HeadId → HeadView) (x : Slot) : Prop :=
  x.holder = some (.link l) ∨
    ∃ h, x.holder = some (.head h) ∧ (g h).phase = .done ∧ x.isProving = false ∧ outcomeOf x = some o

section
variable {l : LinkId} {o : TestOutcome} {g : HeadId → HeadView} {x : Slot}

theorem awaits_none (nobody : x.holder = none) : ¬ Awaits l o g x := by simp [Awaits, nobody]

theorem awaits_link {m : LinkId} (held : x.holder = some (.link m)) : Awaits l o g x ↔ m = l := by simp [Awaits, held]

theorem awaits_head {h : HeadId} (held : x.holder = some (.head h)) :
    Awaits l o g x ↔ (g h).phase = .done ∧ x.isProving = false ∧ outcomeOf x = some o := by simp [Awaits, held]

end

/-- What a line reset of one slot raises (R24). -/
theorem adds_resetSlot {n : Notice} {l : LinkId} {s : State} {k : SlotId} (R : RollNotice n) (reached : l ∈ towards n.kind)
    (routable : Routable (view s).heads (s.slot k)) :
    Adds n l (Raises n (Awaits .L3 .pass (view s).heads (s.slot k)) (Awaits .L4 .condemn (view s).heads (s.slot k)) s
      (resetSlot s k)) s (resetSlot s k) := by
  cases held : (s.slot k).holder with
  | none =>
    rw [resetSlot_free held]
    exact (Quiet.refl s).raises rfl (awaits_none held) (awaits_none held)
  | some w =>
    cases w with
    | link m =>
      rw [resetSlot_claim held, awaits_link held, awaits_link held]
      obtain ⟨state, rfl⟩ | ⟨state, rfl⟩ | ⟨state, rfl⟩ := held_cases (routable.link m held)
      · rw [giveUpClaim_inspecting state]
        exact Quiet.raises (Quiet.of_link rfl) rfl (by simp) (by simp)
      · rw [giveUpClaim_stamping state]
        exact Quiet.raises_stamp (Quiet.of_link rfl) rfl reached rfl (by simp)
      · rw [giveUpClaim_scrapping state]
        exact Quiet.raises_scrap (Quiet.of_link rfl) rfl reached (by simp) rfl
    | head h =>
      obtain ⟨testing, begun⟩ := routable.head h held
      rw [awaits_head held, awaits_head held]
      obtain phase | phase | phase | fly := phase_cases (s.head h).phase
      · exact absurd phase begun
      · rw [resetSlot_mounted held phase]
        exact Quiet.raises (Quiet.of_link rfl) rfl (by simp [viewHead, phase]) (by simp [viewHead, phase])
      · rw [resetSlot_done held phase]
        have routed := adds_applyOutcome R reached (s := s) (k := k) (by rw [testing]; simp)
        simpa [viewHead, phase] using routed
      · rw [resetSlot_cut held fly]
        have cut : (cutShort h k s).slot k = cutSlot (s.head h).ripple (s.slot k) := by
          rw [← view_slots, view_cutShort, setSlot_slots_self]
        have same : (cutShort h k s).referral = s.referral := congrArg RollView.referral (view_cutShort h k s)
        have routed := adds_applyOutcome R reached (s := cutShort h k s) (k := k) (by rw [cut]; simp [cutSlot, testing])
        rw [cut] at routed
        have quiet : Quiet n l s (cutShort h k s) := Quiet.of_link rfl
        refine (quiet.after_quiet routed).congr ?_
        have notRouted {o : TestOutcome} (other : o ≠ .invalid) :
            ¬ ((cutSlot (s.head h).ripple (s.slot k)).isProving = false ∧
              outcomeOf (cutSlot (s.head h).ripple (s.slot k)) = some o) :=
          fun ⟨ordinary, outcome⟩ => other (invalid_of_outcomeOf_cutSlot (x := s.slot k) ordinary outcome)
        simp [Raises, notRouted, same, viewHead, not_mounted_of_inFlight fly]

/-! ### What a line reset raises -/

/-- The items that two operations in turn raise, as the referral queue only grows. -/
theorem Raises.trans_iff {n : Notice} {A B C D : Prop} {s u t : State} (grows : s.referral <+: u.referral)
    (grows' : u.referral <+: t.referral) : Raises n A B s u ∨ Raises n C D u t ↔ Raises n (A ∨ C) (B ∨ D) s t := by
  have first : s.referral ≠ [] → u.referral ≠ [] := fun some none => some (List.prefix_nil.mp (none ▸ grows))
  have second : u.referral ≠ [] → t.referral ≠ [] := fun some none => some (List.prefix_nil.mp (none ▸ grows'))
  unfold Raises
  tauto

theorem Raises.congr {n : Notice} {A B A' B' : Prop} {s t : State} (stamp : A ↔ A') (scrap : B ↔ B') :
    Raises n A B s t ↔ Raises n A' B' s t := by
  unfold Raises
  rw [stamp, scrap]

theorem Ready.awaits_iff {k j : SlotId} {ks : List SlotId} {v u : RollView} (R : Ready (k :: ks) v) (one : Resets k v u)
    (mem : j ∈ ks) (l : LinkId) (o : TestOutcome) : Awaits l o u.heads (u.slots j) ↔ Awaits l o v.heads (v.slots j) := by
  obtain ⟨e, -⟩ | ⟨now, was⟩ := R.rest one mem
  · rw [one.heads, e]
  · exact iff_of_false (awaits_none now) (awaits_none was)

/-- Some slot of the list is made to await a link. -/
def SomeAwaits (ks : List SlotId) (l : LinkId) (o : TestOutcome) (v : RollView) : Prop := ∃ k ∈ ks, Awaits l o v.heads (v.slots k)

theorem Ready.someAwaits_cons {k : SlotId} {ks : List SlotId} {v u : RollView} (R : Ready (k :: ks) v) (one : Resets k v u)
    (l : LinkId) (o : TestOutcome) :
    Awaits l o v.heads (v.slots k) ∨ SomeAwaits ks l o u ↔ SomeAwaits (k :: ks) l o v := by
  have rest : SomeAwaits ks l o u ↔ SomeAwaits ks l o v :=
    exists_congr fun j => and_congr_right fun mem => R.awaits_iff one mem l o
  rw [rest]
  simp [SomeAwaits]

/-- What a line reset of slots in turn raises. -/
theorem adds_foldl_resetSlot {n : Notice} {l : LinkId} (R : RollNotice n) (reached : l ∈ towards n.kind) (ks : List SlotId)
    (s : State) (ready : Ready ks (view s)) :
    Adds n l (Raises n (SomeAwaits ks .L3 .pass (view s)) (SomeAwaits ks .L4 .condemn (view s)) s (ks.foldl resetSlot s)) s
      (ks.foldl resetSlot s) := by
  induction ks generalizing s with
  | nil => exact (Quiet.refl s).raises rfl (by simp [SomeAwaits]) (by simp [SomeAwaits])
  | cons k ks ih =>
    have one := resets_resetSlot s k
    have routable := ready.routable k List.mem_cons_self
    have grows : s.referral <+: (resetSlot s k).referral := by
      obtain ⟨-, e⟩ | ⟨-, e⟩ := (one.ends routable).referral
      · exact ⟨[k], e.symm⟩
      · exact ⟨[], (List.append_nil _).trans e.symm⟩
    have grows' : (resetSlot s k).referral <+: (ks.foldl resetSlot (resetSlot s k)).referral := by
      obtain ⟨new, -, e, -⟩ := (resetsAll_foldl ks (resetSlot s k)).referral (ready.tail one)
      exact ⟨new, e.symm⟩
    refine ((adds_resetSlot R reached routable).trans (ih (resetSlot s k) (ready.tail one))).congr ?_
    rw [Raises.trans_iff grows grows']
    exact Raises.congr (ready.someAwaits_cons one .L3 .pass) (ready.someAwaits_cons one .L4 .condemn)

theorem quiet_lapse {n : Notice} {h : HeadId} (other : n ≠ .headUnproved h) (l : LinkId) (s : State) : Quiet n l s (lapse h s) := by
  have cleared : Quiet n l s (s.setHead h { s.head h with proving := none }) := Quiet.of_link rfl
  rw [lapse_cases]
  split
  · exact .refl s
  · exact cleared.then_quiet (quiet_raise other l _)

/-- The heads reset raise HEAD_UNPROVED alone. -/
theorem quiet_resetHeads {n : Notice} (R : RollNotice n) (l : LinkId) (s : State) : Quiet n l s (allHeads.foldl resetHead s) :=
  Quiet.foldl (fun u h =>
    have idle : Quiet n l u (u.updHead h Head.toIdle) := Quiet.of_link rfl
    idle.then_quiet (quiet_lapse (by cases R <;> simp) l _)) allHeads s

theorem referral_resetHeads (s : State) : (allHeads.foldl resetHead s).referral = s.referral :=
  congrArg RollView.referral (view_foldl_resetHead s)

/-- Each link after a line reset of the links: RUNNING, with nothing pending (R185). -/
theorem linksReset_link (s : State) (l : LinkId) : (linksReset s).link l = (s.link l).lineReset := by cases l <;> rfl

/-- The items of the roll that a line reset leaves pending (R24, R185). -/
theorem mem_pending_lineReset {n : Notice} {l : LinkId} (R : RollNotice n) (reached : l ∈ towards n.kind) {s : State}
    (L : Lawful (view s)) :
    n ∈ ((lineReset s).link l).pending ↔
      Raises n (SomeAwaits allSlots .L3 .pass (view s)) (SomeAwaits allSlots .L4 .condemn (view s)) s (lineReset s) := by
  have listens : ((linksReset s).link l).state ≠ .stopped := by rw [linksReset_link]; simp [Link.lineReset]
  have none : ((linksReset s).link l).pending = [] := by rw [linksReset_link]; rfl
  have heads : (lineReset s).referral = (allSlots.foldl resetSlot (linksReset s)).referral := by
    rw [lineReset_eq, referral_resetHeads]
  have slots := adds_foldl_resetSlot R reached allSlots (linksReset s) (.of_lawful L)
  have all := (slots.then_quiet (quiet_resetHeads R l _)).pends listens
  rw [none, ← lineReset_eq] at all
  rw [all, Raises, Raises, heads]
  exact or_iff_left List.not_mem_nil

end Sys2Proof.Roll

namespace Sys2Proof.Roll

open Sys2Proof.Machine Sys2Proof.Safety

/-! ### A slot after a line reset, by what held it -/

section
variable {g : HeadId → HeadView} {x : Slot} {h : HeadId}

theorem afterReset_link {l : LinkId} (held : x.holder = some (.link l)) : afterReset g x = givenUp x := by
  simp [afterReset, held]

theorem afterReset_mounted (held : x.holder = some (.head h)) (phase : (g h).phase = .mounted) :
    afterReset g x = unheld .awaitTest x := by
  simp [afterReset, held, phase]

theorem afterReset_done (held : x.holder = some (.head h)) (phase : (g h).phase = .done) : afterReset g x = routedSlot x := by
  simp [afterReset, held, phase]

theorem afterReset_inFlight (held : x.holder = some (.head h)) (fly : (g h).phase.inFlight = true) :
    afterReset g x = routedSlot (cutSlot (g h).ripple x) := by
  simp [afterReset, held, not_mounted_of_inFlight fly]

theorem closesOn_head (held : x.holder = some (.head h)) : ClosesOn g x ↔ x.isProving = true ∧ (g h).phase ≠ .mounted := by
  simp [ClosesOn, held]

/-- An ordinary test cut short is INVALID with RESET and the ripple of its head, and the slot is routed by it (R24, R93). -/
theorem cutSlot_test {r : TestRecord} {q : Option Ripple} (ordinary : x.isProving = false) (test : x.test = some r) :
    cutSlot q x = { x with test := some { r with outcome := some .invalid, reasons := [.reset], ripple := q } } := by
  simp [cutSlot, test, cutRecord, ordinary]

section
variable {t : TestRecord} (invalid : t.outcome = some .invalid)
include invalid

/-- An INVALID test with an attempt left (R12). -/
theorem routedSlot_withTest_again (more : x.attempts < 2 + x.grants) :
    routedSlot { x with test := some t } = { x with state := .awaitTest, holder := none, test := some t } :=
  routedSlot_again (by simp [outcomeOf, invalid]) (by simp [outcomeOf, invalid]) fun _ => more

/-- An INVALID test with the allowance spent: finding 206 does not read the test (R12). -/
theorem routedSlot_withTest_spent (spent : 2 + x.grants ≤ x.attempts) :
    routedSlot { x with test := some t } =
      { x.post ⟨206, .refer, .unit, some x.attempts⟩ with state := .referred, holder := none, test := some t } := by
  have posted := posts_withTest [⟨206, .refer, .unit, some x.attempts⟩] x (some t)
  simp only [posts_cons, posts_nil] at posted
  rw [routedSlot_spent (x := { x with test := some t }) (by simp [outcomeOf, invalid]) spent, posted]
  rfl

end

end

/-- A line reset of a lawful roll, seen slot by slot. -/
theorem lineReset_run {s : State} (L : Lawful (view s)) :
    ∃ u, ResetsAll allSlots (view s) u ∧ Ready allSlots (view s) ∧ (∀ k, (lineReset s).slot k = u.slots k) ∧
      (lineReset s).referral = u.referral ∧ (lineReset s).closingQueue = u.closing := by
  obtain ⟨u, run, e⟩ := resetsAll_lineReset s
  refine ⟨u, run, .of_lawful L, fun k => ?_, ?_, ?_⟩
  · rw [← view_slots, e]; rfl
  · rw [← view_referral, e]; rfl
  · rw [← view_closing, e]; rfl

/-- The slots that a line reset picks out of the roll in turn stand in the order of their numbers. -/
theorem pairwise_of_sublist {new : List SlotId} (h : new.Sublist allSlots) : new.Pairwise (· < ·) :=
  (List.pairwise_lt_finRange 48).sublist h

section
variable {s : State} {k : SlotId} (L : Lawful (view s))
include L

theorem lineReset_nobody (nobody : (s.slot k).holder = none) (notClosed : (s.slot k).state ≠ .closed) :
    (lineReset s).slot k = s.slot k := by
  obtain ⟨u, run, ready, slots, -, -⟩ := lineReset_run L
  rw [slots]
  exact run.stands ready nobody fun waiting => notClosed ((L.closing k).mp waiting)

/-- A held slot closes or is routed, as it stood before the line reset. -/
theorem lineReset_held {o : Holder} (held : (s.slot k).holder = some o) :
    (ClosesOn (view s).heads (s.slot k) ∧ ProvingClosed ((lineReset s).slot k)) ∨
      (¬ ClosesOn (view s).heads (s.slot k) ∧ (lineReset s).slot k = afterReset (view s).heads (s.slot k)) := by
  obtain ⟨u, run, ready, slots, -, -⟩ := lineReset_run L
  rw [slots]
  exact run.held ready (mem_allSlots k) held

theorem lineReset_routed {o : Holder} (held : (s.slot k).holder = some o) (noClosing : ¬ ClosesOn (view s).heads (s.slot k)) :
    (lineReset s).slot k = afterReset (view s).heads (s.slot k) := by
  obtain ⟨closes, -⟩ | ⟨-, e⟩ := lineReset_held L held
  · exact absurd closes noClosing
  · exact e

theorem lineReset_link {l : LinkId} (held : (s.slot k).holder = some (.link l)) :
    (lineReset s).slot k = { s.slot k with state := (s.slot k).state.returned, holder := none } := by
  rw [lineReset_routed L held (by simp [ClosesOn, held]), afterReset_link held,
    givenUp_of_holderOf (x := s.slot k) (((L.slot k).linkHolder l).mp held)]
  rfl

theorem lineReset_referral :
    ∃ new : List SlotId, (lineReset s).referral = s.referral ++ new ∧ new.Pairwise (· < ·) ∧
      ∀ k, k ∈ new ↔ Refers (view s).heads (s.slot k) := by
  obtain ⟨u, run, ready, -, queue, -⟩ := lineReset_run L
  obtain ⟨new, sub, e, mem⟩ := run.referral ready
  exact ⟨new, by rw [queue, e]; rfl, pairwise_of_sublist sub, fun k => mem k (mem_allSlots k)⟩

theorem lineReset_closing :
    ∃ new moved : List SlotId, s.closingQueue ++ new = moved ++ (lineReset s).closingQueue ∧ new.Pairwise (· < ·) ∧
      (∀ k, k ∈ new ↔ ClosesOn (view s).heads (s.slot k)) ∧ ∀ k ∈ moved, (lineReset s).slot k = Slot.empty := by
  obtain ⟨u, run, ready, slots, -, queue⟩ := lineReset_run L
  obtain ⟨new, moved, sub, e, mem, freed⟩ := run.closing ready
  exact ⟨new, moved, by rw [queue, ← e]; rfl, pairwise_of_sublist sub, fun k => mem k (mem_allSlots k),
    fun k m => by rw [slots, freed k m]⟩

/-! ### A slot that a head holds -/

variable {h : HeadId} (held : (s.slot k).holder = some (.head h))
include held

theorem lineReset_mounted (phase : (s.head h).phase = .mounted) :
    (lineReset s).slot k = { s.slot k with state := .awaitTest, holder := none } := by
  rw [lineReset_routed L held (by rw [closesOn_head held]; exact fun c => c.2 phase), afterReset_mounted held phase]
  rfl

theorem lineReset_proving (kind : (s.slot k).isProving = true) (begun : (s.head h).phase ≠ .mounted) :
    ProvingClosed ((lineReset s).slot k) := by
  obtain ⟨-, e⟩ | ⟨not, -⟩ := lineReset_held L held
  · exact e
  · exact absurd ((closesOn_head held).mpr ⟨kind, begun⟩) not

variable (kind : (s.slot k).isProving = false)
include kind

theorem lineReset_done (phase : (s.head h).phase = .done) : (lineReset s).slot k = routedSlot (s.slot k) := by
  rw [lineReset_routed L held (by simp [ClosesOn, kind]), afterReset_done held phase]

theorem lineReset_inFlight (fly : (s.head h).phase.inFlight = true) {r : TestRecord} (test : (s.slot k).test = some r) :
    (lineReset s).slot k = routedSlot
      { s.slot k with test := some { r with outcome := some .invalid, reasons := [.reset], ripple := (s.head h).ripple } } := by
  rw [lineReset_routed L held (by simp [ClosesOn, kind]), afterReset_inFlight held fly, cutSlot_test kind test]
  rfl

/-- A test in flight ends with RESET, and its slot has another attempt or is referred (R12, R24). -/
theorem lineReset_ended (fly : (s.head h).phase.inFlight = true) {r : TestRecord} (test : (s.slot k).test = some r) :
    let x := s.slot k
    let ended : TestRecord := { r with outcome := some .invalid, reasons := [.reset], ripple := (s.head h).ripple }
    (x.attempts < 2 + x.grants → (lineReset s).slot k = { x with state := .awaitTest, holder := none, test := some ended }) ∧
      (2 + x.grants ≤ x.attempts →
        (lineReset s).slot k =
          { x.post ⟨206, .refer, .unit, some x.attempts⟩ with state := .referred, holder := none, test := some ended } ∧
        k ∈ (lineReset s).referral) := by
  rw [lineReset_inFlight L held kind fly test]
  refine ⟨routedSlot_withTest_again rfl, fun spent => ⟨routedSlot_withTest_spent rfl spent, ?_⟩⟩
  obtain ⟨new, queue, -, mem⟩ := lineReset_referral L
  rw [queue]
  exact List.mem_append_right _ ((mem k).mpr ⟨kind, spent, h, held, .inr ⟨fly, by simp [test]⟩⟩)

/-- An outcome already written is applied (R12, R24). -/
theorem lineReset_judged (phase : (s.head h).phase = .done) :
    let x := s.slot k
    let y := (lineReset s).slot k
    (outcomeOf x = some .pass → y = { x with state := .awaitStamp, holder := none }) ∧
      (outcomeOf x = some .condemn → y = { x with state := .awaitScrap, holder := none }) ∧
      (outcomeOf x = some .invalid → x.attempts < 2 + x.grants → y = { x with state := .awaitTest, holder := none }) ∧
      (outcomeOf x = some .invalid → 2 + x.grants ≤ x.attempts →
        y = { x.post ⟨206, .refer, .unit, some x.attempts⟩ with state := .referred, holder := none }) := by
  rw [lineReset_done L held kind phase]
  exact ⟨routedSlot_pass, routedSlot_condemn, fun o more => routedSlot_again (by simp [o]) (by simp [o]) fun _ => more,
    routedSlot_spent⟩

end

/-- Settles O37: a line reset routes each slot as it stood before, in the order of the slots' numbers. -/
theorem lineResetRoutesHeldSlots : Obligations.LineResetRoutesHeldSlots := by
  refine ⟨fun s k law => ?_, fun s law => ?_⟩ <;> have L := (rollLaw_iff s).mp law
  · exact ⟨fun l held => lineReset_link L held, lineReset_nobody L, fun h held => ⟨lineReset_mounted L held,
      lineReset_proving L held, fun kind =>
        ⟨fun r fly test => lineReset_ended L held kind fly test, lineReset_judged L held kind⟩⟩⟩
  intro t heldAt judged invalid closes
  have refers (k : SlotId) : Refers (view s).heads (s.slot k) ↔ invalid k ∧ 2 + (s.slot k).grants ≤ (s.slot k).attempts := by
    constructor
    · rintro ⟨kind, spent, h, held, ⟨phase, o⟩ | ⟨fly, test⟩⟩
      · exact ⟨.inl ⟨h, held, phase, kind, o⟩, spent⟩
      · exact ⟨.inr ⟨h, held, fly, kind, test⟩, spent⟩
    · rintro ⟨⟨h, held, phase, kind, o⟩ | ⟨h, held, fly, kind, test⟩, spent⟩
      · exact ⟨kind, spent, h, held, .inl ⟨phase, o⟩⟩
      · exact ⟨kind, spent, h, held, .inr ⟨fly, test⟩⟩
  have awaits (l : LinkId) (o : TestOutcome) :
      SomeAwaits allSlots l o (view s) ↔ ∃ k, (s.slot k).holder = some (.link l) ∨ judged k o := by
    simp only [SomeAwaits, mem_allSlots, true_and]
    rfl
  refine ⟨?_, lineReset_closing L, ?_, ?_, ?_⟩
  · obtain ⟨new, queue, order, mem⟩ := lineReset_referral L
    exact ⟨new, queue, order, fun k => (mem k).trans (refers k)⟩
  · rw [mem_pending_lineReset .stamp (by decide) L, ← awaits]
    simp [Raises]
  · rw [mem_pending_lineReset .scrap (by decide) L, ← awaits]
    simp [Raises]
  · rw [mem_pending_lineReset .referral (by decide) L]
    simp [Raises, t]

end Sys2Proof.Roll

/-! ## The line settings, the calendar and the nonvolatile store (chapter 2) -/

namespace Sys2Proof.Settings

open Sys2Proof.Machine Sys2Proof.Safety Sys2Proof.Laws Sys2Proof.Roll

/-! ### A loss of power -/

section
variable {s : State} (off : s.powered = false)
include off

/-- A request frame without power is nothing. -/
theorem request_unpowered {α : Type} (l : LinkId) (r : Request) (b : Body α) (take : α → State → State × Reply) :
    request l r b take s = .next s := by
  simp [request, onFrame, off]

/-- A reading pair taken as its event is nothing without power. -/
theorem takePairAs_unpowered (h : HeadId) (p j : Reading) (is : PairAction → Bool) : takePairAs h p j is s = s := by
  simp [takePairAs, off]

/-- Without power every command but the two of the power does nothing (notes/assumptions/5.md). -/
theorem exec_unpowered {c : Instr} (notOn : c ≠ .powerOn) (notLoss : c ≠ .powerLoss) : exec c s = .next s := by
  cases c with
  | powerOn => exact absurd rfl notOn
  | powerLoss => exact absurd rfl notLoss
  | resetPushbutton | moveRecords | unitClockAdvance | answerSent | parity | framing | overrun | silenceTimeout | lapseByTime
  | readingPair => exact event_unpowered _ off
  | fragment | check | gapOver20ms => exact event_unpowered (fun s => s.updLink _ _) off
  | zeroTimeout | rampTimeout | holdComplete | tailEnd | releaseTimeout | settleTimeout =>
    exact congrArg Host.Outcome.next (takePairAs_unpowered off _ _ _ _)
  | unknownCode | lengthByteFault => exact congrArg Host.Outcome.next (by simp [onFrame, off])
  | _ => exact request_unpowered off _ _ _ _

end

/-- Settles O5: what a loss of power leaves has no power, so nothing but a power-on acts on it; and a start reads the
nonvolatile store alone. -/
theorem powerLossKeepsTheStore : Obligations.PowerLossKeepsTheStore := by
  intro s
  have acts (c : Instr) (notOn : c ≠ .powerOn) (notLoss : c ≠ .powerLoss) :
      exec c { s.restart with powered := false } = .next { s.restart with powered := false } :=
    exec_unpowered rfl notOn notLoss
  exact ⟨{ s.restart with powered := false }, rfl, rfl, rfl, rfl, rfl, rfl, rfl, rfl, rfl, rfl, rfl, acts, rfl⟩

/-! ### The factory's first start -/

/-- The factory store is kept by a start: reset is what a power-on leaves of it (notes/assumptions/15.md). -/
theorem reset_restart : State.reset.restart = State.reset := rfl

theorem reset_slot (k : SlotId) : State.reset.slot k = Slot.empty :=
  congrFun (congrArg RollView.slots (view_restart State.reset)) k

theorem reset_head (h : HeadId) : State.reset.head h = Head.initial := (restart_volatile State.reset).2.1 h

theorem reset_link (l : LinkId) : State.reset.link l = Link.initial := (restart_volatile State.reset).2.2.1 l

theorem reset_typeEntry (i : TypeId) : State.reset.typeEntry i = ⟨none, 0⟩ := by
  simp [State.typeEntry, State.reset]

theorem lawful_reset : Lawful (view State.reset) := by
  rw [← reset_restart, view_restart]
  exact .blank _

/-- No slot of the factory roll is held. -/
theorem reset_holderPhase (k : SlotId) : (view State.reset).holderPhase k = none :=
  holderPhase_off fun h => by rw [view_slots, reset_slot]; simp [Slot.empty]

theorem statsSound_zero : StatsSound Stats.zero := by
  constructor <;> exact Nat.zero_le _

theorem headSound_initial : HeadSound Head.initial := by
  constructor
  case stats => exact ⟨statsSound_zero, statsSound_zero⟩
  all_goals simp [Head.initial]

theorem linkSound_initial (l : LinkId) : LinkSound l Link.initial := by
  constructor <;> simp [Link.initial]
  intro f
  cases f <;> simp [PerFault.get]

/-- The pages leave the factory with page A FILLING and nothing on either (R160). -/
theorem pagesLaw_reset : PagesLaw State.reset := by
  refine ⟨⟨rfl, Nat.zero_lt_succ 7⟩, ⟨rfl, rfl⟩, by decide, by decide, .inl ⟨rfl, rfl⟩, trivial⟩

/-- Settles O3: the factory store is read off reset, and an empty roll, idle heads and silent links meet every law. -/
theorem resetIsFactoryStartAndLawful : Obligations.ResetIsFactoryStartAndLawful := by
  refine ⟨reset_typeEntry, rfl, rfl, rfl, rfl, rfl, rfl, fun h => ?permit, fun k => ?allowance, fun i t loaded => ?types,
    pagesLaw_reset, (rollLaw_iff _).mpr lawful_reset, (verdictLaw_iff lawful_reset).mpr fun k => ?verdict,
    ⟨fun k c closing => ?records, fun p r mem => ?onPages⟩, fun _ => rfl, fun h => ⟨?sound, fun m ty mount => ?fits⟩, ?links⟩
  case permit => simp [reset_head, Head.initial, permitPhase]
  case allowance => simp [reset_slot, Slot.empty]
  case types => simp [reset_typeEntry] at loaded
  case verdict =>
    rw [reset_holderPhase, view_slots, reset_slot]
    exact .empty
  case records => simp [reset_slot, Slot.empty] at closing
  case onPages => cases p <;> cases mem
  case sound => exact reset_head h ▸ headSound_initial
  case fits => simp [reset_head, Head.initial] at mount
  case links =>
    exact ⟨fun l => reset_link l ▸ linkSound_initial l, rfl, fun l _ _ _ => by rw [reset_link]; decide⟩

end Sys2Proof.Settings

namespace Sys2Proof.Settings

open Sys2Proof.Machine Sys2Proof.Safety Sys2Proof.Laws Sys2Proof.Roll

/-! ### The lock of a type entry -/

/-- An open slot refers to type index `i` (R4, R29). -/
def RefersTo (s : State) (i : TypeId) : Prop := ∃ k d, (s.slot k).state.isOpen = true ∧ (s.slot k).ident = some d ∧ d.typeIdx = i

theorem locked_iff_refersTo (s : State) (i : TypeId) : s.locked i = true ↔ RefersTo s i := by
  simp only [locked_iff, RefersTo, Option.map_eq_some_iff]
  exact exists_congr fun k => by rw [exists_and_left]

/-- A command leaves the type entry that an open slot refers to: what writes an entry checks its lock (R29). -/
theorem types_of_open {v w : RollView} (T : RollStep v w) {k : SlotId} {d : Identity} (isOpen : (v.slots k).state.isOpen = true)
    (ident : (v.slots k).ident = some d) : w.types d.typeIdx = v.types d.typeIdx := by
  cases T with
  | reset slots => exact congrFun slots.types _
  | move M =>
    cases M with
    | typed i e unlocked written => exact Function.update_of_ne (unlocked k d isOpen ident) _ _
    | dropped D => exact congrFun D.types _
    | inspected j y => unfold RollView.inspected; cases y.worst <;> rfl
    | routed h m mount phase R => exact congrFun R.types _
    | closed j o m r C made frees => exact congrFun frees.types _
    | moved F => exact congrFun F.types _
    | _ => rfl

theorem isOpen_iff (x : SlotState) : x.isOpen = true ↔ x ≠ .free ∧ x ≠ .closed := by cases x <;> simp [SlotState.isOpen]

/-! ### LOAD_TYPE and DROP_TYPE, check by check -/

section
variable {s : State} (can : CanTake s .L5) {i : TypeId}
include can

theorem loadType_field {a : LoadTypeArgs} (unread : readTypeFields a = none) :
    exec (.loadType .L5 (.fields a)) s = .next (refusedWith s .L5 33 .field) :=
  request_refused .loadType a takeLoadType can rfl .field (by simp [takeLoadType, unread])

theorem loadType_locked {a : LoadTypeArgs} {f : TypeFields} (read : readTypeFields a = some (i, f)) (locked : s.locked i = true) :
    exec (.loadType .L5 (.fields a)) s = .next (refusedWith s .L5 33 .typeInUse) :=
  request_refused .loadType a takeLoadType can rfl .typeInUse (by simp [takeLoadType, read, locked])

theorem loadType_taken {a : LoadTypeArgs} {f : TypeFields} (read : readTypeFields a = some (i, f)) (unlocked : s.locked i = false) :
    exec (.loadType .L5 (.fields a)) s =
      .next (answered ((heard s .L5).setType i ⟨some ⟨f, nextRevision (s.typeEntry i).lastRev⟩, nextRevision (s.typeEntry i).lastRev⟩)
        .L5 33 .ok (u8 i.val ++ u8 (nextRevision (s.typeEntry i).lastRev))) :=
  request_ok .loadType a takeLoadType _ can rfl (by simp [takeLoadType, read, unlocked])

theorem dropType_field {n : Nat} (above : 32 ≤ n) : exec (.dropType .L5 (.fields n)) s = .next (refusedWith s .L5 34 .field) :=
  request_refused .dropType n takeDropType can rfl .field (by simp [takeDropType, typeOf_none n above])

theorem dropType_empty (empty : (s.typeEntry i).loaded = none) :
    exec (.dropType .L5 (.fields i.val)) s = .next (refusedWith s .L5 34 .empty) :=
  request_refused .dropType i.val takeDropType can rfl .empty (by simp [takeDropType, empty])

theorem dropType_locked (loaded : (s.typeEntry i).loaded ≠ none) (locked : s.locked i = true) :
    exec (.dropType .L5 (.fields i.val)) s = .next (refusedWith s .L5 34 .typeInUse) :=
  request_refused .dropType i.val takeDropType can rfl .typeInUse (by simp [takeDropType, loaded, locked])

theorem dropType_taken (loaded : (s.typeEntry i).loaded ≠ none) (unlocked : s.locked i = false) :
    exec (.dropType .L5 (.fields i.val)) s =
      .next (answered ((heard s .L5).setType i ⟨none, (s.typeEntry i).lastRev⟩) .L5 34 .ok
        (u8 i.val ++ u8 (s.typeEntry i).lastRev)) :=
  request_ok .dropType i.val takeDropType _ can rfl (by simp [takeDropType, loaded, unlocked])

end

/-- Settles O21: only LOAD_TYPE and DROP_TYPE write an entry, and both check its lock. -/
theorem openSlotLocksItsType : Obligations.OpenSlotLocksItsType := by
  refine ⟨fun c s t k d isOpen ident e => types_of_open (rollStep_exec e) isOpen ident, isOpen_iff, fun s can i => ?_⟩
  refine ⟨fun held => ?_, fun free => ?_⟩
  · have locked := (locked_iff_refersTo s i).mpr held
    refine ⟨fun a f read => loadType_locked can read locked, fun loaded => dropType_locked can loaded locked, fun law => ?_⟩
    obtain ⟨k, d, isOpen, ident, rfl⟩ := held
    obtain ⟨t, loaded, -⟩ := law.types k d isOpen ident
    simp [loaded]
  · have unlocked : s.locked i = false := by
      rw [← Bool.not_eq_true, locked_iff_refersTo]
      exact free
    exact ⟨fun a f read => ⟨_, _, loadType_taken can read unlocked⟩, fun loaded => ⟨_, dropType_taken can loaded unlocked⟩⟩

/-! ### The fields of a LOAD_TYPE (R26, R27, R30) -/

/-- The fields that a LOAD_TYPE gives an entry under a name that is read, for a proving type or an ordinary one. -/
def fieldsOf (a : LoadTypeArgs) (name : Text) (proving : Bool) : TypeFields :=
  { name := name, proving := proving, pt := a.pt, holdSeconds := a.holdSeconds, w := a.w, lp := a.lp, ree := a.ree,
    lo := a.lo, ld := a.ld, lr := a.lr, lw := a.lw, lifeYears := a.lifeYears, interval := a.interval, ls := a.ls,
    starInterval := a.starInterval, rampLimit := a.rampLimit, settleLimit := a.settleLimit,
    tn := if proving then some a.tn else none, lt := if proving then some a.lt else none }

/-- The checks that a LOAD_TYPE makes of its numbers. -/
def NumbersFit (a : LoadTypeArgs) (proving : Bool) : Prop :=
  typeRanges a = true ∧ provingRanges proving a = true ∧ poMax a.pt a.lr a.lo ≤ Config.headroomMax

theorem typeOf_eq_some (n : Nat) (i : TypeId) : typeOf n = some i ↔ i.val = n := by
  unfold typeOf
  split_ifs with below
  · rw [Option.some_inj, Fin.ext_iff]
    exact eq_comm
  · simp only [false_iff]
    omega

/-- A LOAD_TYPE is read exactly when its entry, its name and its mark are, and its numbers fit. -/
theorem readTypeFields_eq_some (a : LoadTypeArgs) (i : TypeId) (f : TypeFields) :
    readTypeFields a = some (i, f) ↔
      i.val = a.index ∧ readName a.name = some f.name ∧ a.proving = some f.proving ∧ NumbersFit a f.proving ∧
        f = fieldsOf a f.name f.proving := by
  simp only [readTypeFields, Option.bind_eq_bind, Option.bind_eq_some_iff, Option.ite_none_right_eq_some, Option.some.injEq,
    Prod.mk.injEq, Bool.and_eq_true, decide_eq_true_eq, ← typeOf_eq_some]
  constructor
  · rintro ⟨j, index, name, named, proving, marked, ⟨⟨ranges, kind⟩, room⟩, rfl, rfl⟩
    exact ⟨index, named, marked, ⟨ranges, kind, room⟩, rfl⟩
  · rintro ⟨index, named, marked, ⟨ranges, kind, room⟩, fields⟩
    exact ⟨i, index, _, named, _, marked, ⟨⟨ranges, kind⟩, room⟩, rfl, fields.symm⟩

/-- Sound fields have their numbers in range. -/
theorem typeRanges_of_sound {a : LoadTypeArgs} {name : Text} {proving : Bool} (S : TypeSound (fieldsOf a name proving)) :
    typeRanges a = true := by
  obtain ⟨pt, hold, w, lp, ree, lo, ld, lr, lw, life, interval, ls, star, ramp, settle, -, -, -⟩ := S
  simp only [fieldsOf] at *
  simp [typeRanges, inRange, *]

theorem provingRanges_of_sound {a : LoadTypeArgs} {name : Text} {proving : Bool} (S : TypeSound (fieldsOf a name proving))
    (ordinary : proving = false → a.tn = 0 ∧ a.lt = 0) : provingRanges proving a = true := by
  have tn := S.tn
  have lt := S.lt
  cases proving with
  | false => simpa [provingRanges] using ordinary rfl
  | true =>
    simp only [fieldsOf, if_true] at tn lt
    obtain ⟨_, ⟨⟩, tn⟩ := tn
    obtain ⟨_, ⟨⟩, lt⟩ := lt
    simp [provingRanges, inRange, tn, lt]

theorem room_of_sound {a : LoadTypeArgs} {name : Text} {proving : Bool} (S : TypeSound (fieldsOf a name proving)) :
    poMax a.pt a.lr a.lo ≤ Config.headroomMax := Nat.le_of_lt_succ S.headroom

/-- An ordinary type is loaded with Tn and Lt at 0 (R30). -/
theorem ordinary_of_fit {a : LoadTypeArgs} (fit : NumbersFit a false) : a.tn = 0 ∧ a.lt = 0 := by
  simpa [provingRanges] using fit.2.1

/-- Settles O39: the checks in their order, and a LOAD_TYPE is read exactly when its fields are sound. -/
theorem typeEntriesLoadAndDrop : Obligations.TypeEntriesLoadAndDrop := by
  refine ⟨fun s can => ⟨fun a => loadType_field can, fun a i f read => ⟨loadType_locked can read, loadType_taken can read⟩,
    fun n => dropType_field can, fun i => ⟨dropType_empty can, dropType_locked can, dropType_taken can⟩,
    locked_iff_refersTo s⟩, fun a i f => ⟨fun read => ?_, ?_⟩⟩
  · have sound := typeSound_readTypeFields read
    obtain ⟨index, named, marked, fit, fields⟩ := (readTypeFields_eq_some a i f).mp read
    refine ⟨index, named, marked, ?_, ?_, ?_, ?_, ?_, ?_, ?_, ?_, ?_, ?_, ?_, ?_, ?_, ?_, ?_, fun proving => ?present,
      fun ordinary => ?zero, sound⟩
    case present => rw [fields]; simp [fieldsOf, proving]
    case zero => exact ordinary_of_fit (ordinary ▸ fit)
    all_goals rw [fields]; rfl
  · rintro ⟨index, named, marked, pt, hold, w, lp, ree, lo, ld, lr, lw, life, interval, ls, star, ramp, settle, proving,
      ordinary, sound⟩
    have kept : f = fieldsOf a f.name f.proving := by
      have tn := sound.tn
      have lt := sound.lt
      obtain ⟨_, kind, _⟩ := f
      cases kind <;> simp_all [fieldsOf]
    have sound' : TypeSound (fieldsOf a f.name f.proving) := kept ▸ sound
    exact (readTypeFields_eq_some a i f).mpr
      ⟨index, named, marked, ⟨typeRanges_of_sound sound', provingRanges_of_sound sound' ordinary, room_of_sound sound'⟩, kept⟩

end Sys2Proof.Settings

namespace Sys2Proof.Settings

open Sys2Proof.Machine Sys2Proof.Safety Sys2Proof.Laws Sys2Proof.Roll

/-! ### SET_DATE and SNAPSHOT -/

theorem u32_eq_sent4 (n : Nat) : u32 n = sent4 n := by
  simp only [u32, sent4, sent2, sent1, Nat.div_div_eq_div_mul]
  rfl

theorem statsBytes_eq_sent (x : Stats) : statsBytes x = sentStats x := by
  simp [statsBytes, sentStats, yesNo_eq_sentYes, u16, sent2, sent1]

theorem statsItems_eq_sent (s : State) :
    statsItems s =
      sentYes (s.snapHeader ≠ none) ++ sentOr 3 sentDate (s.snapHeader.bind SnapHeader.period) ++
      sentOr 4 (fun x => sent4 x.clock) s.snapHeader ++
      ([HeadId.H0, .H1, .H2, .H3].flatMap fun h => sentStats (s.head h).snap) := by
  simp only [statsItems, yesNo_eq_sentYes, opt_eq_sentOr, statsBytes_eq_sent, u32_eq_sent4, ← List.flatMap_def,
    Option.isSome_iff_ne_none]
  rfl

/-- The dates of the calendar (R39). -/
def RealDate (d : Date) : Prop :=
  2000 ≤ d.year ∧ d.year ≤ 2099 ∧ 1 ≤ d.month ∧ d.month ≤ 12 ∧ 1 ≤ d.day ∧ d.day ≤ monthLength d.year d.month

theorem readDate_real {y m d : Nat} (real : RealDate ⟨y, m, d⟩) : readDate ⟨y, m, d⟩ = some ⟨y, m, d⟩ := by
  simp only [RealDate] at real
  simp [readDate, inRange, real]

theorem readDate_unreal {y m d : Nat} (unreal : ¬ RealDate ⟨y, m, d⟩) : readDate ⟨y, m, d⟩ = none := by
  rw [readDate, if_neg]
  simpa only [inRange, Bool.and_eq_true, decide_eq_true_eq, RealDate, and_assoc] using unreal

/-- What SET_DATE does with a real date: the snapshot first, of the old date, then the calendar and the mark (R39 to R41). -/
theorem setDate_real {s base : State} {l : LinkId} {y m d : Nat} (can : CanTake s l) (admitted : admits l .setDate = true)
    (real : RealDate ⟨y, m, d⟩)
    (snapped : base = if s.limits.mode = .onDate ∧ s.calendar ≠ some ⟨y, m, d⟩ then takeSnapshot (heard s l) else heard s l) :
    exec (.setDate l (.fields ⟨y, m, d⟩)) s =
      .next (answered { base with calendar := some ⟨y, m, d⟩, manualDate := if l = .L0 then true else s.manualDate } l 13 .ok
        (dateBytes ⟨y, m, d⟩)) := by
  have mark : (s.manualDate || decide (l = .L0)) = if l = .L0 then true else s.manualDate := by
    by_cases h : l = .L0 <;> simp [h]
  refine request_ok .setDate _ (takeSetDate l) _ can admitted ?_
  rw [takeSetDate, readDate_real real, ← mark, snapped]
  rfl

/-- Settles O38: the dates read are those of the calendar, and a snapshot passes the live counters on. -/
theorem datesAndSnapshots : Obligations.DatesAndSnapshots := by
  refine ⟨statsItems_eq_sent, fun s => ⟨fun can => request_ok .snapshot () takeSnapshotRequest _ can rfl rfl, ?_⟩⟩
  intro l panel can y m d last real base
  have admitted : admits l .setDate = true := by simpa [admits] using panel
  have agree : real ↔ RealDate ⟨y, m, d⟩ := by
    have months : last = monthLength y m := by simp [last, monthLength]
    simp only [real, RealDate, months]
  refine ⟨fun unreal => ?_, fun isReal => setDate_real (base := base) can admitted (agree.mp isReal) rfl⟩
  exact request_refused .setDate _ (takeSetDate l) can admitted .field
    (by simp [takeSetDate, readDate_unreal fun h => unreal (agree.mpr h)])

end Sys2Proof.Settings

namespace Sys2Proof.Settings

open Sys2Proof.Machine Sys2Proof.Safety Sys2Proof.Laws Sys2Proof.Roll

/-! ### One operation after another over a list

What the unit makes due it carries out link by link, head by head and slot by slot (notes/assumptions/3.md). One
operation does not change what the others find, so the whole is said of the state before the first. -/

section
variable {α β : Type} {f : State → α → State}

/-- A part that at most one of the operations touches is touched exactly when one of the list touches it. -/
theorem foldl_touches {T : State → α → Prop} [∀ s a, Decidable (T s a)] {read : State → β} {g : β → β}
    (one : ∀ s a, read (f s a) = if T s a then g (read s) else read s) (apart : ∀ s a b, b ≠ a → (T (f s a) b ↔ T s b))
    (alone : ∀ s a b, T s a → T s b → b = a) {xs : List α} (once : xs.Nodup) (s : State) [Decidable (∃ a ∈ xs, T s a)] :
    read (xs.foldl f s) = if ∃ a ∈ xs, T s a then g (read s) else read s := by
  classical
  induction xs generalizing s with
  | nil => simp
  | cons a xs ih =>
    obtain ⟨new, once⟩ := List.nodup_cons.mp once
    have rest : (∃ b ∈ xs, T (f s a) b) ↔ ∃ b ∈ xs, T s b :=
      exists_congr fun b => and_congr_right fun mem => apart s a b (ne_of_mem_of_not_mem mem new)
    rw [List.foldl_cons, ih once, one]
    simp only [rest, List.exists_mem_cons_iff]
    by_cases touched : T s a
    · have noMore : ¬ ∃ b ∈ xs, T s b := fun ⟨b, mem, t⟩ => new (alone s a b touched t ▸ mem)
      simp [touched, noMore]
    · simp [touched]

/-- The items that an operation adds to the pending set of a link: those of `P`, unless the link is STOPPED (R182). -/
structure Gains (l : LinkId) (P : Notice → Prop) (s t : State) : Prop where
  stopped : (t.link l).state = .stopped ↔ (s.link l).state = .stopped
  pends : ∀ n, n ∈ (t.link l).pending ↔ n ∈ (s.link l).pending ∨ ((s.link l).state ≠ .stopped ∧ P n)

namespace Gains
variable {l : LinkId} {P Q : Notice → Prop} {s t u : State}

theorem congr (G : Gains l P s t) (h : ∀ n, P n ↔ Q n) : Gains l Q s t := ⟨G.stopped, fun n => by rw [G.pends, h]⟩

theorem trans (G : Gains l P s t) (H : Gains l Q t u) : Gains l (fun n => P n ∨ Q n) s u := by
  refine ⟨H.stopped.trans G.stopped, fun n => ?_⟩
  simp only [H.pends, G.pends, ne_eq, G.stopped]
  tauto

/-- An operation that leaves the pending set, and a link STOPPED or not, adds nothing. -/
theorem nothing (stopped : (t.link l).state = .stopped ↔ (s.link l).state = .stopped)
    (pending : (t.link l).pending = (s.link l).pending) : Gains l (fun _ => False) s t :=
  ⟨stopped, fun n => by rw [pending]; simp⟩

theorem refl (s : State) : Gains l (fun _ => False) s s := nothing .rfl rfl

theorem raise (m : Notice) (s : State) : Gains l (fun n => n = m ∧ l ∈ towards m.kind) s (Machine.raise m s) := by
  constructor
  · rw [raise_link]
    split_ifs
    · rw [noted_state]
    · rfl
  · intro n
    rw [raise_link]
    split_ifs with reached
    · by_cases dead : (s.link l).state = .stopped <;> simp [noted, dead, mem_withNotice, reached, or_comm]
    · simp [reached]

/-- Operations that do not change what the others add. -/
theorem foldl {P : State → α → Notice → Prop} (one : ∀ s a, Gains l (P s a) s (f s a))
    (apart : ∀ s a b n, b ≠ a → (P (f s a) b n ↔ P s b n)) {xs : List α} (once : xs.Nodup) (s : State) :
    Gains l (fun n => ∃ a ∈ xs, P s a n) s (xs.foldl f s) := by
  induction xs generalizing s with
  | nil => exact (refl s).congr (by simp)
  | cons a xs ih =>
    obtain ⟨new, once⟩ := List.nodup_cons.mp once
    refine ((one s a).trans (ih once (f s a))).congr fun n => ?_
    rw [List.exists_mem_cons_iff]
    exact or_congr_right (exists_congr fun b => and_congr_right fun mem => apart s a b n (ne_of_mem_of_not_mem mem new))

end Gains

/-- A state that differs from another in its links, heads and slots at most. -/
def SameButLine (s t : State) : Prop := t = { s with links := t.links, heads := t.heads, slots := t.slots }

namespace SameButLine
variable {s t u : State}

theorem refl (s : State) : SameButLine s s := rfl

theorem trans (h : SameButLine s t) (g : SameButLine t u) : SameButLine s u := by
  unfold SameButLine at *
  rw [g, h]

theorem foldl (one : ∀ s a, SameButLine s (f s a)) (xs : List α) (s : State) : SameButLine s (xs.foldl f s) := by
  induction xs generalizing s with
  | nil => exact .refl s
  | cons a xs ih => exact (one s a).trans (ih (f s a))

theorem of_links (h : SameButLinks s t) : SameButLine s t := by
  unfold SameButLinks SameButLine at *
  rw [h]

theorem raise (n : Notice) (s : State) : SameButLine s (Machine.raise n s) :=
  of_links (SameButLinks.foldl (fun u l => .raiseTo n l u) _ s)

theorem limits (h : SameButLine s t) : t.limits = s.limits := by rw [h]
theorem clock (h : SameButLine s t) : t.clock = s.clock := by rw [h]

end SameButLine

end

/-- A link but for its pending set. -/
def bare (k : Link) : Link := { k with pending := [] }

theorem bare_raise (n : Notice) (s : State) (l : LinkId) : bare ((raise n s).link l) = bare (s.link l) := by
  rw [raise_link]
  split_ifs
  · unfold noted
    split <;> rfl
  · rfl

/-! ### Heads lapsed (R122, R124) -/

/-- A head without a proving record (R117). -/
def unproved (x : Head) : Head := { x with proving := none }

/-- A head whose validity has run out is UNPROVED, with its notice; any other stands. -/
theorem lapseIfExpired_eq (s : State) (h : HeadId) :
    lapseIfExpired s h = if s.expired h then raise (.headUnproved h) (s.setHead h (unproved (s.head h))) else s := by
  unfold lapseIfExpired
  split_ifs with due
  · have proved : (s.head h).proving ≠ none := fun none => by simp [State.expired, none] at due
    rw [lapse_cases, if_neg proved]
    rfl
  · rfl

theorem sameButLine_lapseIfExpired (s : State) (h : HeadId) : SameButLine s (lapseIfExpired s h) := by
  rw [lapseIfExpired_eq]
  split_ifs
  · exact SameButLine.trans (show SameButLine s (s.setHead h _) from rfl) (.raise _ _)
  · exact .refl s

theorem head_lapseIfExpired (s : State) (a h : HeadId) :
    (lapseIfExpired s a).head h = if a = h ∧ s.expired a = true then unproved (s.head h) else s.head h := by
  rw [lapseIfExpired_eq]
  by_cases due : s.expired a = true
  · rw [if_pos due, raise_head, State.head_setHead]
    by_cases e : h = a
    · subst e; simp [due]
    · simp [e, Ne.symm e]
  · simp [due]

/-- One head lapsed leaves whether another is due. -/
theorem expired_apart (s : State) (a b : HeadId) (other : b ≠ a) : (lapseIfExpired s a).expired b = s.expired b := by
  have same := sameButLine_lapseIfExpired s a
  simp only [State.expired, same.limits, same.clock, head_lapseIfExpired, other.symm, false_and, if_false]

theorem allHeads_nodup : allHeads.Nodup := by decide

theorem head_lapseExpired (s : State) (h : HeadId) :
    (lapseExpired s).head h = if s.expired h = true then unproved (s.head h) else s.head h := by
  have all := foldl_touches (read := fun s => s.head h) (g := unproved) (T := fun s a => a = h ∧ s.expired a = true)
    (fun s a => head_lapseIfExpired s a h) (fun s a b other => by rw [expired_apart s a b other])
    (fun s a b ha hb => hb.1.trans ha.1.symm) allHeads_nodup s
  rw [lapseExpired, all]
  simp

theorem bare_lapseExpired (s : State) (l : LinkId) : bare ((lapseExpired s).link l) = bare (s.link l) :=
  foldl_keeps (fun s => bare (s.link l)) _ (fun s h => by
    rw [lapseIfExpired_eq]
    split_ifs
    · exact bare_raise _ _ l
    · rfl) _ s

/-- The items that the lapses add to a link. -/
theorem gains_lapseExpired (s : State) (l : LinkId) :
    Gains l (fun n => (l = .L0 ∨ l = .L2) ∧ ∃ h, s.expired h = true ∧ n = .headUnproved h) s (lapseExpired s) := by
  refine (Gains.foldl (P := fun s h n => s.expired h = true ∧ n = .headUnproved h ∧ (l = .L0 ∨ l = .L2)) (fun s h => ?_)
    (fun s a b n other => by rw [expired_apart s a b other]) allHeads_nodup s).congr fun n => ?_
  · rw [lapseIfExpired_eq]
    split_ifs with due
    · have written : Gains l (fun _ => False) s (s.setHead h (unproved (s.head h))) := .nothing .rfl rfl
      refine (written.trans (.raise (.headUnproved h) _)).congr fun n => ?_
      simp [due, Notice.kind, towards]
    · exact (Gains.refl s).congr (by simp [due])
  · simp only [mem_allHeads, true_and, ← and_assoc, exists_and_right]
    exact and_comm

/-! ### Links lost (R180) -/

/-- A slot whose claim the link gives up if it holds it (R19). -/
theorem slot_dropIfHeld (s : State) (l : LinkId) (a k : SlotId) :
    (dropIfHeld l s a).slot k =
      if a = k ∧ (s.slot a).holder = some (.link l) then givenUp (s.slot k) else s.slot k := by
  unfold dropIfHeld
  by_cases held : (s.slot a).holder = some (.link l)
  · rw [if_pos held, ← view_slots, view_giveUpClaim]
    by_cases e : k = a
    · subst e; rw [setSlot_slots_self, if_pos ⟨rfl, held⟩]
    · rw [setSlot_slots_other e, if_neg fun h => e h.1.symm, view_slots]
  · simp [held]

theorem dropIfHeld_apart (s : State) (l : LinkId) (a b : SlotId) (other : b ≠ a) : (dropIfHeld l s a).slot b = s.slot b := by
  rw [slot_dropIfHeld, if_neg fun h => other h.1.symm]

theorem allSlots_nodup : allSlots.Nodup := List.nodup_finRange 48

theorem slot_dropClaims (s : State) (l : LinkId) (k : SlotId) :
    (dropClaims l s).slot k = if (s.slot k).holder = some (.link l) then givenUp (s.slot k) else s.slot k := by
  have all := foldl_touches (read := fun s => s.slot k) (g := givenUp)
    (T := fun s a => a = k ∧ (s.slot a).holder = some (.link l)) (fun s a => slot_dropIfHeld s l a k)
    (fun s a b other => by rw [dropIfHeld_apart s l a b other]) (fun s a b ha hb => hb.1.trans ha.1.symm) allSlots_nodup s
  rw [dropClaims, all]
  simp

/-- The notice of a claim given up: the slot waits again to be stamped or to be scrapped (R11, R18). -/
def WaitsAgain (x : Slot) (l : LinkId) (n : Notice) : Prop :=
  (x.state = .stamping ∧ l = .L3 ∧ n = .stampReady) ∨ (x.state = .scrapping ∧ l = .L4 ∧ n = .scrapReady)

theorem gains_giveUpClaim (k : SlotId) (s : State) (l : LinkId) : Gains l (WaitsAgain (s.slot k) l) s (giveUpClaim k s) := by
  have unheld (st : SlotState) : Gains l (fun _ => False) s (enterUnheld k st s) := .nothing .rfl rfl
  obtain ⟨state, e⟩ | ⟨state, e⟩ | ⟨state, e⟩ | ⟨-, stamping, scrapping, e⟩ := giveUpClaim_cases k s <;> rw [e]
  · exact (unheld _).congr (by simp [WaitsAgain, state])
  · exact ((unheld _).trans (.raise .stampReady _)).congr (by simp [WaitsAgain, state, Notice.kind, towards, and_comm])
  · exact ((unheld _).trans (.raise .scrapReady _)).congr (by simp [WaitsAgain, state, Notice.kind, towards, and_comm])
  · exact (Gains.refl s).congr (by simp [WaitsAgain, stamping, scrapping])

theorem gains_dropClaims (m : LinkId) (s : State) (l : LinkId) :
    Gains l (fun n => ∃ k, (s.slot k).holder = some (.link m) ∧ WaitsAgain (s.slot k) l n) s (dropClaims m s) := by
  refine (Gains.foldl (P := fun s k n => (s.slot k).holder = some (.link m) ∧ WaitsAgain (s.slot k) l n) (fun s k => ?_)
    (fun s a b n other => by rw [dropIfHeld_apart s m a b other]) allSlots_nodup s).congr (by simp)
  unfold dropIfHeld
  split_ifs with held
  · exact (gains_giveUpClaim k s l).congr (by simp [held])
  · exact (Gains.refl s).congr (by simp [held])

theorem sameButLine_giveUpClaim (k : SlotId) (s : State) : SameButLine s (giveUpClaim k s) := by
  have unheld (st : SlotState) : SameButLine s (enterUnheld k st s) := rfl
  obtain ⟨-, e⟩ | ⟨-, e⟩ | ⟨-, e⟩ | ⟨-, -, -, e⟩ := giveUpClaim_cases k s <;> rw [e]
  · exact unheld _
  · exact (unheld _).trans (.raise _ _)
  · exact (unheld _).trans (.raise _ _)
  · exact .refl s

theorem sameButLine_loseLink (l : LinkId) (s : State) : SameButLine s (loseLink l s) := by
  have marked : SameButLine s (s.updLink l fun k => { k with state := .lost }) := rfl
  refine (marked.trans (.foldl (fun u k => ?_) _ _)).trans (.raise _ _)
  unfold dropIfHeld
  split_ifs
  · exact sameButLine_giveUpClaim k u
  · exact .refl u

theorem heads_giveUpClaim (k : SlotId) (s : State) : (giveUpClaim k s).heads = s.heads := by
  obtain ⟨-, e⟩ | ⟨-, e⟩ | ⟨-, e⟩ | ⟨-, -, -, e⟩ := giveUpClaim_cases k s <;> rw [e]
  · rfl
  · exact raise_heads _ _
  · exact raise_heads _ _

theorem heads_loseLink (l : LinkId) (s : State) : (loseLink l s).heads = s.heads := by
  rw [loseLink, raise_heads]
  exact foldl_keeps (fun s => s.heads) _ (fun u k => by
    unfold dropIfHeld
    split_ifs
    · exact heads_giveUpClaim k u
    · rfl) _ _

/-- The links lost leave the heads. -/
theorem heads_loseSilentLinks (s : State) : (loseSilentLinks s).heads = s.heads :=
  foldl_keeps (fun s => s.heads) _ (fun u l => by
    unfold loseIfSilent
    split_ifs
    · exact heads_loseLink l u
    · rfl) _ s

/-- The link's silence has reached the limit (R180). -/
def SilentAt (s : State) (l : LinkId) : Prop := (s.link l).silent s.limits.silence = true

theorem silentAt_iff (s : State) (l : LinkId) :
    SilentAt s l ↔ (s.link l).state = .running ∧ s.limits.silence ≠ 0 ∧ s.limits.silence ≤ (s.link l).timer := by
  simp [SilentAt, Link.silent]

/-- Silence is read from a link's state and timer, not from what is pending on it. -/
theorem silentAt_congr {s t : State} {l : LinkId} (limits : t.limits = s.limits) (link : bare (t.link l) = bare (s.link l)) :
    SilentAt t l ↔ SilentAt s l := by
  have state : (t.link l).state = (s.link l).state := (congrArg Link.state link :)
  have timer : (t.link l).timer = (s.link l).timer := (congrArg Link.timer link :)
  rw [silentAt_iff, silentAt_iff, limits, state, timer]

/-- A link that is LOST. -/
def lost (k : Link) : Link := { k with state := .lost }

theorem bare_giveUpClaim (k : SlotId) (s : State) (l : LinkId) : bare ((giveUpClaim k s).link l) = bare (s.link l) := by
  obtain ⟨-, e⟩ | ⟨-, e⟩ | ⟨-, e⟩ | ⟨-, -, -, e⟩ := giveUpClaim_cases k s <;> rw [e]
  · rfl
  · exact bare_raise _ _ l
  · exact bare_raise _ _ l

theorem bare_dropClaims (m : LinkId) (s : State) (l : LinkId) : bare ((dropClaims m s).link l) = bare (s.link l) :=
  foldl_keeps (fun s => bare (s.link l)) _ (fun s k => by
    unfold dropIfHeld
    split_ifs
    · exact bare_giveUpClaim k s l
    · rfl) _ s

theorem bare_loseLink (m : LinkId) (s : State) (l : LinkId) :
    bare ((loseLink m s).link l) = if m = l then lost (bare (s.link l)) else bare (s.link l) := by
  rw [loseLink, bare_raise, bare_dropClaims, State.link_updLink]
  by_cases e : l = m
  · subst e; simp [bare, lost]
  · simp [e, Ne.symm e]

theorem slot_loseLink (m : LinkId) (s : State) (k : SlotId) :
    (loseLink m s).slot k = if (s.slot k).holder = some (.link m) then givenUp (s.slot k) else s.slot k := by
  rw [loseLink, raise_slot, slot_dropClaims, State.slot_updLink]

/-- What the loss of link m adds to link l: LINK_LOST, and the notices of the claims dropped (R19, R180). -/
def LossNotice (s : State) (m l : LinkId) (n : Notice) : Prop :=
  (l = .L0 ∧ n = .linkLost m) ∨ ∃ k, (s.slot k).holder = some (.link m) ∧ WaitsAgain (s.slot k) l n

theorem gains_loseLink {m : LinkId} {s : State} (runs : (s.link m).state = .running) (l : LinkId) :
    Gains l (LossNotice s m l) s (loseLink m s) := by
  have marked : Gains l (fun _ => False) s (s.updLink m fun k => { k with state := .lost }) := by
    apply Gains.nothing <;> rw [State.link_updLink] <;> split_ifs with e
    · simp [e, runs]
    · rfl
    · rw [e]
    · rfl
  refine ((marked.trans (gains_dropClaims m _ l)).trans (.raise (.linkLost m) _)).congr fun n => ?_
  simp only [LossNotice, Notice.kind, towards, List.mem_singleton, State.slot_updLink, false_or]
  exact or_comm.trans (or_congr_left and_comm)

/-! ### Every link whose silence has reached the limit -/

theorem loseIfSilent_of_silent {s : State} {m : LinkId} (silent : SilentAt s m) : loseIfSilent s m = loseLink m s := if_pos silent

theorem loseIfSilent_of_not_silent {s : State} {m : LinkId} (heard : ¬ SilentAt s m) : loseIfSilent s m = s := if_neg heard

theorem sameButLine_loseIfSilent (s : State) (m : LinkId) : SameButLine s (loseIfSilent s m) := by
  by_cases silent : SilentAt s m
  · rw [loseIfSilent_of_silent silent]
    exact sameButLine_loseLink m s
  · rw [loseIfSilent_of_not_silent silent]
    exact .refl s

section
open Classical

theorem bare_loseIfSilent (s : State) (m l : LinkId) :
    bare ((loseIfSilent s m).link l) = if m = l ∧ SilentAt s m then lost (bare (s.link l)) else bare (s.link l) := by
  by_cases silent : SilentAt s m
  · rw [loseIfSilent_of_silent silent, bare_loseLink]
    simp [silent]
  · rw [loseIfSilent_of_not_silent silent]
    simp [silent]

theorem slot_loseIfSilent (s : State) (m : LinkId) (k : SlotId) :
    (loseIfSilent s m).slot k =
      if SilentAt s m ∧ (s.slot k).holder = some (.link m) then givenUp (s.slot k) else s.slot k := by
  by_cases silent : SilentAt s m
  · rw [loseIfSilent_of_silent silent, slot_loseLink]
    simp [silent]
  · rw [loseIfSilent_of_not_silent silent]
    simp [silent]

/-- One link lost leaves whether another is silent. -/
theorem silentAt_apart (s : State) (a b : LinkId) (other : b ≠ a) : SilentAt (loseIfSilent s a) b ↔ SilentAt s b :=
  silentAt_congr (sameButLine_loseIfSilent s a).limits (by rw [bare_loseIfSilent, if_neg fun h => other h.1.symm])

/-- One link lost leaves every slot that another holds. -/
theorem held_apart (s : State) (a b : LinkId) (k : SlotId) (other : b ≠ a) :
    ((loseIfSilent s a).slot k).holder = some (.link b) ↔ (s.slot k).holder = some (.link b) := by
  rw [slot_loseIfSilent]
  split_ifs with held
  · have notB : (s.slot k).holder ≠ some (.link b) := by rw [held.2]; simpa using other.symm
    unfold givenUp
    split_ifs
    · simp [notB, unheld]
    · rfl
  · rfl

theorem slot_apart (s : State) (a b : LinkId) (k : SlotId) (other : b ≠ a) (held : (s.slot k).holder = some (.link b)) :
    (loseIfSilent s a).slot k = s.slot k := by
  rw [slot_loseIfSilent, if_neg]
  rintro ⟨-, heldA⟩
  rw [held] at heldA
  exact other (by simpa using heldA)

theorem lossNotice_apart (s : State) (a b l : LinkId) (n : Notice) (other : b ≠ a) :
    LossNotice (loseIfSilent s a) b l n ↔ LossNotice s b l n := by
  refine or_congr_right (exists_congr fun k => ?_)
  rw [held_apart s a b k other]
  exact and_congr_right fun held => by rw [slot_apart s a b k other held]

theorem timedLinks_nodup : timedLinks.Nodup := by decide

theorem mem_timedLinks (l : LinkId) : l ∈ timedLinks ↔ l ≠ .L0 := by cases l <;> decide

theorem bare_loseSilentLinks (s : State) (l : LinkId) :
    bare ((loseSilentLinks s).link l) = if l ≠ .L0 ∧ SilentAt s l then lost (bare (s.link l)) else bare (s.link l) := by
  have all := foldl_touches (read := fun s => bare (s.link l)) (g := lost) (T := fun s a => a = l ∧ SilentAt s a)
    (fun s a => bare_loseIfSilent s a l) (fun s a b other => by rw [silentAt_apart s a b other])
    (fun s a b ha hb => hb.1.trans ha.1.symm) timedLinks_nodup s
  rw [loseSilentLinks, all]
  simp [← mem_timedLinks]

theorem slot_loseSilentLinks (s : State) (k : SlotId) :
    (loseSilentLinks s).slot k =
      if ∃ m, (m ≠ .L0 ∧ SilentAt s m) ∧ (s.slot k).holder = some (.link m) then givenUp (s.slot k) else s.slot k := by
  have all := foldl_touches (read := fun s => s.slot k) (g := givenUp)
    (T := fun s a => SilentAt s a ∧ (s.slot k).holder = some (.link a)) (fun s a => slot_loseIfSilent s a k)
    (fun s a b other => by rw [silentAt_apart s a b other, held_apart s a b k other])
    (fun s a b ha hb => by simpa using hb.2.symm.trans ha.2) timedLinks_nodup s
  rw [loseSilentLinks, all]
  simp only [mem_timedLinks, and_assoc]

theorem gains_loseSilentLinks (s : State) (l : LinkId) :
    Gains l (fun n => ∃ m, (m ≠ .L0 ∧ SilentAt s m) ∧ LossNotice s m l n) s (loseSilentLinks s) := by
  refine (Gains.foldl (P := fun s m n => SilentAt s m ∧ LossNotice s m l n) (fun s m => ?_)
    (fun s a b n other => by rw [silentAt_apart s a b other, lossNotice_apart s a b l n other]) timedLinks_nodup s).congr fun n => ?_
  · by_cases silent : SilentAt s m
    · rw [loseIfSilent_of_silent silent]
      exact (gains_loseLink ((silentAt_iff s m).mp silent).1 l).congr (by simp [silent])
    · rw [loseIfSilent_of_not_silent silent]
      exact (Gains.refl s).congr (by simp [silent])
  · simp only [mem_timedLinks, and_assoc]

end

end Sys2Proof.Settings

namespace Sys2Proof.Settings

open Sys2Proof.Machine Sys2Proof.Safety Sys2Proof.Laws Sys2Proof.Roll

/-! ### SET_MARK (R34, R35) -/

/-- The 37 characters of R34: the digits, the letters without I, O and Q, and the four signs. -/
def dieSet : List Byte :=
  [0x30, 0x31, 0x32, 0x33, 0x34, 0x35, 0x36, 0x37, 0x38, 0x39] ++
  [0x41, 0x42, 0x43, 0x44, 0x45, 0x46, 0x47, 0x48, 0x4A, 0x4B, 0x4C, 0x4D, 0x4E, 0x50, 0x52, 0x53, 0x54, 0x55, 0x56, 0x57,
    0x58, 0x59, 0x5A] ++ [0x2F, 0x2D, 0x2A, 0x20]

/-- A character after the substitutions of R35. -/
def struck (c : Byte) : Byte :=
  if c = 0x49 ∨ c = 0x69 then 0x31
  else if c = 0x4F ∨ c = 0x6F ∨ c = 0x51 ∨ c = 0x71 then 0x30
  else if 0x61 ≤ c.toNat ∧ c.toNat ≤ 0x7A then BitVec.ofNat 8 (c.toNat - 0x20)
  else c

/-- The unit's test of a character is membership in the list, at each of the 256 bytes. -/
theorem inDieSet_iff : ∀ c : Byte, inDieSet c = true ↔ c ∈ dieSet := by decide

theorem dieChar_eq_struck : ∀ c : Byte, dieChar c = struck c := by decide

/-- A mark that is refused: no character or more than four, a character that the dies cannot strike, or spaces alone. -/
def MarkRefused (cs : Text) : Prop :=
  cs.length = 0 ∨ 4 < cs.length ∨ (∃ c ∈ cs.map struck, c ∉ dieSet) ∨ ∀ c ∈ cs.map struck, c = 0x20

theorem map_dieChar (cs : Text) : cs.map dieChar = cs.map struck := List.map_congr_left fun c _ => dieChar_eq_struck c

/-- The characters that a SET_MARK stores, or its refusal (R35). -/
theorem readMarkChars_eq (cs : Text) [Decidable (MarkRefused cs)] :
    readMarkChars cs = if MarkRefused cs then none else some (cs.map struck) := by
  have strikes : (cs.map struck).all inDieSet = true ↔ ¬ ∃ c ∈ cs.map struck, c ∉ dieSet := by
    simp only [List.all_eq_true, inDieSet_iff, not_exists, not_and, not_not]
  have blank : (cs.map struck).all (· = spaceChar) = true ↔ ∀ c ∈ cs.map struck, c = 0x20 := by
    simp only [List.all_eq_true, decide_eq_true_eq]
    rfl
  have accepted : (1 ≤ cs.length ∧ cs.length ≤ 4 ∧ (cs.map struck).all inDieSet = true ∧
      ¬ (cs.map struck).all (· = spaceChar) = true) ↔ ¬ MarkRefused cs := by
    rw [strikes, blank, MarkRefused, not_or, not_or, not_or, not_lt, Nat.one_le_iff_ne_zero]
  unfold readMarkChars
  simp only [map_dieChar, accepted, ite_not]

theorem setMark_refused {s : State} (can : CanTake s .L5) {cs : Text} (refused : MarkRefused cs) :
    exec (.setMark .L5 (.fields cs)) s = .next (refusedWith s .L5 36 .field) := by
  classical
  exact request_refused .setMark cs takeSetMark can rfl .field (by simp [takeSetMark, readMarkChars_eq, refused])

theorem setMark_taken {s : State} (can : CanTake s .L5) {cs : Text} (accepted : ¬ MarkRefused cs) :
    exec (.setMark .L5 (.fields cs)) s =
      .next (answered { heard s .L5 with mark := cs.map struck } .L5 36 .ok (padRight 4 (cs.map struck))) := by
  classical
  exact request_ok .setMark cs takeSetMark _ can rfl (by simp [takeSetMark, readMarkChars_eq, accepted])

/-! ### SET_LIMITS (R37, R38) -/

theorem limitsItems_eq_sent (x : Limits) :
    limitsItems x = sent2 x.validity ++ sent2 x.testLimit ++ sent1 x.silence ++ sentPlace [SnapMode.manual, .onDate] x.mode := by
  have mode : u8 (toPosition SnapMode.list (some x.mode)) = sentPlace [SnapMode.manual, .onDate] x.mode := by
    cases x.mode <;> rfl
  rw [limitsItems, mode]
  rfl

theorem setLimits_refused {s : State} (can : CanTake s .L5) (v n q : Nat) :
    exec (.setLimits .L5 (.fields ⟨v, n, q, none⟩)) s = .next (refusedWith s .L5 37 .field) :=
  request_refused .setLimits _ takeSetLimits can rfl .field rfl

theorem setLimits_taken {s : State} (can : CanTake s .L5) (v n q : Nat) (mode : SnapMode) (x : Limits)
    (clamped : x = ⟨clamp 30 1440 v, clamp 1 500 n, clamp 0 60 q, mode⟩) :
    exec (.setLimits .L5 (.fields ⟨v, n, q, some mode⟩)) s =
      .next (answered (loseSilentLinks (lapseExpired { heard s .L5 with limits := x })) .L5 37 .ok (limitsItems x)) := by
  subst clamped
  exact request_ok .setLimits _ takeSetLimits _ can rfl rfl

/-! ### What new limits make due (R38, R122, R180) -/

section
variable {u : State}

/-- The link is lost to the limits: it is timed, and silent (R180). -/
def LinkDue (u : State) (l : LinkId) : Prop := l ≠ .L0 ∧ SilentAt u l

/-- Links that are the same but for their state and pending set. -/
theorem link_of_bare {k m : Link} {st : LinkState} (h : bare m = { bare k with state := st }) :
    m = { k with state := m.state, pending := m.pending } := by
  obtain ⟨⟩ := k
  obtain ⟨⟩ := m
  simp_all [bare]

/-- What the limits make due: heads lapsed, then links lost. -/
def made (u : State) : State := loseSilentLinks (lapseExpired u)

theorem sameButLine_made (u : State) : SameButLine u (made u) :=
  (SameButLine.foldl sameButLine_lapseIfExpired _ u).trans (.foldl sameButLine_loseIfSilent _ _)

theorem slot_lapseExpired (u : State) (k : SlotId) : (lapseExpired u).slot k = u.slot k :=
  congrFun (congrArg RollView.slots (view_lapseExpired u)) k

/-- The lapses leave which links are due. -/
theorem silentAt_lapseExpired (u : State) (l : LinkId) : SilentAt (lapseExpired u) l ↔ SilentAt u l :=
  silentAt_congr (SameButLine.foldl sameButLine_lapseIfExpired _ u).limits (bare_lapseExpired u l)

section
open Classical

theorem bare_made (u : State) (l : LinkId) :
    bare ((made u).link l) = { bare (u.link l) with state := if LinkDue u l then .lost else (u.link l).state } := by
  rw [made, bare_loseSilentLinks, bare_lapseExpired, silentAt_lapseExpired]
  by_cases due : LinkDue u l
  · rw [if_pos due]
    exact if_pos due
  · rw [if_neg due]
    exact if_neg due

theorem state_made (u : State) (l : LinkId) :
    ((made u).link l).state = if LinkDue u l then .lost else (u.link l).state := (congrArg Link.state (bare_made u l) :)

theorem slot_made (u : State) (k : SlotId) :
    (made u).slot k = if ∃ l, LinkDue u l ∧ (u.slot k).holder = some (.link l) then givenUp (u.slot k) else u.slot k := by
  simp only [made, slot_loseSilentLinks, silentAt_lapseExpired, slot_lapseExpired]
  rfl

end

theorem head_made (u : State) (h : HeadId) :
    (made u).head h = if u.expired h = true then unproved (u.head h) else u.head h := by
  rw [made, State.head, heads_loseSilentLinks]
  exact head_lapseExpired u h

/-- A slot's claim given up raises the notice of the link that held it alone (R11, R19). -/
theorem waitsAgain_iff {x : Slot} (S : SlotSound x) {m : LinkId} (held : x.holder = some (.link m)) (l : LinkId) (n : Notice) :
    WaitsAgain x l n ↔ (m = .L3 ∧ l = .L3 ∧ n = .stampReady) ∨ (m = .L4 ∧ l = .L4 ∧ n = .scrapReady) := by
  obtain ⟨state, rfl⟩ | ⟨state, rfl⟩ | ⟨state, rfl⟩ := held_cases ((S.linkHolder m).mp held) <;> simp [WaitsAgain, state]

/-- What the losses add to a link, on a lawful roll. -/
theorem exists_lossNotice_iff (law : RollLaw u) (l : LinkId) (n : Notice) :
    (∃ m, LinkDue u m ∧ LossNotice u m l n) ↔
      (l = .L0 ∧ ∃ m, LinkDue u m ∧ n = .linkLost m) ∨
        (l = .L3 ∧ n = .stampReady ∧ LinkDue u .L3 ∧ ∃ k, (u.slot k).holder = some (.link .L3)) ∨
        (l = .L4 ∧ n = .scrapReady ∧ LinkDue u .L4 ∧ ∃ k, (u.slot k).holder = some (.link .L4)) := by
  have sound (k : SlotId) : SlotSound (u.slot k) := ((rollLaw_iff u).mp law).slot k
  constructor
  · rintro ⟨m, due, ⟨rfl, rfl⟩ | ⟨k, held, waits⟩⟩
    · exact .inl ⟨rfl, m, due, rfl⟩
    · obtain ⟨rfl, rfl, rfl⟩ | ⟨rfl, rfl, rfl⟩ := (waitsAgain_iff (sound k) held l n).mp waits
      · exact .inr (.inl ⟨rfl, rfl, due, k, held⟩)
      · exact .inr (.inr ⟨rfl, rfl, due, k, held⟩)
  · rintro (⟨rfl, m, due, rfl⟩ | ⟨rfl, rfl, due, k, held⟩ | ⟨rfl, rfl, due, k, held⟩)
    · exact ⟨m, due, .inl ⟨rfl, rfl⟩⟩
    · exact ⟨.L3, due, .inr ⟨k, held, (waitsAgain_iff (sound k) held _ _).mpr (.inl ⟨rfl, rfl, rfl⟩)⟩⟩
    · exact ⟨.L4, due, .inr ⟨k, held, (waitsAgain_iff (sound k) held _ _).mpr (.inr ⟨rfl, rfl, rfl⟩)⟩⟩

/-- What the limits add to a link. -/
theorem gains_made (u : State) (l : LinkId) :
    Gains l (fun n => ((l = .L0 ∨ l = .L2) ∧ ∃ h, u.expired h = true ∧ n = .headUnproved h) ∨ ∃ m, LinkDue u m ∧ LossNotice u m l n)
      u (made u) := by
  refine ((gains_lapseExpired u l).trans (gains_loseSilentLinks (lapseExpired u) l)).congr fun n => ?_
  simp only [silentAt_lapseExpired, LossNotice, slot_lapseExpired]
  rfl

theorem expired_iff (u : State) (h : HeadId) :
    u.expired h = true ↔ ∃ p, (u.head h).proving = some p ∧ p.provedAt + u.limits.validity * 60 ≤ u.clock := by
  cases record : (u.head h).proving <;> simp [State.expired, record, Proved.expired]

end

/-- Settles O40: the marks struck and refused are R35's, and the new limits lapse heads, lose links and drop claims as the
state at their setting has them due. -/
theorem markAndLimitsAreStored : Obligations.MarkAndLimitsAreStored := by
  unfold Obligations.MarkAndLimitsAreStored
  intro dies strike
  refine ⟨rfl, fun c => ⟨inDieSet_iff c, dieChar_eq_struck c⟩, fun u law => ?_, fun s can => ⟨fun cs => ⟨?_, ?_⟩, ?_, ?_⟩⟩
  · intro t due expired
    have isDue : due = LinkDue u := funext fun l => propext (and_congr_right fun _ => (silentAt_iff u l).symm)
    have isExpired (h : HeadId) : expired h ↔ u.expired h = true := (expired_iff u h).symm
    have owner {k : SlotId} {l : LinkId} (held : (u.slot k).holder = some (.link l)) : holderOf (u.slot k).state = some l :=
      (law.linkHolder k l).mp held
    rw [isDue]
    refine ⟨fun l => ⟨fun h => (state_made u l).trans (if_pos h), fun h => (state_made u l).trans (if_neg h)⟩,
      fun l => link_of_bare (bare_made u l), fun h => ⟨fun d => ?_, fun d => ?_⟩, fun k => ⟨fun l d held => ?_, fun free => ?_⟩,
      fun l n => ?_, sameButLine_made u⟩
    · exact (head_made u h).trans (if_pos ((isExpired h).mp d))
    · exact (head_made u h).trans (if_neg (mt (isExpired h).mpr d))
    · exact ((slot_made u k).trans (if_pos ⟨l, d, held⟩)).trans (givenUp_of_holderOf (owner held))
    · exact (slot_made u k).trans (if_neg fun ⟨l, d, held⟩ => free l d held)
    · refine ((gains_made u l).pends n).trans (or_congr_right (and_congr_right fun _ => ?_))
      rw [exists_lossNotice_iff law, or_left_comm]
      simp only [isExpired]
  · exact fun refused => setMark_refused can refused
  · intro least most strikes marked
    refine setMark_taken can ?_
    rintro (none | many | ⟨c, mem, odd⟩ | blank)
    · omega
    · omega
    · exact odd (strikes c mem)
    · obtain ⟨c, mem, notSpace⟩ := marked
      exact notSpace (blank c mem)
  · exact setLimits_refused can
  · intro v n q mode x
    rw [← limitsItems_eq_sent]
    exact setLimits_taken can v n q mode x rfl

end Sys2Proof.Settings

/-! ## Admission and inspection (chapter 3) -/

namespace Sys2Proof.Admission

open Sys2Proof.Machine Sys2Proof.Safety Sys2Proof.Laws Sys2Proof.Roll Sys2Proof.Settings

/-! ### The text of a serial or a type name (R3, R26, R175) -/

/-- A character that a name field takes, in either case: a letter, a digit or a dash (ASCII, notes/assumptions/22.md). -/
abbrev NameChar (c : Byte) : Prop :=
  0x41 ≤ c.toNat ∧ c.toNat ≤ 0x5A ∨ 0x61 ≤ c.toNat ∧ c.toNat ≤ 0x7A ∨ 0x30 ≤ c.toNat ∧ c.toNat ≤ 0x39 ∨ c = 0x2D

/-- The unit tests a character after raising it to a capital; on each of the 256 bytes that is the test before. -/
theorem nameChar_iff : ∀ c : Byte,
    (isCapital (capital c) || isDigit (capital c) || decide (capital c = 0x2D)) = true ↔ NameChar c := by decide

/-- Among the characters of a name the small letters are those from 0x61 on. -/
theorem capital_of_nameChar : ∀ c : Byte, NameChar c →
    capital c = if 0x61 ≤ c.toNat then BitVec.ofNat 8 (c.toNat - 0x20) else c := by decide

theorem nameChar_ne_space {c : Byte} (h : NameChar c) : c ≠ spaceChar := by
  rintro rfl
  exact absurd h (by decide)

/-- A field is read as its characters before the first space exactly when there is one and only spaces follow (R175). -/
theorem readText_eq_some (field body : Text) :
    readText field = some body ↔
      body ≠ [] ∧ (∀ c ∈ body, c ≠ spaceChar) ∧ ∃ n, field = body ++ List.replicate n spaceChar := by
  constructor
  · intro read
    simp only [readText, Option.ite_none_left_eq_some, Option.ite_none_right_eq_some, Option.some.injEq] at read
    obtain ⟨nonempty, padded, rfl⟩ := read
    have split := field.takeWhile_append_dropWhile (p := (· ≠ spaceChar))
    have rest := List.drop_left (l₁ := field.takeWhile (· ≠ spaceChar)) (l₂ := field.dropWhile (· ≠ spaceChar))
    rw [split] at rest
    have spaces : ∀ c ∈ field.dropWhile (· ≠ spaceChar), c = spaceChar := by
      simpa only [rest, List.all_eq_true, decide_eq_true_eq] using padded
    rw [List.eq_replicate_length.mpr spaces] at split
    exact ⟨nonempty, fun c mem => by simpa using List.mem_takeWhile_imp mem, _, split.symm⟩
  · rintro ⟨nonempty, unspaced, n, rfl⟩
    have front : (body ++ List.replicate n spaceChar).takeWhile (· ≠ spaceChar) = body := by
      rw [List.takeWhile_append_of_pos (by simpa using unspaced)]
      cases n <;> simp [List.replicate_succ]
    simp only [readText, front]
    simp [nonempty]

/-- What a serial or name field accepts, and what it gives (R3, R26). -/
theorem readName_eq_some (field name : Text) :
    readName field = some name ↔
      ∃ (body : Text) (n : Nat), field = body ++ List.replicate n 0x20 ∧ body ≠ [] ∧ (∀ c ∈ body, NameChar c) ∧
        name = body.map fun c => if 0x61 ≤ c.toNat then BitVec.ofNat 8 (c.toNat - 0x20) else c := by
  have chars (body : Text) : ((body.map capital).all fun c => isCapital c || isDigit c || decide (c = 0x2D)) = true ↔
      ∀ c ∈ body, NameChar c := by
    simp only [List.all_map, List.all_eq_true, Function.comp_apply, nameChar_iff]
  simp only [readName, Option.bind_eq_some_iff, Option.ite_none_right_eq_some, Option.some.injEq, chars, readText_eq_some]
  constructor
  · rintro ⟨body, ⟨nonempty, -, n, padded⟩, names, rfl⟩
    exact ⟨body, n, padded, nonempty, names, List.map_congr_left fun c mem => capital_of_nameChar c (names c mem)⟩
  · rintro ⟨body, n, padded, nonempty, names, rfl⟩
    exact ⟨body, ⟨nonempty, fun c mem => nameChar_ne_space (names c mem), n, padded⟩, names,
      List.map_congr_left fun c mem => capital_of_nameChar c (names c mem)⟩

/-! ### The parameters of an admission (R43, R48) -/

theorem readBinding_eq_some (c : Nat) (serial : Text) (type : Nat) (p : BindingParams) :
    readBinding c serial type = some p ↔ p.carrier.val + 1 = c ∧ readName serial = some p.serial ∧ p.typeIdx.val = type := by
  simp only [readBinding, Option.bind_eq_bind, Option.bind_eq_some_iff, carrierPlace_eq_some, typeOf_eq_some, pure,
    Option.some.injEq]
  constructor
  · rintro ⟨i, rfl, name, named, t, rfl, rfl⟩
    exact ⟨rfl, named, rfl⟩
  · rintro ⟨rfl, named, rfl⟩
    exact ⟨p.carrier, rfl, p.serial, named, p.typeIdx, rfl, rfl⟩

theorem readOrdinary_eq_some (d : Date) (a : AdmitArgs) (o : OrdinaryParams) :
    readOrdinary d a = some o ↔
      2000 ≤ a.year ∧ a.year ≤ 2099 ∧ 1 ≤ a.month ∧ a.month ≤ 12 ∧ a.year * 12 + a.month ≤ d.year * 12 + d.month ∧
        1 ≤ a.tare ∧ a.tare ≤ 65000 ∧ a.ree ≤ 65000 ∧
        o = ⟨⟨a.year, a.month⟩, a.tare, if a.ree = 0 then none else some a.ree⟩ := by
  simp only [readOrdinary, inRange, Option.ite_none_right_eq_some, Option.some.injEq, Bool.and_eq_true, decide_eq_true_eq,
    Nat.zero_le, true_and, and_assoc, eq_comm (b := o)]
  rfl

/-! ### The roll's checks -/

/-- A serial is a duplicate exactly when an open slot carries it (R3). -/
theorem serialOpen_iff_carried (s : State) (t : Text) :
    s.serialOpen t = true ↔
      ∃ k i, (s.slot k).state ≠ .free ∧ (s.slot k).state ≠ .closed ∧ (s.slot k).ident = some i ∧ i.serial = t := by
  simp only [serialOpen_iff, isOpen_iff, Option.map_eq_some_iff, exists_and_left, and_assoc]

/-- No FREE slot stands below the lowest one (R9). -/
theorem lowestFree_le {s : State} {k j : SlotId} (lowest : s.lowestFree = some k) (free : (s.slot j).state = .free) : k ≤ j := by
  obtain ⟨-, before, after, split, taken⟩ := List.find?_eq_some_iff_append.mp lowest
  have sorted : (before ++ k :: after).Pairwise (· < ·) := split ▸ List.pairwise_lt_finRange 48
  have mem : j ∈ before ++ k :: after := split ▸ mem_allSlots j
  rcases List.mem_append.mp mem with below | here
  · simpa [free] using taken j below
  · rcases List.mem_cons.mp here with rfl | above
    · exact le_rfl
    · obtain ⟨-, fromHere, -⟩ := List.pairwise_append.mp sorted
      exact (List.rel_of_pairwise_cons fromHere above).le

/-! ### The checks of an admission (R44, R48) -/

/-- Checks 3 to 6 of R44 answer in their order for carrier `c`: the type LOADED and of the kind wanted, the carrier free,
the serial not open, a FREE slot. -/
def ChecksInOrder (s : State) (p : BindingParams) (c : Nat) (proving : Bool) (refused : Status → Prop) : Prop :=
  ((s.typeEntry p.typeIdx).loaded = none → refused .noType) ∧
  ∀ t, (s.typeEntry p.typeIdx).loaded = some t →
    (t.fields.proving = (!proving) → refused .noType) ∧
    (t.fields.proving = proving →
      (s.bound c ≠ none → refused .bound) ∧
      (s.bound c = none → s.serialOpen p.serial = true → refused .duplicate) ∧
      (s.bound c = none → s.serialOpen p.serial = false → s.lowestFree = none → refused .full))

/-- A request whose block comes to `admitChecked` is refused by the first check that fails. -/
theorem request_admitChecked {α : Type} {s : State} {l : LinkId} {r : Request} {a : α} {take : α → State → State × Reply}
    {p : BindingParams} {c : Nat} {proving : Bool} {make : Identity → Slot} (can : CanTake s l) (adm : admits l r = true)
    (place : p.carrier.val + 1 = c) (checks : take a (heard s l) = admitChecked p proving make (heard s l)) :
    ChecksInOrder s p c proving fun st => request l r (.fields a) take s = .next (refusedWith s l r.code st) := by
  subst place
  have refuses (st : Status) (failed : admitChecked p proving make (heard s l) = (heard s l, refusal st)) :
      request l r (.fields a) take s = .next (refusedWith s l r.code st) :=
    request_refused r a take can adm st (checks.trans failed)
  refine ⟨fun empty => refuses _ ?_, fun t loaded => ⟨fun other => refuses _ ?_, fun kind =>
    ⟨fun bound => refuses _ ?_, fun unbound twice => refuses _ ?_, fun unbound new full => refuses _ ?_⟩⟩⟩
  · simp [admitChecked, empty]
  · simp [admitChecked, loaded, other]
  · simp [admitChecked, loaded, kind, Option.isSome_iff_ne_none.mpr bound]
  · simp [admitChecked, loaded, kind, unbound, twice]
  · simp [admitChecked, loaded, kind, unbound, new, full]

/-- Checks passed, the lowest FREE slot takes the cylinder (R9, R45). -/
theorem admitChecked_binds {s : State} {k : SlotId} {t : LoadedType} {p : BindingParams} {proving : Bool}
    (make : Identity → Slot) (lowest : s.lowestFree = some k) (loaded : (s.typeEntry p.typeIdx).loaded = some t)
    (unbound : s.bound (p.carrier.val + 1) = none) (new : s.serialOpen p.serial = false) (kind : t.fields.proving = proving) :
    admitChecked p proving make s =
      (bindSlot p.carrier k (make ⟨p.serial, p.typeIdx, t.rev, t.fields.proving⟩) s, okWith (u8 k.val ++ u8 t.rev)) := by
  simp [admitChecked, loaded, kind, unbound, new, lowest]

/-! ### ADMIT and ADMIT_PROVING -/

/-- The slot that an ADMIT makes of an identity (R45). -/
def ordinarySlot (p : BindingParams) (o : OrdinaryParams) (i : Identity) : Slot :=
  { Slot.bindNew p.carrier i .admitted with made := some o.made, tare := some o.tare, ree := o.ree }

theorem takeAdmitOrdinary_read {s : State} {a : AdmitArgs} {d : Date} {p : BindingParams} {o : OrdinaryParams}
    (today : s.calendar = some d) (read : readBinding a.carrier a.serial a.type = some p) (fits : readOrdinary d a = some o) :
    takeAdmitOrdinary a s = admitChecked p false (ordinarySlot p o) s := by
  simp only [takeAdmitOrdinary, today, read, fits]
  rfl

theorem takeAdmitProving_read {s : State} {a : AdmitProvingArgs} {p : BindingParams} (today : s.calendar ≠ none)
    (read : readBinding a.carrier a.serial a.type = some p) :
    takeAdmitProving a s = admitChecked p true (fun i => Slot.bindNew p.carrier i .awaitTest) s := by
  obtain ⟨d, today⟩ := Option.ne_none_iff_exists'.mp today
  simp only [takeAdmitProving, today, read]

section
variable {s : State}

theorem admitOrdinary_noDate (can : CanTake s .L1) (a : AdmitArgs) (undated : s.calendar = none) :
    exec (.admitOrdinary .L1 (.fields a)) s = .next (refusedWith s .L1 16 .noDate) :=
  request_refused .admitOrdinary a takeAdmitOrdinary can rfl .noDate (by simp [takeAdmitOrdinary, undated])

theorem admitOrdinary_field (can : CanTake s .L1) {a : AdmitArgs} {d : Date} (today : s.calendar = some d)
    (unread : readBinding a.carrier a.serial a.type = none ∨ readOrdinary d a = none) :
    exec (.admitOrdinary .L1 (.fields a)) s = .next (refusedWith s .L1 16 .field) := by
  refine request_refused .admitOrdinary a takeAdmitOrdinary can rfl .field ?_
  simp only [takeAdmitOrdinary, heard_calendar, today]
  rcases unread with unread | unread
  · simp only [unread]
  · simp only [unread]
    cases readBinding a.carrier a.serial a.type <;> rfl

theorem admitProving_noDate (can : CanTake s .L2) (a : AdmitProvingArgs) (undated : s.calendar = none) :
    exec (.admitProving .L2 (.fields a)) s = .next (refusedWith s .L2 22 .noDate) :=
  request_refused .admitProving a takeAdmitProving can rfl .noDate (by simp [takeAdmitProving, undated])

theorem admitProving_field (can : CanTake s .L2) {a : AdmitProvingArgs} (today : s.calendar ≠ none)
    (unread : readBinding a.carrier a.serial a.type = none) :
    exec (.admitProving .L2 (.fields a)) s = .next (refusedWith s .L2 22 .field) := by
  obtain ⟨d, today⟩ := Option.ne_none_iff_exists'.mp today
  exact request_refused .admitProving a takeAdmitProving can rfl .field (by simp [takeAdmitProving, today, unread])

section
variable {k : SlotId} {t : LoadedType} {p : BindingParams} (lowest : s.lowestFree = some k)
  (loaded : (s.typeEntry p.typeIdx).loaded = some t) (unbound : s.bound (p.carrier.val + 1) = none)
  (new : s.serialOpen p.serial = false)
include lowest loaded unbound new

theorem admitOrdinary_binds (can : CanTake s .L1) (ordinary : t.fields.proving = false) {a : AdmitArgs} {d : Date}
    {o : OrdinaryParams} (today : s.calendar = some d) (read : readBinding a.carrier a.serial a.type = some p)
    (fits : readOrdinary d a = some o) :
    exec (.admitOrdinary .L1 (.fields a)) s =
      .next (answered (bindSlot p.carrier k (ordinarySlot p o ⟨p.serial, p.typeIdx, t.rev, t.fields.proving⟩) (heard s .L1))
        .L1 16 .ok (u8 k.val ++ u8 t.rev)) := by
  refine request_ok .admitOrdinary a takeAdmitOrdinary _ can rfl ?_
  rw [takeAdmitOrdinary_read (s := heard s .L1) today read fits]
  exact admitChecked_binds _ lowest loaded unbound new ordinary

theorem admitProving_binds (can : CanTake s .L2) (proving : t.fields.proving = true) {a : AdmitProvingArgs}
    (today : s.calendar ≠ none) (read : readBinding a.carrier a.serial a.type = some p) :
    exec (.admitProving .L2 (.fields a)) s =
      .next (answered
        (bindSlot p.carrier k (Slot.bindNew p.carrier ⟨p.serial, p.typeIdx, t.rev, t.fields.proving⟩ .awaitTest) (heard s .L2))
        .L2 22 .ok (u8 k.val ++ u8 t.rev)) := by
  refine request_ok .admitProving a takeAdmitProving _ can rfl ?_
  rw [takeAdmitProving_read (s := heard s .L2) today read]
  exact admitChecked_binds _ lowest loaded unbound new proving

end

end

/-- Settles O41: both admissions read their parameters, then come to the same checks of the roll. -/
theorem admissionChecksInOrder : Obligations.AdmissionChecksInOrder := by
  refine ⟨serialOpen_iff_carried, lowestFree_none, fun s => ⟨fun can a => ?_, fun can a => ?_⟩⟩
  · refine ⟨admitOrdinary_noDate can a, fun d today => ⟨admitOrdinary_field can today, fun p o read fits => ?_⟩⟩
    exact request_admitChecked (r := .admitOrdinary) (proving := false) can rfl ((readBinding_eq_some _ _ _ _).mp read).1
      (takeAdmitOrdinary_read today read fits)
  · refine ⟨admitProving_noDate can a, fun today => ⟨admitProving_field can today, fun p read => ?_⟩⟩
    exact request_admitChecked (r := .admitProving) (proving := true) can rfl ((readBinding_eq_some _ _ _ _).mp read).1
      (takeAdmitProving_read today read)

/-- Settles O42: an admission that passes the checks binds the lowest FREE slot, and its parameters are read as R43 and R175
have them. -/
theorem admissionBindsTheLowestFreeSlot : Obligations.AdmissionBindsTheLowestFreeSlot := by
  refine ⟨fun s k t p lowest loaded unbound new => ⟨lowestFree_free lowest, fun j => lowestFree_le lowest,
      fun can ordinary a d o => admitOrdinary_binds lowest loaded unbound new can ordinary,
      fun can proving a => admitProving_binds lowest loaded unbound new can proving⟩,
    readName_eq_some, fun l a wf => ?_, fun l a wf => ?_, fun l a wf => ?_, fun c serial type p => ?_, readOrdinary_eq_some⟩
  · simp only [wellFormed, Body.wf, AdmitArgs.wf, Bool.and_eq_true, decide_eq_true_eq] at wf
    tauto
  · simp only [wellFormed, Body.wf, Bool.and_eq_true, decide_eq_true_eq] at wf
    tauto
  · simp only [wellFormed, Body.wf, LoadTypeArgs.wf, Bool.and_eq_true, decide_eq_true_eq] at wf
    tauto
  · rw [readBinding_eq_some]
    constructor
    · rintro ⟨place, named, type⟩
      exact ⟨by omega, by omega, place, named, type⟩
    · rintro ⟨-, -, place, named, type⟩
      exact ⟨place, named, type⟩

end Sys2Proof.Admission

namespace Sys2Proof.Admission

open Sys2Proof.Machine Sys2Proof.Safety Sys2Proof.Laws Sys2Proof.Roll

/-! ### Findings (R5, R6) -/

/-- A finding posted while there is room is stored. -/
theorem post_stored {x : Slot} (f : Finding) (room : x.findings.length < 8) :
    (x.post f).findings = x.findings ++ [f] ∧ (x.post f).overflow = x.overflow := by
  rw [Slot.post, if_pos room]
  exact ⟨rfl, rfl⟩

/-- A finding posted to a full list is marked as overflow. -/
theorem post_overflow {x : Slot} (f : Finding) (full : 8 ≤ x.findings.length) :
    (x.post f).findings = x.findings ∧ (x.post f).overflow = true := by
  rw [Slot.post, if_neg (show ¬ x.findings.length < Config.findingsCapacity from Nat.not_lt.mpr full)]
  exact ⟨rfl, rfl⟩

/-- A finding is stored exactly when fewer than eight are. -/
theorem length_lt_post_iff (x : Slot) (f : Finding) :
    x.findings.length < (x.post f).findings.length ↔ x.findings.length < 8 := by
  by_cases room : x.findings.length < 8
  · simp [(post_stored f room).1, room]
  · simp [(post_overflow f (Nat.not_lt.mp room)).1, room]

/-! ### Requests of the link that holds the slot (R17) -/

section
variable {s : State} {l : LinkId} {c : Nat} {k : SlotId} {α : Type} {r : Request} {a : α} {take : α → State → State × Reply}
  {cont : SlotId → State × Reply} (can : CanTake s l) (adm : admits l r = true) (bound : s.bound c = some k)
  (resolves : take a (heard s l) = asHolder l c (heard s l) cont)
include can adm bound resolves

theorem request_notHolder (other : (s.slot k).holder ≠ some (.link l)) :
    request l r (.fields a) take s = .next (refusedWith s l r.code .notHolder) :=
  request_refused r a take can adm .notHolder (resolves.trans (asHolder_other cont bound other))

theorem request_heldRefused (held : (s.slot k).holder = some (.link l)) (st : Status)
    (refuses : cont k = (heard s l, refusal st)) : request l r (.fields a) take s = .next (refusedWith s l r.code st) :=
  request_refused r a take can adm st ((resolves.trans (asHolder_held cont bound held)).trans refuses)

theorem request_heldTaken (held : (s.slot k).holder = some (.link l)) {t : State} {body : List Byte}
    (taken : cont k = (t, okWith body)) : request l r (.fields a) take s = .next (answered t l r.code .ok body) :=
  request_ok r a take body can adm ((resolves.trans (asHolder_held cont bound held)).trans taken)

end

/-! ### FINDING (R51, R52) -/

theorem readFinding_none {a : FindingArgs}
    (bad : a.code = 0 ∨ 199 < a.code ∨ a.severity = none ∨ a.severity = some .none) : readFinding a = none := by
  unfold readFinding
  split
  · next v given =>
    simp only [given, reduceCtorEq, false_or, Option.some.injEq] at bad
    refine if_neg fun fits => ?_
    simp only [inRange, Bool.and_eq_true, decide_eq_true_eq] at fits
    obtain ⟨⟨least, most⟩, severe⟩ := fits
    rcases bad with zero | above | mild
    · omega
    · omega
    · exact severe mild
  · rfl

theorem readFinding_some {n : Nat} {v : Severity} (c : Nat) (m : Option Nat) (least : 1 ≤ n) (most : n ≤ 199)
    (severe : v ≠ .none) : readFinding ⟨c, n, some v, m⟩ = some ⟨n, v, .inspection, m⟩ := by
  simp [readFinding, inRange, least, most, severe]

/-- The items of a finding posted: stored while fewer than eight are (R52). -/
theorem findingItems_post (x : Slot) (f : Finding) :
    findingItems x (x.post f) =
      yesNo (decide (x.findings.length < 8)) ++ u8 (x.post f).findings.length ++ yesNo (x.post f).overflow ++
        u8 (severityRank (x.post f).worst) := by
  rw [findingItems, decide_eq_decide.mpr (length_lt_post_iff x f)]
  rfl

/-! ### WEIGH (R53, R54) -/

section
variable {s : State} {x : Slot} {ty : TypeFields} {ws : Nat}

theorem lossLimit_of_type (type : s.typeOfSlot x = some ty) : s.lossLimit x = ty.lw := by simp [State.lossLimit, type]

/-- The slot after a weighing against its stamped tare. -/
theorem weighed_of_tare (tare : x.tare = some ws) (lw w : Nat) :
    x.weighed lw w =
      if weightFails lw ws w = true then
        { x with weight := some (weigh ws w) }.post ⟨200, .condemn, .unit, some (weigh ws w).loss⟩
      else { x with weight := some (weigh ws w) } := by
  simp only [Slot.weighed, tare, Option.getD_some]

theorem weighed_weight (tare : x.tare = some ws) (lw w : Nat) : (x.weighed lw w).weight = some (weigh ws w) := by
  rw [weighed_of_tare tare]
  split_ifs
  · rw [post_weight]
  · rfl

end

/-- The loss, as R54 words it. -/
theorem weightLoss_eq (ws w : Nat) : weightLoss ws w = if w < ws then ws - w else 0 := by
  unfold weightLoss
  split_ifs <;> omega

/-- A WEIGH that is taken, on the exact products of the slot's type (R54). -/
theorem weigh_taken {s : State} {c w ws : Nat} {k : SlotId} {ty : TypeFields} (can : CanTake s .L1) (bound : s.bound c = some k)
    (held : (s.slot k).holder = some (.link .L1)) (least : 1 ≤ w) (most : w ≤ 65000) (unweighed : (s.slot k).weight = none)
    (tare : (s.slot k).tare = some ws) (type : s.typeOfSlot (s.slot k) = some ty) :
    exec (.weigh .L1 (.fields ⟨c, w⟩)) s =
      .next (answered ((heard s .L1).setSlot k ((s.slot k).weighed ty.lw w)) .L1 19 .ok
        (u16 w ++ u16 (weigh ws w).loss ++ yesNo (weightFails ty.lw ws w) ++ u8 (severityRank ((s.slot k).weighed ty.lw w).worst))) := by
  refine request_heldTaken (r := .weigh) (take := takeWeigh .L1) can rfl bound rfl held ?_
  have limit : (heard s .L1).lossLimit (s.slot k) = ty.lw := lossLimit_of_type type
  simp [inRange, least, most, unweighed, limit, weighed_weight tare, opt, weightBytes, weigh, tare, severityByte]

/-- Settles O45: what the requests of the holder do, and a posted finding field by field. -/
theorem findingsAndWeighings : Obligations.FindingsAndWeighings := by
  intro s c k can bound x
  refine ⟨fun other => ⟨fun n v m => ?_, fun w => ?_⟩, fun held => ⟨fun n v m bad => ?_, fun n v m least most severe => ?_,
    fun w bad => ?_, fun w least most before => ?_, fun w ws ty least most unweighed tare type => ?_⟩,
    fun f => ⟨post_worst x f, post_stored f, post_overflow f, post_keeps x f⟩⟩
  · exact request_notHolder (r := .finding) (take := takeFinding .L1) can rfl bound rfl other
  · exact request_notHolder (r := .weigh) (take := takeWeigh .L1) can rfl bound rfl other
  · exact request_heldRefused (r := .finding) (take := takeFinding .L1) can rfl bound rfl held .field
      (by rw [readFinding_none bad])
  · intro y
    rw [← findingItems_post]
    exact request_heldTaken (r := .finding) (take := takeFinding .L1) can rfl bound rfl held
      (by rw [readFinding_some c m least most severe]; rfl)
  · refine request_heldRefused (r := .weigh) (take := takeWeigh .L1) can rfl bound rfl held .field ?_
    have out : inRange 1 65000 w = false := decide_eq_false (by omega)
    simp [out]
  · refine request_heldRefused (r := .weigh) (take := takeWeigh .L1) can rfl bound rfl held .weighed ?_
    have fits : inRange 1 65000 w = true := decide_eq_true ⟨least, most⟩
    have already : (s.slot k).weight.isSome = true := Option.isSome_iff_ne_none.mpr before
    simp [fits, already]
  · intro loss heavy weighed y
    have isLoss : weightLoss ws w = loss := weightLoss_eq ws w
    have record : weigh ws w = ⟨w, loss * 1000 / ws⟩ := by rw [weigh, isLoss]
    have isHeavy : weightFails ty.lw ws w = decide heavy := by simp only [weightFails, isLoss]; rfl
    have isWeighed : x.weighed ty.lw w = y := by
      rw [weighed_of_tare tare, record, isHeavy]
      exact if_congr decide_eq_true_iff rfl rfl
    have taken := weigh_taken can bound held least most unweighed tare type
    rwa [isWeighed, record, isHeavy] at taken

/-! ### INSPECTED (R55 to R57) -/

/-- The slot after the age check: finding 201 where the service life is over (R56). -/
def aged (s : State) (x : Slot) : Slot :=
  if s.lifeOver x = true then x.post ⟨201, .condemn, .unit, some (s.ageOf x).toNat⟩ else x

theorem ageCheck_eq (k : SlotId) (s : State) : ageCheck k s = s.setSlot k (aged s (s.slot k)) := by
  unfold ageCheck aged
  split_ifs
  · rfl
  · rw [State.setSlot_slot]

/-- A report reads its change at the state alone. -/
theorem reporting_congr {f g : State → State} {s : State} (same : f s = g s) : reporting f s = reporting g s := by
  rw [reporting, reporting, same]

section
variable {k : SlotId} {s : State} {y : Slot}

/-- A slot of worst severity NONE or NOTE awaits its test (R57). -/
theorem routeInspected_clean (worst : y.worst = .none ∨ y.worst = .note) :
    routeInspected k (s.setSlot k y) = s.setSlot k { y with state := .awaitTest, holder := none } := by
  rcases worst with worst | worst <;> simp [routeInspected, worst]

/-- A slot of worst severity REFER joins the referral queue (R57). -/
theorem routeInspected_refer (worst : y.worst = .refer) :
    routeInspected k (s.setSlot k y) =
      reporting (fun u => { u.setSlot k { y with state := .referred, holder := none } with referral := s.referral ++ [k] })
        (s.setSlot k y) := by
  have enters : routeInspected k (s.setSlot k y) = enterReferred k (s.setSlot k y) := by simp [routeInspected, worst]
  exact enters.trans (reporting_congr (by simp))

/-- A slot of worst severity CONDEMN awaits its scrapping (R57). -/
theorem routeInspected_condemn (worst : y.worst = .condemn) :
    routeInspected k (s.setSlot k y) = raise .scrapReady (s.setSlot k { y with state := .awaitScrap, holder := none }) := by
  simp [routeInspected, worst, enterAwaitScrap]

end

section
variable {s : State} {c : Nat} {k : SlotId} (can : CanTake s .L1) (bound : s.bound c = some k)
  (held : (s.slot k).holder = some (.link .L1))
include can bound held

theorem inspected_notWeighed (limited : 0 < s.lossLimit (s.slot k)) (unweighed : (s.slot k).weight = none) :
    exec (.inspected .L1 (.fields c)) s = .next (refusedWith s .L1 20 .notWeighed) :=
  request_heldRefused (r := .inspected) (take := takeInspected .L1) can rfl bound rfl held .notWeighed
    (if_pos ⟨limited, unweighed⟩)

/-- An INSPECTED that is taken: the age check, then the routing of the slot as it then stands. -/
theorem inspected_taken (weighed : ¬ (0 < s.lossLimit (s.slot k) ∧ (s.slot k).weight = none)) :
    exec (.inspected .L1 (.fields c)) s =
      .next (answered (routeInspected k ((heard s .L1).setSlot k (aged s (s.slot k)))) .L1 20 .ok
        (u8 (slotStateByte (inspectionRoute (aged s (s.slot k)).worst)) ++ u8 (severityRank (aged s (s.slot k)).worst) ++
          i16 (s.ageOf (s.slot k)) ++ yesNo (s.lifeOver (s.slot k)))) := by
  refine request_heldTaken (r := .inspected) (take := takeInspected .L1) can rfl bound rfl held ((if_neg weighed).trans ?_)
  simp only [ageCheck_eq, State.slot_setSlot_self]
  rfl

end

/-- Settles O46: the age check leaves the slot that is routed, and each worst severity has its route. -/
theorem inspectedRoutesTheSlot : Obligations.InspectedRoutesTheSlot := by
  intro s c k can bound x
  refine ⟨request_notHolder (r := .inspected) (take := takeInspected .L1) can rfl bound rfl, fun ty d m held type today made => ?_⟩
  have limit : s.lossLimit x = ty.lw := lossLimit_of_type type
  refine ⟨fun limited unweighed => inspected_notWeighed can bound held (limit ▸ limited) unweighed, fun weighed => ?_⟩
  intro age old y body
  have isAge : s.ageOf x = age := by simp only [State.ageOf, today, made]; rfl
  have isOld : s.lifeOver x = decide old := by simp only [State.lifeOver, type, isAge]; rfl
  have isAged : aged s x = y := by simp only [aged, isOld, isAge, decide_eq_true_eq]; rfl
  have taken := inspected_taken can bound held (by rwa [limit])
  rw [isAge, isOld, isAged] at taken
  refine ⟨fun worst => taken.trans ?_, fun worst => taken.trans ?_, fun worst => taken.trans ?_⟩
  · have state : slotStateByte (inspectionRoute y.worst) = 4 := by rcases worst with worst | worst <;> rw [worst] <;> rfl
    rw [routeInspected_clean worst, state]
  · have state : slotStateByte (inspectionRoute y.worst) = 6 := by rw [worst]; rfl
    rw [routeInspected_refer worst, state]
    rfl
  · have state : slotStateByte (inspectionRoute y.worst) = 9 := by rw [worst]; rfl
    rw [routeInspected_condemn worst, state]

end Sys2Proof.Admission

/-! ## The test heads (chapter 4) -/

namespace Sys2Proof.Heads

open Sys2Proof.Machine Sys2Proof.Safety Sys2Proof.Laws Sys2Proof.Roll Sys2Proof.Settings

/-! ### What the routing of slots leaves as it was

Slots, carrier index, queues, pages, record counter and the items pending about the roll are what a slot's routing touches.
`offRoll` cuts out the rest, so that one lemma per operation says that it leaves all of it. -/

/-- The notices about heads and links, which no routing of a slot raises (R182). -/
def notOfRoll : Notice → Bool
  | .holdDone _ => true
  | .testDone _ => true
  | .headUnproved _ => true
  | .linkLost _ => true
  | .stampReady => false
  | .scrapReady => false
  | .pageFinished => false
  | .referralWaiting => false
  | .registerFull => false
  | .exportBlocked => false

/-- The part of the unit that no routing of slots touches. -/
structure OffRoll where
  heads : PerHead Head
  links : LinkId → Link
  items : LinkId → Set Notice
  types : Vector TypeEntry 32
  mark : Text
  limits : Limits
  calendar : Option Date
  manualDate : Bool
  snapHeader : Option SnapHeader
  clock : Nat
  powered : Bool

/-- The items about heads and links that are pending on a link. -/
def ownItems (k : Link) : Set Notice := {n | notOfRoll n = true ∧ n ∈ k.pending}

/-- That part of a state: of a link's pending set, the items about heads and links. -/
def offRoll (s : State) : OffRoll :=
  { heads := s.heads, links := fun l => bare (s.link l), items := fun l => ownItems (s.link l), types := s.types,
    mark := s.mark, limits := s.limits, calendar := s.calendar, manualDate := s.manualDate, snapHeader := s.snapHeader,
    clock := s.clock, powered := s.powered }

/-- States that differ in their links at most, and there in the items about the roll. -/
theorem offRoll_of_links {s t : State} (same : SameButLinks s t)
    (links : ∀ l, bare (t.link l) = bare (s.link l) ∧ ownItems (t.link l) = ownItems (s.link l)) : offRoll t = offRoll s := by
  unfold SameButLinks at same
  unfold offRoll
  rw [funext fun l => (links l).1, funext fun l => (links l).2, same]

/-- An item about the roll does not touch the others. -/
theorem ownItems_noted {n : Notice} (roll : notOfRoll n = false) (k : Link) : ownItems (noted n k) = ownItems k := by
  ext m
  refine and_congr_right fun own => ?_
  have other : m ≠ n := by rintro rfl; rw [roll] at own; cases own
  unfold noted
  split_ifs
  · rfl
  · simp [mem_withNotice, other]

theorem offRoll_raise {n : Notice} (roll : notOfRoll n = false) (s : State) : offRoll (raise n s) = offRoll s :=
  offRoll_of_links (SameButLinks.foldl (fun u l => .raiseTo n l u) _ s) fun l => by
    refine ⟨bare_raise n s l, ?_⟩
    rw [raise_link]
    split_ifs
    · exact ownItems_noted roll _
    · rfl

theorem bare_reported (c : Condition) (was now : Bool) (l : LinkId) (k : Link) : bare (reported c was now l k) = bare k := by
  unfold reported noted
  split_ifs <;> rfl

theorem ownItems_reported (c : Condition) (was now : Bool) (l : LinkId) (k : Link) :
    ownItems (reported c was now l k) = ownItems k := by
  unfold reported
  split_ifs
  · exact ownItems_noted (by cases c <;> rfl) k
  · rfl

@[simp] theorem offRoll_reporting (f : State → State) (s : State) : offRoll (reporting f s) = offRoll (f s) :=
  offRoll_of_links (.reporting f s) fun l => by rw [reporting_link]; simp only [bare_reported, ownItems_reported, and_self]

@[simp] theorem offRoll_enterPage (p : PageId) (c : ClosingRecord) (s : State) : offRoll (enterPage p c s) = offRoll s := by
  cases p <;> rfl

@[simp] theorem offRoll_finishPageOp (p : PageId) (s : State) : offRoll (finishPageOp p s) = offRoll s := by
  rw [finishPageOp, offRoll_raise rfl, offRoll_reporting]
  simp only [finishChanges]
  split_ifs <;> cases p <;> rfl

@[simp] theorem offRoll_moveOne (p : PageId) (k : SlotId) (c : ClosingRecord) (rest : List SlotId) (s : State) :
    offRoll (moveOne p k c rest s) = offRoll s := by
  have freed : offRoll (freeSlot k rest (enterPage p c s)) = offRoll s :=
    (offRoll_reporting _ _).trans (offRoll_enterPage p c s)
  simp only [moveOne_eq]
  split <;> simp only [offRoll_finishPageOp, freed]

@[simp] theorem offRoll_moveRecords (s : State) : offRoll (moveRecords s) = offRoll s := by
  suffices ∀ n s, offRoll (moveUpTo n s) = offRoll s from this _ s
  intro n
  induction n with
  | zero => exact fun _ => rfl
  | succ n ih =>
    intro s
    unfold moveUpTo
    split
    · split
      · rw [ih, offRoll_moveOne]
      · rfl
    · rfl

@[simp] theorem offRoll_leaveReferral (k : SlotId) (s : State) : offRoll (leaveReferral k s) = offRoll s := offRoll_reporting _ s

@[simp] theorem offRoll_enterReferred (k : SlotId) (s : State) : offRoll (enterReferred k s) = offRoll s := offRoll_reporting _ s

@[simp] theorem offRoll_closeSlot (k : SlotId) (o : ClosingOutcome) (s : State) : offRoll (closeSlot k o s) = offRoll s := by
  have unbound (x : Slot) (u : State) : offRoll (unbindOf x u) = offRoll u := by rw [unbindOf_keeps]; rfl
  have left (x : Slot) (u : State) : offRoll (leaveIfReferred x k u) = offRoll u := by
    unfold leaveIfReferred
    split_ifs
    · exact offRoll_leaveReferral k u
    · rfl
  rw [closeSlot_eq, offRoll_moveRecords]
  exact (left _ _).trans (unbound _ _)

@[simp] theorem offRoll_applyOutcome (k : SlotId) (s : State) : offRoll (applyOutcome k s) = offRoll s := by
  unfold applyOutcome
  dsimp only
  split
  · exact offRoll_closeSlot k _ s
  · split
    · exact offRoll_raise rfl _
    · exact offRoll_raise rfl _
    · split
      · rfl
      · exact offRoll_enterReferred k _
    all_goals rfl

@[simp] theorem offRoll_giveUpClaim (k : SlotId) (s : State) : offRoll (giveUpClaim k s) = offRoll s := by
  obtain ⟨-, e⟩ | ⟨-, e⟩ | ⟨-, e⟩ | ⟨-, -, -, e⟩ := giveUpClaim_cases k s <;> rw [e]
  · rfl
  · exact offRoll_raise rfl _
  · exact offRoll_raise rfl _

theorem heads_of_offRoll {s t : State} (same : offRoll t = offRoll s) : t.heads = s.heads := congrArg OffRoll.heads same

theorem heads_dropClaims (l : LinkId) (s : State) : (dropClaims l s).heads = s.heads :=
  foldl_keeps (fun s => s.heads) _ (fun u k => by
    unfold dropIfHeld
    split_ifs
    · exact heads_giveUpClaim k u
    · rfl) _ _

end Sys2Proof.Heads

namespace Sys2Proof.Heads

open Sys2Proof.Machine Sys2Proof.Safety Sys2Proof.Laws Sys2Proof.Roll Sys2Proof.Settings

/-! ### What one command does to a head -/

/-- A head whose test has ended: DONE, its permit dropped (R84). -/
def finished (x : Head) : Head := { x with phase := .done, permit := false }

/-- The head that a pair's action leaves, but for its proving record and its statistics. -/
def leaves : PairAction → Head
  | .goesOn y => y
  | .zeroed y _ => y
  | .tailEnds y _ => y
  | .settles y _ => finished y
  | .ends y _ => finished y

/-- The type of a slot, read from the view (R4). -/
def typeIn (v : RollView) (k : SlotId) : Option TypeFields :=
  (v.slots k).ident.bind fun i => (v.types i.typeIdx).loaded.map LoadedType.fields

theorem typeIn_view (s : State) (k : SlotId) : typeIn (view s) k = s.typeOfSlot (s.slot k) := rfl

/-- One thing that a command does to a head of a unit with roll `v`; the conditions are those that the unit checks. -/
inductive HeadMove (v : RollView) (x : Head) : Head → Prop
  /-- The proving record and the statistics change (R118, R119, R124, R126, R128). -/
  | records (p : Option Proved) (l n : Stats) (range : StatsSound x.live → StatsSound x.snap → StatsSound l ∧ StatsSound n) :
      HeadMove v x { x with proving := p, live := l, snap := n }
  /-- The live readings of a pair (R63). -/
  | sees (p j : Reading) : HeadMove v x (x.see p j)
  /-- HEAD_SETUP (R91). -/
  | setup (g b : Nat) (idle : x.phase = .idle) (lag : g ≤ 15) (band : 1 ≤ b ∧ b ≤ 500) :
      HeadMove v x { x with lag := g, band := b }
  /-- MOUNT (R65). -/
  | mounts (m : Mount) (idle : x.phase = .idle) (waits : (v.slots m.slot).state = .awaitTest) :
      HeadMove v x { x with phase := .mounted, mount := some m }
  /-- BEGIN (R69). -/
  | begins (ps : Pressures) (mounted : x.phase = .mounted) : HeadMove v x (x.toZeroing ps)
  /-- A reading pair of a test in flight (R63). -/
  | pair (p j : Reading) (m : Mount) (ty : TypeFields) (fly : x.phase.inFlight = true) (mount : x.mount = some m)
      (type : typeIn v m.slot = some ty) : HeadMove v x (leaves (pairAction (x.see p j) ty p j))
  /-- ABORT (R86). -/
  | aborts (fly : x.phase.inFlight = true) : HeadMove v x (finished x)
  /-- DISMOUNT, and a line reset (R66, R93). -/
  | empties : HeadMove v x x.toIdle
  /-- A start of the unit (R94). -/
  | starts : HeadMove v x Head.initial

/-- What a command does to a head: any number of such moves. -/
abbrev HeadRun (v : RollView) : Head → Head → Prop := Relation.ReflTransGen (HeadMove v)

/-- Every head of the one state comes to that of the other by moves. -/
def HeadsRun (v : RollView) (s t : State) : Prop := ∀ h, HeadRun v (s.head h) (t.head h)

namespace HeadsRun
variable {v : RollView} {s t u : State} {h : HeadId} {x : Head}

theorem of_heads (same : t.heads = s.heads) : HeadsRun v s t := fun h => by
  rw [State.head, State.head, same]

theorem refl (s : State) : HeadsRun v s s := of_heads rfl

theorem trans (R : HeadsRun v s t) (Q : HeadsRun v t u) : HeadsRun v s u := fun h => (R h).trans (Q h)

theorem foldl {α : Type} {f : State → α → State} (one : ∀ s a, HeadsRun v s (f s a)) (xs : List α) (s : State) :
    HeadsRun v s (xs.foldl f s) := by
  induction xs generalizing s with
  | nil => exact refl s
  | cons a xs ih => exact (one s a).trans (ih (f s a))

/-- One head written. -/
theorem setHead (run : HeadRun v (s.head h) x) : HeadsRun v s (s.setHead h x) := fun g => by
  rw [State.head_setHead]
  split_ifs with e
  · rw [e]; exact run
  · exact .refl

/-- One head written, and what leaves the heads. -/
theorem setHead_then (run : HeadRun v (s.head h) x) (same : t.heads = (s.setHead h x).heads) : HeadsRun v s t :=
  (setHead run).trans (of_heads same)

end HeadsRun

/-! ### Statistics and proving records -/

theorem statsSound_count {x : Stats} (S : StatsSound x) (o : TestOutcome) : StatsSound (x.count o) := by
  obtain ⟨begun, passed, condemned, invalid, losses⟩ := S
  cases o with
  | pass => exact ⟨begun, raise_le passed, condemned, invalid, losses⟩
  | condemn => exact ⟨begun, passed, raise_le condemned, invalid, losses⟩
  | invalid => exact ⟨begun, passed, condemned, raise_le invalid, losses⟩
  | proved => exact ⟨begun, passed, condemned, invalid, losses⟩
  | notProved => exact ⟨begun, passed, condemned, invalid, losses⟩

theorem statsSound_begun {x : Stats} (S : StatsSound x) : StatsSound { x with begun := x.begun.raise } :=
  { S with begun := raise_le S.begun }

theorem statsSound_countLoss {x : Head} (S : StatsSound x.live) (r : Reason) : StatsSound (x.countLoss r).live := by
  unfold Head.countLoss
  split_ifs
  · exact { S with losses := raise_le S.losses }
  · exact S

section
variable (v : RollView) (x : Head)

/-- The proving record alone changes. -/
theorem move_proving (p : Option Proved) : HeadMove v x { x with proving := p } := .records p x.live x.snap .intro

/-- An outcome is counted (R126). -/
theorem move_count (o : TestOutcome) : HeadMove v x { x with live := x.live.count o } :=
  .records x.proving _ x.snap fun live snap => ⟨statsSound_count live o, snap⟩

/-- The counters pass into the snapshot (R128). -/
theorem move_takeSnapshot : HeadMove v x x.takeSnapshot := .records x.proving _ _ fun live _ => ⟨statsSound_zero, live⟩

end

section
variable {v : RollView}

theorem headsRun_lapse (h : HeadId) (s : State) : HeadsRun v s (lapse h s) := by
  rw [lapse_cases]
  split_ifs
  · exact .refl s
  · exact .setHead_then (.single (move_proving v _ none)) (raise_heads _ _)

theorem headsRun_lapseExpired (s : State) : HeadsRun v s (lapseExpired s) :=
  .foldl (fun u h => by unfold lapseIfExpired; split_ifs; exacts [headsRun_lapse h u, .refl u]) allHeads s

theorem headsRun_loseSilentLinks (s : State) : HeadsRun v s (loseSilentLinks s) := .of_heads (heads_loseSilentLinks s)

theorem headsRun_advanceClock (s : State) : HeadsRun v s (advanceClock s) := by
  unfold advanceClock
  split_ifs
  · have ticked (u : State) : (tickTimers u).heads = u.heads := foldl_keeps (fun s => s.heads) _ (fun _ _ => rfl) timedLinks u
    refine .trans (.of_heads ?_) (headsRun_lapseExpired _)
    rw [heads_loseSilentLinks, ticked]
  · exact .refl s

theorem headsRun_takeSnapshot (s : State) : HeadsRun v s (takeSnapshot s) := fun h => by
  cases h <;> exact .single (move_takeSnapshot v _)

end

/-! ### The end of a test -/

/-- The proving record that an outcome leaves a head with at a clock (R118, R119). -/
def provingAfter (o : TestOutcome) (clock : Nat) (x : Head) : Option Proved :=
  match o with
  | .proved => some ⟨(x.pressures.map Pressures.pa).getD 0, clock, 0⟩
  | .notProved => none
  | .pass => x.proving
  | .condemn => x.proving
  | .invalid => x.proving

theorem heads_setProving (h : HeadId) (o : TestOutcome) (s : State) :
    (setProving h o s).heads = (s.setHead h { s.head h with proving := provingAfter o s.clock (s.head h) }).heads := by
  cases o with
  | proved => rfl
  | notProved =>
    simp only [setProving, lapse_cases, provingAfter]
    split_ifs with none
    · rw [← none, State.setHead_head]
    · exact raise_heads _ _
  | pass | condemn | invalid => exact congrArg State.heads (State.setHead_head s h).symm

/-- A state in which the test of head `h` has ended: DONE with its outcome counted, its other items as they stood. -/
structure Ended (h : HeadId) (s t : State) : Prop where
  others : ∀ g, g ≠ h → t.head g = s.head g
  ended : ∃ p l, (StatsSound (s.head h).live → StatsSound l) ∧ t.head h = { finished (s.head h) with proving := p, live := l }

theorem head_enterDone (h g : HeadId) (k : SlotId) (o : TestOutcome) (rs : List Reason) (s : State) :
    (enterDone h k o rs s).head g =
      if g = h then { Head.toDone o (s.head h) with proving := provingAfter o s.clock (s.head h) } else s.head g := by
  rw [enterDone, raise_head, State.head, heads_setProving]
  simp only [State.updHead_eq, State.setHead_setHead, State.head_setHead_self]
  exact State.head_setHead _ _ _ _

/-- A test that ends with an outcome, at a head whose statistics alone have changed. -/
theorem Ended.of_enterDone {h : HeadId} {k : SlotId} {o : TestOutcome} {rs : List Reason} {s u : State} {l : Stats}
    (range : StatsSound (s.head h).live → StatsSound l)
    (before : ∀ g, u.head g = if g = h then { s.head h with live := l } else s.head g) : Ended h s (enterDone h k o rs u) where
  others g other := by rw [head_enterDone, if_neg other, before, if_neg other]
  ended := by
    refine ⟨provingAfter o u.clock (u.head h), l.count o, fun S => statsSound_count (range S) o, ?_⟩
    rw [head_enterDone, if_pos rfl, before, if_pos rfl]
    rfl

theorem ended_endByCause (h : HeadId) (k : SlotId) (c : EndCause) (s : State) : Ended h s (endByCause h k c s) := by
  refine .of_enterDone (l := ((s.head h).countLoss c.reason).live) (fun S => statsSound_countLoss S c.reason) fun g => ?_
  rw [postOrdinary_eq, State.head_setSlot, State.updHead_eq, State.head_setHead]
  have loss : (s.head h).countLoss c.reason = { s.head h with live := ((s.head h).countLoss c.reason).live } := by
    unfold Head.countLoss
    split_ifs <;> rfl
  rw [← loss]

theorem ended_evaluate (h : HeadId) (k : SlotId) (ty : TypeFields) (p : Int) (s : State) : Ended h s (evaluate h k ty p s) := by
  refine .of_enterDone (l := (s.head h).live) id fun g => ?_
  rw [head_foldl_post]
  split_ifs with e
  · rw [e]; rfl
  · rfl

/-- A head whose test ends at a pair or at an ABORT. -/
theorem Ended.run {v : RollView} {s t : State} {h : HeadId} {y : Head} (E : Ended h (s.setHead h y) t)
    (move : HeadMove v (s.head h) (finished y)) : HeadsRun v s t := by
  obtain ⟨others, p, l, range, ended⟩ := E
  intro g
  by_cases e : g = h
  · subst e
    rw [State.head_setHead_self] at ended range
    rw [ended]
    exact .tail (.single move) (.records p l _ fun live snap => ⟨range live, snap⟩)
  · rw [others g e, State.head_setHead_other _ _ _ _ e]

/-! ### One pair -/

theorem headsRun_carryOut {v : RollView} {s : State} {h : HeadId} (k : SlotId) (ty : TypeFields) {a : PairAction}
    (move : HeadMove v (s.head h) (leaves a)) : HeadsRun v s (carryOut h k ty a s) := by
  cases a with
  | goesOn y => exact .setHead (.single move)
  | zeroed y z => exact .setHead_then (.single move) rfl
  | tailEnds y t => exact .setHead_then (.single move) (raise_heads _ _)
  | settles y p => exact (ended_evaluate h k ty p _).run move
  | ends y c => exact (ended_endByCause h k c _).run move

theorem headsRun_takePair (h : HeadId) (p j : Reading) (s : State) : HeadsRun (view s) s (takePair h p j s) := by
  have seen : HeadsRun (view s) s (s.setHead h ((s.head h).see p j)) := .setHead (.single (.sees p j))
  unfold takePair State.testAt
  by_cases fly : (s.head h).phase.inFlight = true
  · simp only [see_phase, fly, if_true, see_mount]
    cases mount : (s.head h).mount with
    | none => exact seen
    | some m =>
      rw [Option.bind_some]
      cases type : s.typeOfSlot (s.slot m.slot) with
      | none => exact seen
      | some ty => exact headsRun_carryOut m.slot ty (.pair p j m ty fly mount type)
  · simp only [see_phase, fly]
    exact seen

theorem headsRun_takePairAs (h : HeadId) (p j : Reading) (is : PairAction → Bool) (s : State) :
    HeadsRun (view s) s (takePairAs h p j is s) := by
  unfold takePairAs
  split
  · exact headsRun_takePair h p j s
  · exact .refl s

/-! ### A line reset -/

theorem headsRun_cutShort (v : RollView) (h : HeadId) (k : SlotId) (s : State) : HeadsRun v s (cutShort h k s) :=
  HeadsRun.setHead (s := writeOutcome k _ [.reset] (s.head h).ripple s) (.single (move_count v (s.head h) _))

theorem headsRun_resetSlot (v : RollView) (s : State) (k : SlotId) : HeadsRun v s (resetSlot s k) := by
  have routed (u : State) : HeadsRun v u (applyOutcome k u) := .of_heads (heads_of_offRoll (offRoll_applyOutcome k u))
  cases held : (s.slot k).holder with
  | none => rw [resetSlot_free held]; exact .refl s
  | some w =>
    cases w with
    | link l => rw [resetSlot_claim held]; exact .of_heads (heads_giveUpClaim k s)
    | head h =>
      obtain phase | phase | phase | fly := phase_cases (s.head h).phase
      · rw [resetSlot_idle held phase]; exact .refl s
      · rw [resetSlot_mounted held phase]; exact .of_heads rfl
      · rw [resetSlot_done held phase]; exact routed s
      · rw [resetSlot_cut held fly]
        exact (headsRun_cutShort v h k s).trans (routed _)

theorem headsRun_resetHead (v : RollView) (s : State) (h : HeadId) : HeadsRun v s (resetHead s h) :=
  HeadsRun.trans (t := s.setHead h (s.head h).toIdle) (.setHead (.single .empties)) (headsRun_lapse h _)

theorem headsRun_lineReset (v : RollView) (s : State) : HeadsRun v s (lineReset s) := by
  have links : HeadsRun v s (linksReset s) := .of_heads rfl
  rw [lineReset_eq]
  exact links.trans (.trans (.foldl (headsRun_resetSlot v) allSlots _) (.foldl (headsRun_resetHead v) allHeads _))

theorem headsRun_answerSent (v : RollView) (l : LinkId) (s : State) : HeadsRun v s (answerSent l s) := by
  obtain ⟨-, e⟩ | ⟨o, -, e⟩ := answerSent_cases l s <;> rw [e]
  · exact .refl s
  · have quiet : HeadsRun v s (s.updLink l fun k => { k with tx := none }) := .of_heads rfl
    split_ifs
    · exact quiet.trans (headsRun_lineReset v _)
    · exact quiet

end Sys2Proof.Heads

namespace Sys2Proof.Heads

open Sys2Proof.Machine Sys2Proof.Safety Sys2Proof.Laws Sys2Proof.Roll Sys2Proof.Settings

/-! ### Requests that leave the heads -/

section
variable {s : State} {take : SlotId → State × Reply}

theorem heads_onCarrier {c : Nat} (step : ∀ k, (take k).1.heads = s.heads) : (onCarrier c s take).1.heads = s.heads := by
  unfold onCarrier
  split
  · exact step _
  · rfl

theorem heads_asHolder {l : LinkId} {c : Nat} (step : ∀ k, (take k).1.heads = s.heads) :
    (asHolder l c s take).1.heads = s.heads :=
  heads_onCarrier fun k => by
    split_ifs
    · exact step k
    · rfl

theorem heads_claimCheck {l : LinkId} {needed : SlotState} {c : Nat} {items : State → SlotId → List Byte}
    (step : ∀ k, (take k).1.heads = s.heads) : (claimCheck l needed c s items take).1.heads = s.heads :=
  heads_onCarrier fun k => by
    split
    · split_ifs <;> rfl
    · split_ifs
      · exact step k
      · rfl

end

section
variable (s : State)

theorem heads_closeSlot (k : SlotId) (o : ClosingOutcome) : (closeSlot k o s).heads = s.heads :=
  heads_of_offRoll (offRoll_closeSlot k o s)

theorem heads_moveRecords : (moveRecords s).heads = s.heads := heads_of_offRoll (offRoll_moveRecords s)

theorem heads_takeNoticeSetup (l : LinkId) (a : NoticeSetupArgs) : (takeNoticeSetup l a s).1.heads = s.heads := by
  unfold takeNoticeSetup
  split_ifs <;> rfl

theorem heads_takeLookup (a : LookupArgs) : (takeLookup a s).1.heads = s.heads := by
  unfold takeLookup
  split
  · rfl
  · split_ifs
    · rfl
    · exact heads_onCarrier fun _ => rfl
  · split <;> rfl

theorem heads_takeNextReferral (a : Unit) : (takeNextReferral a s).1.heads = s.heads := by
  unfold takeNextReferral
  split <;> rfl

theorem heads_carryOutRuling (k : SlotId) (r : Ruling) : (carryOutRuling k r s).1.heads = s.heads := by
  have left : (leaveReferral k s).heads = s.heads := heads_of_offRoll (offRoll_leaveReferral k s)
  cases r with
  | retest =>
    simp only [carryOutRuling]
    split_ifs
    · rfl
    · exact left
  | condemn => exact (raise_heads _ _).trans left
  | withdraw =>
    simp only [carryOutRuling]
    split
    · rfl
    · exact heads_closeSlot s k _

theorem heads_takeRule (a : RuleArgs) : (takeRule a s).1.heads = s.heads := by
  unfold takeRule
  split
  · split_ifs
    · exact heads_carryOutRuling s _ _
    · rfl
  · rfl
  · rfl

theorem heads_takeWithdraw (c : Nat) : (takeWithdraw c s).1.heads = s.heads :=
  heads_onCarrier fun k => by
    split
    · rfl
    · split_ifs
      · exact heads_closeSlot s k _
      · rfl

theorem heads_takeBreakClaim (c : Nat) : (takeBreakClaim c s).1.heads = s.heads :=
  heads_onCarrier fun k => by
    split
    · rfl
    · rfl
    · exact heads_giveUpClaim k s

theorem heads_takeStopLink (n : Nat) : (takeStopLink n s).1.heads = s.heads := by
  unfold takeStopLink
  split
  · rfl
  · rename_i m _
    split_ifs
    · rfl
    · rfl
    · exact (State.updLink_heads _ _ _).trans (heads_dropClaims m s)

theorem heads_takeStartLink (n : Nat) : (takeStartLink n s).1.heads = s.heads := by
  unfold takeStartLink
  split <;> rfl

theorem heads_takeForceNotice (a : ForceNoticeArgs) : (takeForceNotice a s).1.heads = s.heads := by
  unfold takeForceNotice
  split
  · rfl
  · split_ifs
    · rfl
    · exact raiseTo_heads _ _ s

theorem heads_bindSlot (c : Fin 255) (k : SlotId) (x : Slot) : (bindSlot c k x s).heads = s.heads := reporting_heads _ s

theorem heads_admitChecked (p : BindingParams) (proving : Bool) (make : Identity → Slot) :
    (admitChecked p proving make s).1.heads = s.heads := by
  unfold admitChecked
  split
  · rfl
  · split_ifs
    · rfl
    · rfl
    · rfl
    · split
      · rfl
      · exact heads_bindSlot s _ _ _

theorem heads_takeAdmitOrdinary (a : AdmitArgs) : (takeAdmitOrdinary a s).1.heads = s.heads := by
  unfold takeAdmitOrdinary
  split
  · rfl
  · split
    · exact heads_admitChecked s _ _ _
    · rfl
    · rfl

theorem heads_takeAdmitProving (a : AdmitProvingArgs) : (takeAdmitProving a s).1.heads = s.heads := by
  unfold takeAdmitProving
  split
  · rfl
  · split
    · exact heads_admitChecked s _ _ _
    · rfl

theorem heads_takeClaim (l : LinkId) (c : Nat) : (takeClaim l c s).1.heads = s.heads := heads_claimCheck fun _ => rfl

theorem heads_takeFinding (l : LinkId) (a : FindingArgs) : (takeFinding l a s).1.heads = s.heads :=
  heads_asHolder fun _ => by split <;> rfl

theorem heads_takeWeigh (l : LinkId) (a : WeighArgs) : (takeWeigh l a s).1.heads = s.heads :=
  heads_asHolder fun _ => by dsimp only; split_ifs <;> rfl

theorem heads_routeInspected (k : SlotId) : (routeInspected k s).heads = s.heads := by
  unfold routeInspected
  split
  · rfl
  · rfl
  · exact heads_of_offRoll (offRoll_enterReferred k s)
  · exact raise_heads _ _

theorem heads_takeInspected (l : LinkId) (c : Nat) : (takeInspected l c s).1.heads = s.heads :=
  heads_asHolder fun k => by
    dsimp only
    split_ifs
    · rfl
    · refine (heads_routeInspected _ k).trans ?_
      unfold ageCheck
      split_ifs <;> rfl

theorem heads_takeRelease (l : LinkId) (c : Nat) : (takeRelease l c s).1.heads = s.heads :=
  heads_asHolder fun k => heads_giveUpClaim k s

theorem heads_takeClaimStamp (l : LinkId) (c : Nat) : (takeClaimStamp l c s).1.heads = s.heads :=
  heads_claimCheck fun _ => by split_ifs <;> rfl

theorem heads_takeStamped (l : LinkId) (c : Nat) : (takeStamped l c s).1.heads = s.heads :=
  heads_asHolder fun k => heads_closeSlot s k _

theorem heads_takeClaimScrap (l : LinkId) (c : Nat) : (takeClaimScrap l c s).1.heads = s.heads := heads_claimCheck fun _ => rfl

theorem heads_takeScrapped (l : LinkId) (a : ScrappedArgs) : (takeScrapped l a s).1.heads = s.heads :=
  heads_asHolder fun k => by
    split
    · rfl
    · exact heads_closeSlot _ k _

theorem heads_takeLoadType (a : LoadTypeArgs) : (takeLoadType a s).1.heads = s.heads := by
  unfold takeLoadType
  split
  · rfl
  · split_ifs <;> rfl

theorem heads_takeDropType (n : Nat) : (takeDropType n s).1.heads = s.heads := by
  unfold takeDropType
  split
  · rfl
  · dsimp only
    split_ifs <;> rfl

theorem heads_takeReadType (n : Nat) : (takeReadType n s).1.heads = s.heads := by
  unfold takeReadType
  split
  · rfl
  · split <;> rfl

theorem heads_takeSetMark (t : Text) : (takeSetMark t s).1.heads = s.heads := by
  unfold takeSetMark
  split <;> rfl

theorem heads_takeReadPage (i : Nat) : (takeReadPage i s).1.heads = s.heads := by
  unfold takeReadPage
  split_ifs
  · rfl
  · split
    · rfl
    · split <;> rfl

theorem heads_turnPageOp (p : PageId) : (turnPageOp p s).heads = s.heads :=
  (heads_moveRecords _).trans ((reporting_heads _ _).trans (State.setPage_heads _ _ _))

theorem heads_takeTurnPage (n : Nat) : (takeTurnPage n s).1.heads = s.heads := by
  unfold takeTurnPage
  split_ifs
  · rfl
  · split
    · rfl
    · split_ifs
      · rfl
      · exact heads_turnPageOp s _

theorem heads_takeFinishPage (a : Unit) : (takeFinishPage a s).1.heads = s.heads := by
  unfold takeFinishPage
  split
  · rfl
  · split_ifs
    · rfl
    · exact (heads_moveRecords _).trans (heads_of_offRoll (offRoll_finishPageOp _ s))

end

/-! ### Requests that act on a head -/

section
variable (s : State)

theorem headsRun_onHead {n : Nat} {take : HeadId → State × Reply} (step : ∀ h, HeadsRun (view s) s (take h).1) :
    HeadsRun (view s) s (onHead n s take).1 := by
  unfold onHead
  split
  · exact step _
  · exact .refl s

theorem headsRun_onCarrier {c : Nat} {take : SlotId → State × Reply} (step : ∀ k, HeadsRun (view s) s (take k).1) :
    HeadsRun (view s) s (onCarrier c s take).1 := by
  unfold onCarrier
  split
  · exact step _
  · exact .refl s

theorem headsRun_takeMount (a : MountArgs) : HeadsRun (view s) s (takeMount a s).1 :=
  headsRun_onHead s fun h => headsRun_onCarrier s fun k => by
    dsimp only
    split_ifs with held state busy
    · exact .refl s
    · exact .refl s
    · exact .refl s
    · exact .setHead_then (.single (.mounts ⟨k, a.carrier⟩ (not_not.mp busy) (not_not.mp state))) rfl

/-- The head that a BEGIN sets afresh and counts (R69). -/
theorem run_begin {v : RollView} {x : Head} (ps : Pressures) (mounted : x.phase = .mounted) :
    HeadRun v x { x.toZeroing ps with live := { x.live with begun := x.live.begun.raise } } :=
  .tail (.single (.begins ps mounted)) (.records x.proving _ x.snap fun live snap => ⟨statsSound_begun live, snap⟩)

theorem headsRun_countProving (v : RollView) (h : HeadId) : HeadsRun v s (countProving h s) := by
  unfold countProving
  split
  · exact .refl s
  · rename_i p _
    have counted : HeadsRun v s (s.updHead h fun x => { x with proving := some { p with count := p.count + 1 } }) :=
      .setHead (.single (move_proving _ _ _))
    dsimp only
    split_ifs
    · exact counted.trans (headsRun_lapse h _)
    · exact counted

/-- The unit as a BEGIN leaves it before the proving count is raised: the attempt counted, a new test record, the head afresh
in ZEROING (R69). -/
def testBegun (h : HeadId) (k : SlotId) (ps : Pressures) (s : State) : State :=
  (s.setSlot k
    { s.slot k with
      attempts := (s.slot k).attempts + 1, test := some (newTest h ((s.slot k).attempts + 1) ps.pa s.calendar) }).setHead h
    { (s.head h).toZeroing ps with live := { (s.head h).live with begun := (s.head h).live.begun.raise } }

theorem beginTest_eq (h : HeadId) (k : SlotId) (ps : Pressures) :
    beginTest h k ps s = if (s.slot k).isProving = true then testBegun h k ps s else countProving h (testBegun h k ps s) := rfl

theorem headsRun_beginTest {h : HeadId} (k : SlotId) (ps : Pressures) (mounted : (s.head h).phase = .mounted) :
    HeadsRun (view s) s (beginTest h k ps s) := by
  have begun : HeadsRun (view s) s (testBegun h k ps s) := .setHead_then (run_begin ps mounted) rfl
  rw [beginTest_eq]
  split_ifs
  · exact begun
  · exact begun.trans (headsRun_countProving _ _ h)

theorem headsRun_takeBegin (n : Nat) : HeadsRun (view s) s (takeBegin n s).1 :=
  headsRun_onHead s fun h => by
    dsimp only
    split
    · rename_i m phase mount
      split_ifs
      · exact .refl s
      · split
        · exact .refl s
        · split
          · exact .refl s
          · exact headsRun_beginTest s m.slot _ (of_decide_eq_true phase)
    · exact .refl s

theorem headsRun_takeAbort (n : Nat) : HeadsRun (view s) s (takeAbort n s).1 :=
  headsRun_onHead s fun h => by
    dsimp only
    split
    · rename_i m fly mount
      have ended := ended_endByCause h m.slot (.invalid .aborted) s
      exact Ended.run (y := s.head h) (by rwa [State.setHead_head]) (.aborts fly)
    · exact .refl s

theorem headsRun_takeDismount (n : Nat) : HeadsRun (view s) s (takeDismount n s).1 :=
  headsRun_onHead s fun h => by
    have idle : HeadsRun (view s) s (s.updHead h Head.toIdle) := .setHead (.single .empties)
    dsimp only
    split
    · exact .refl s
    · split
      · exact .refl s
      · rename_i m _
        split_ifs
        · exact idle.trans (.of_heads rfl)
        · exact idle.trans (.of_heads (heads_of_offRoll (offRoll_applyOutcome m.slot _)))
        · exact .refl s

theorem clamp_range {lo hi : Nat} (n : Nat) (h : lo ≤ hi) : lo ≤ clamp lo hi n ∧ clamp lo hi n ≤ hi := by
  unfold clamp
  omega

theorem headsRun_takeHeadSetup (a : HeadSetupArgs) : HeadsRun (view s) s (takeHeadSetup a s).1 :=
  headsRun_onHead s fun h => by
    split_ifs with busy
    · exact .refl s
    · exact .setHead (.single (.setup _ _ (not_not.mp busy) (clamp_range _ (by decide)).2 (clamp_range _ (by decide))))

theorem headsRun_takeSetLimits (a : LimitsArgs) : HeadsRun (view s) s (takeSetLimits a s).1 := by
  unfold takeSetLimits
  split
  · exact .refl s
  · rename_i x _
    have limits : HeadsRun (view s) s { s with limits := x } := .of_heads rfl
    dsimp only
    exact (limits.trans (headsRun_lapseExpired _)).trans (headsRun_loseSilentLinks _)

theorem headsRun_takeSetDate (l : LinkId) (a : DateArgs) : HeadsRun (view s) s (takeSetDate l a s).1 := by
  unfold takeSetDate
  split
  · exact .refl s
  · dsimp only
    split_ifs
    · exact (headsRun_takeSnapshot s).trans (.of_heads rfl)
    · exact .of_heads rfl

end

/-! ### Every command -/

theorem headsRun_request {α : Type} {l : LinkId} {r : Request} {b : Body α} {take : α → State → State × Reply} {s t : State}
    (e : request l r b take s = .next t) (step : ∀ a u, HeadsRun (view u) u (take a u).1) : HeadsRun (view s) s t := by
  have heard : HeadsRun (view s) s (s.updLink l Link.goodFrame) := .of_heads rfl
  have block : HeadsRun (view s) s (checked l r b take (s.updLink l Link.goodFrame)).1 := by
    unfold checked
    split_ifs
    · cases b with
      | fields a => exact heard.trans (step a (s.updLink l Link.goodFrame))
      | wrongLength => exact heard
    · exact heard
  obtain rfl : onFrame l (takeGood l r.code (checked l r b take)) s = t := by simpa [request] using e
  unfold onFrame
  split_ifs
  · exact block.trans (.of_heads rfl)
  · exact .of_heads rfl
  · exact .refl s

theorem headsRun_event {f : State → State} {s t : State} (e : event f s = .next t)
    (step : HeadsRun (view s) s (f s)) : HeadsRun (view s) s t := by
  obtain rfl | rfl := event_next e
  · exact step
  · exact .refl t

theorem headsRun_restart (s : State) : HeadsRun (view s) s s.restart := fun h => by
  obtain ⟨-, start, -⟩ := restart_volatile s
  rw [start h]
  exact .single .starts

/-- What a command does to each head, whatever the state it meets. -/
theorem headsRun_exec {c : Instr} {s t : State} (e : exec c s = .next t) : HeadsRun (view s) s t := by
  cases c with
  | status | notices | clearErrors | readStats | lineReset => exact headsRun_request e fun _ _ => .of_heads rfl
  | snapshot => exact headsRun_request e fun _ u => headsRun_takeSnapshot u
  | headStatus => exact headsRun_request e fun _ u => headsRun_onHead u fun _ => .refl u
  | noticeSetup l => exact headsRun_request e fun a u => .of_heads (heads_takeNoticeSetup u l a)
  | lookup => exact headsRun_request e fun a u => .of_heads (heads_takeLookup u a)
  | nextReferral => exact headsRun_request e fun a u => .of_heads (heads_takeNextReferral u a)
  | rule => exact headsRun_request e fun a u => .of_heads (heads_takeRule u a)
  | withdraw => exact headsRun_request e fun a u => .of_heads (heads_takeWithdraw u a)
  | breakClaim => exact headsRun_request e fun a u => .of_heads (heads_takeBreakClaim u a)
  | stopLink => exact headsRun_request e fun a u => .of_heads (heads_takeStopLink u a)
  | startLink => exact headsRun_request e fun a u => .of_heads (heads_takeStartLink u a)
  | setDate l => exact headsRun_request e fun a u => headsRun_takeSetDate u l a
  | forceNotice => exact headsRun_request e fun a u => .of_heads (heads_takeForceNotice u a)
  | admitOrdinary => exact headsRun_request e fun a u => .of_heads (heads_takeAdmitOrdinary u a)
  | admitProving => exact headsRun_request e fun a u => .of_heads (heads_takeAdmitProving u a)
  | claim l => exact headsRun_request e fun a u => .of_heads (heads_takeClaim u l a)
  | finding l => exact headsRun_request e fun a u => .of_heads (heads_takeFinding u l a)
  | weigh l => exact headsRun_request e fun a u => .of_heads (heads_takeWeigh u l a)
  | inspected l => exact headsRun_request e fun a u => .of_heads (heads_takeInspected u l a)
  | release l => exact headsRun_request e fun a u => .of_heads (heads_takeRelease u l a)
  | mount => exact headsRun_request e fun a u => headsRun_takeMount u a
  | begin => exact headsRun_request e fun a u => headsRun_takeBegin u a
  | abort => exact headsRun_request e fun a u => headsRun_takeAbort u a
  | dismount => exact headsRun_request e fun a u => headsRun_takeDismount u a
  | headSetup => exact headsRun_request e fun a u => headsRun_takeHeadSetup u a
  | claimStamp l => exact headsRun_request e fun a u => .of_heads (heads_takeClaimStamp u l a)
  | stamped l => exact headsRun_request e fun a u => .of_heads (heads_takeStamped u l a)
  | claimScrap l => exact headsRun_request e fun a u => .of_heads (heads_takeClaimScrap u l a)
  | scrapped l => exact headsRun_request e fun a u => .of_heads (heads_takeScrapped u l a)
  | loadType => exact headsRun_request e fun a u => .of_heads (heads_takeLoadType u a)
  | dropType => exact headsRun_request e fun a u => .of_heads (heads_takeDropType u a)
  | readType => exact headsRun_request e fun a u => .of_heads (heads_takeReadType u a)
  | setMark => exact headsRun_request e fun a u => .of_heads (heads_takeSetMark u a)
  | setLimits => exact headsRun_request e fun a u => headsRun_takeSetLimits u a
  | readPage => exact headsRun_request e fun a u => .of_heads (heads_takeReadPage u a)
  | turnPage => exact headsRun_request e fun a u => .of_heads (heads_takeTurnPage u a)
  | finishPage => exact headsRun_request e fun a u => .of_heads (heads_takeFinishPage u a)
  | resetPushbutton => exact headsRun_event e (headsRun_lineReset _ s)
  | answerSent l => exact headsRun_event e (headsRun_answerSent _ l s)
  | moveRecords => exact headsRun_event e (.of_heads (heads_moveRecords s))
  | unitClockAdvance => exact headsRun_event e (headsRun_advanceClock s)
  | silenceTimeout => exact headsRun_event e (by split_ifs; exacts [headsRun_advanceClock s, .refl s])
  | lapseByTime => exact headsRun_event e (by split_ifs; exacts [headsRun_advanceClock s, .refl s])
  | overrun => exact headsRun_event e (by split_ifs <;> exact .of_heads rfl)
  | parity | framing => exact headsRun_event e (.of_heads rfl)
  | fragment | check | gapOver20ms => exact headsRun_event (f := fun s => s.updLink _ _) e (.of_heads rfl)
  | readingPair h p j => exact headsRun_event e (headsRun_takePair h p j s)
  | zeroTimeout | rampTimeout | holdComplete | tailEnd | releaseTimeout | settleTimeout =>
    obtain rfl := Host.Outcome.next.inj e
    exact headsRun_takePairAs _ _ _ _ s
  | unknownCode | lengthByteFault =>
    obtain rfl := Host.Outcome.next.inj e
    refine .of_heads ?_
    unfold onFrame
    split_ifs <;> rfl
  | powerOn =>
    obtain rfl := Host.Outcome.next.inj e
    refine (headsRun_restart s).trans (.of_heads ?_)
    unfold fillFirstPage
    split_ifs <;> rfl
  | powerLoss =>
    obtain rfl := Host.Outcome.next.inj e
    exact headsRun_restart s

/-- What a step does to each head: what the command at the front does, or nothing on an empty queue. -/
theorem headsRun_step {s t : State} (e : step s = .next t) : HeadsRun (view s) s t := by
  cases q : s.pending with
  | nil =>
    rw [step_empty q] at e
    obtain rfl := Host.Outcome.next.inj e
    exact .of_heads (by rw [idle_keeps])
  | cons c rest =>
    rw [step_front q] at e
    exact headsRun_exec (s := { s with pending := rest }) e

end Sys2Proof.Heads

namespace Sys2Proof.Heads

open Sys2Proof.Machine Sys2Proof.Safety Sys2Proof.Laws Sys2Proof.Roll Sys2Proof.Settings

/-! ### What a pair can come to -/

/-- A pair of a test in flight ends the test at a check, or does the work of its phase (R63, R71, R82, R83). -/
theorem pairAction_cases {P : PairAction → Prop} {x : Head} (fly : x.phase.inFlight = true) (ty : TypeFields) (p j : Reading)
    (checks : ∀ c, P (.ends x c)) (zeroing : x.phase = .zeroing → ∀ u, P (zeroingWork x ty u))
    (ramp : x.phase = .ramp → ∀ ps v, P (rampWork x ty ps v)) (hold : x.phase = .hold → ∀ ps v u, P (holdWork x ty ps v u))
    (tail : x.phase = .tail → ∀ ps v u, P (tailWork x ty ps v u)) (release : x.phase = .release → ∀ ps v, P (releaseWork x ps v))
    (settle : x.phase = .settle → ∀ ps v u, P (settleWork x ty ps v u)) : P (pairAction x ty p j) := by
  have watch (ps : Pressures) (p j : Option Nat) {work : Nat → Nat → PairAction} (works : ∀ v u, P (work v u)) :
      P (watched x ps p j work) := by
    unfold watched
    split
    · split_ifs
      exacts [checks _, works _ _]
    · split_ifs <;> exact checks _
    · exact checks _
  have check (ps : Pressures) (p j : Option Nat) {work : Nat → PairAction} (works : ∀ u, P (work u)) :
      P (zeroingChecked x ps p j work) := by
    unfold zeroingChecked
    split
    · split_ifs
      exacts [checks _, works _]
    · exact checks _
    · exact checks _
  unfold pairAction
  cases phase : x.phase with
  | idle | mounted | done => rw [phase] at fly; cases fly
  | zeroing => exact check _ _ _ (zeroing phase)
  | ramp => exact watch _ _ _ fun v _ => ramp phase _ v
  | hold => exact watch _ _ _ (hold phase _)
  | tail => exact watch _ _ _ (tail phase _)
  | release => exact watch _ _ _ fun v _ => release phase _ v
  | settle => exact watch _ _ _ (settle phase _)

/-! ### The work of each phase, branch by branch -/

/-- A reading gathered, and the pair counted; a window that is full is emptied (R71, R81). -/
def gathered (w u : Nat) (x : Head) : Head :=
  { x with phaseCount := x.phaseCount + 1, gather := if w ≤ (x.gather ++ [u]).length then [] else x.gather ++ [u] }

/-- A pair counted, and its run (R73, R79). -/
def waited (run : Nat) (x : Head) : Head := { x with phaseCount := x.phaseCount + 1, runCount := run }

/-- The run after a pair that goes on with it or breaks it (R73, R79). -/
def runAfter (on : Prop) [Decidable on] (x : Head) : Nat := if on then x.runCount + 1 else 0

/-- Entry into RAMP with the jacket zero (R72). -/
def toRamp (z : Nat) (x : Head) : Head :=
  { x with phase := .ramp, z := some z, permit := true, phaseCount := 0, runCount := 0, gather := [] }

/-- Entry into HOLD at a pressure (R73). -/
def toHold (v : Nat) (x : Head) : Head :=
  { x with
    phase := .hold, phaseCount := 0, runCount := 0, holdCount := 0, tailCount := 0, lowRun := 0, ripple := some ⟨v, v⟩,
    tWindow := [] }

/-- A pair counted in HOLD, with its reading in the T window (R74, R76). -/
def heldPair (w u : Nat) (x : Head) : Head := { x with tWindow := pushWindow w x.tWindow u, holdCount := x.holdCount + 1 }

/-- Entry into TAIL (R74). -/
def toTail (x : Head) : Head := { x with phase := .tail, tailCount := 0 }

/-- A pair counted in TAIL, with its reading in the T window (R78). -/
def tailPair (w u : Nat) (x : Head) : Head := { x with tWindow := pushWindow w x.tWindow u, tailCount := x.tailCount + 1 }

/-- Entry into RELEASE with T (R78). -/
def toRelease (t : Int) (x : Head) : Head :=
  { x with phase := .release, permit := false, phaseCount := 0, runCount := 0, lowRun := 0, t := some t }

/-- Entry into SETTLE (R79). -/
def toSettle (x : Head) : Head := { x with phase := .settle, phaseCount := 0, runCount := 0, gather := [] }

section
variable (x : Head) (ty : TypeFields) (ps : Pressures) (v u : Nat)

theorem zeroingWork_eq : zeroingWork x ty u =
    if ty.w ≤ (x.gather ++ [u]).length ∧ x.stable (x.gather ++ [u]) = true then
      .zeroed (toRamp (meanRaw ty.w (x.gather ++ [u])) x) (meanRaw ty.w (x.gather ++ [u]))
    else if 600 ≤ x.phaseCount + 1 then .ends (gathered ty.w u x) (.invalid .zeroTimeout)
    else .goesOn (gathered ty.w u x) := rfl

theorem rampWork_eq : rampWork x ty ps v =
    if 3 ≤ runAfter (ps.pa ≤ v) x then .goesOn (toHold v x)
    else if ty.rampLimit * 10 ≤ x.phaseCount + 1 then .ends (waited (runAfter (ps.pa ≤ v) x) x) (.invalid .rampTimeout)
    else .goesOn (waited (runAfter (ps.pa ≤ v) x) x) := rfl

/-- The end of TAIL, its T formed from the window (R78, R103). -/
theorem tailEndWork_eq : tailEndWork x ty =
    .tailEnds (toRelease (meanAligned ty.w (x.z.getD 0) x.tWindow) x) (meanAligned ty.w (x.z.getD 0) x.tWindow) := rfl

theorem holdWork_eq : holdWork x ty ps v u =
    if 5 ≤ (x.watchHold ps v).lowRun then .ends (x.watchHold ps v) (.invalid .pressureLoss)
    else if ty.holdSeconds * 10 ≤ x.holdCount + 1 then
      if x.lag = 0 then tailEndWork (toTail (heldPair ty.w u (x.watchHold ps v))) ty
      else .goesOn (toTail (heldPair ty.w u (x.watchHold ps v)))
    else .goesOn (heldPair ty.w u (x.watchHold ps v)) := rfl

theorem tailWork_eq : tailWork x ty ps v u =
    if 5 ≤ (x.watchHold ps v).lowRun then .ends (x.watchHold ps v) (.invalid .pressureLoss)
    else if x.lag ≤ x.tailCount + 1 then tailEndWork (tailPair ty.w u (x.watchHold ps v)) ty
    else .goesOn (tailPair ty.w u (x.watchHold ps v)) := rfl

theorem releaseWork_eq : releaseWork x ps v =
    if 3 ≤ runAfter (v < ps.pr) x then .goesOn (toSettle x)
    else if 1200 ≤ x.phaseCount + 1 then .ends (waited (runAfter (v < ps.pr) x) x) (.invalid .releaseTimeout)
    else .goesOn (waited (runAfter (v < ps.pr) x) x) := rfl

theorem settleWork_eq : settleWork x ty ps v u =
    if ps.pr ≤ v then .ends x (.invalid .repressurised)
    else if ty.w ≤ (x.gather ++ [u]).length ∧ x.stable (x.gather ++ [u]) = true then
      .settles { x with phaseCount := x.phaseCount + 1, gather := x.gather ++ [u] }
        (meanAligned ty.w (x.z.getD 0) (x.gather ++ [u]))
    else if ty.settleLimit * 10 ≤ x.phaseCount + 1 then .ends (gathered ty.w u x) (.invalid .settleTimeout)
    else .goesOn (gathered ty.w u x) := rfl

end

/-! ### The pump permit (R89, R90) -/

/-- A head's permit is asserted exactly in RAMP, HOLD and TAIL. -/
def Permitted (x : Head) : Prop := x.permit = true ↔ permitPhase x.phase

namespace Permitted
variable {x y : Head}

theorem on (P : Permitted x) (phase : permitPhase x.phase) (permit : y.permit = x.permit) (still : permitPhase y.phase) :
    Permitted y := by
  unfold Permitted
  rw [permit]
  exact iff_of_true (P.mpr phase) still

theorem off (P : Permitted x) (phase : ¬ permitPhase x.phase) (permit : y.permit = x.permit) (still : ¬ permitPhase y.phase) :
    Permitted y := by
  unfold Permitted
  rw [permit]
  exact iff_of_false (mt P.mp phase) still

/-- A permit that a head drops on leaving the three phases. -/
theorem dropped (permit : y.permit = false) (phase : ¬ permitPhase y.phase) : Permitted y :=
  iff_of_false (by simp [permit]) phase

theorem finished (y : Head) : Permitted (finished y) := dropped rfl (by simp [Heads.finished, permitPhase])

theorem pairAction (P : Permitted x) (fly : x.phase.inFlight = true) (ty : TypeFields) (p j : Reading) :
    Permitted (leaves (pairAction x ty p j)) := by
  have same {y : Head} (phase : y.phase = x.phase) (permit : y.permit = x.permit) : Permitted y := by
    unfold Permitted
    rwa [phase, permit]
  have released (t : Int) (y : Head) : Permitted (toRelease t y) := dropped rfl (by simp [toRelease, permitPhase])
  refine pairAction_cases (P := fun a => Permitted (leaves a)) fly ty p j (fun c => finished x) (fun _ u => ?_)
    (fun phase ps v => ?_) (fun phase ps v u => ?_) (fun _ ps v u => ?_) (fun phase ps v => ?_) (fun _ ps v u => ?_)
  · rw [zeroingWork_eq]
    split_ifs
    · exact iff_of_true rfl (.inl rfl)
    · exact finished _
    · exact same rfl rfl
  · rw [rampWork_eq]
    split_ifs
    · exact P.on (.inl phase) rfl (.inr (.inl rfl))
    · exact finished _
    · exact same rfl rfl
  · rw [holdWork_eq]
    split_ifs
    · exact finished _
    · exact released _ _
    · exact P.on (.inr (.inl phase)) rfl (.inr (.inr rfl))
    · exact same rfl rfl
  · rw [tailWork_eq]
    split_ifs
    · exact finished _
    · exact released _ _
    · exact same rfl rfl
  · rw [releaseWork_eq]
    split_ifs
    · exact P.off (by simp [phase, permitPhase]) rfl (by simp [toSettle, permitPhase, leaves])
    · exact finished _
    · exact same rfl rfl
  · rw [settleWork_eq]
    split_ifs
    · exact finished _
    · exact finished _
    · exact finished _
    · exact same rfl rfl

theorem move {v : RollView} (P : Permitted x) (M : HeadMove v x y) : Permitted y := by
  cases M with
  | records | sees | setup => exact P
  | mounts m idle => exact P.off (by simp [idle, permitPhase]) rfl (by simp [permitPhase])
  | begins ps mounted => exact P.off (by simp [mounted, permitPhase]) rfl (by simp [permitPhase, Head.toZeroing])
  | pair p j m ty fly => exact pairAction (x := x.see p j) P fly ty p j
  | aborts => exact finished x
  | empties => exact dropped rfl (by simp [permitPhase, Head.toIdle])
  | starts => exact dropped rfl (by simp [permitPhase, Head.initial])

theorem run {v : RollView} (P : Permitted x) (R : HeadRun v x y) : Permitted y := by
  induction R with
  | refl => exact P
  | tail _ one ih => exact ih.move one

end Permitted

/-- Settles O13. A step is a run of moves at each head, each of which keeps the permit as its phase has it. -/
theorem stepKeepsPermitLaw : Obligations.StepKeepsPermitLaw := fun _ _ law e h => Permitted.run (law h) (headsRun_step e h)

end Sys2Proof.Heads

namespace Sys2Proof.Heads

open Sys2Proof.Machine Sys2Proof.Safety Sys2Proof.Laws Sys2Proof.Roll Sys2Proof.Settings

/-! ### The working items of a head, apart from its type (R62) -/

/-- What holds of a head's items in every phase of a test, and in DONE as the test left them. -/
structure InTest (x : Head) : Prop where
  pressures : x.pressures.isSome = true
  formed : (x.t ≠ none → x.ripple ≠ none) ∧ (x.ripple ≠ none → x.z ≠ none)
  runCount : x.runCount ≤ 3
  lowRun : x.lowRun ≤ 5
  lag : x.lag ≤ 15
  tailCount : x.tailCount ≤ x.lag
  band : 1 ≤ x.band ∧ x.band ≤ 500
  live : x.livePressure.value ≤ 65000 ∧ x.liveJacket.value ≤ 65000 ∧ (x.livePressure.mark = .none → x.livePressure.value = 0) ∧
    (x.liveJacket.mark = .none → x.liveJacket.value = 0)
  stats : StatsSound x.live ∧ StatsSound x.snap

section
variable {x : Head}

theorem lag_le (S : HeadSound x) : x.lag ≤ 15 := S.lag.1

theorem tailCount_le_lag (S : HeadSound x) : x.tailCount ≤ x.lag := S.lag.2.1

theorem tailCount_lt_lag (S : HeadSound x) (phase : x.phase = .tail) : x.tailCount < x.lag := by
  obtain ⟨-, -, short, -⟩ := S.lag
  exact short phase

theorem tailCount_eq_lag (S : HeadSound x) (phase : x.phase ∈ [.release, .settle]) : x.tailCount = x.lag := by
  obtain ⟨-, -, -, full⟩ := S.lag
  exact full phase

theorem runCount_le (S : HeadSound x) : x.runCount ≤ 3 := S.runCount.2

theorem lowRun_le (S : HeadSound x) : x.lowRun ≤ 5 := S.lowRun.2.1

theorem lowRun_lt (S : HeadSound x) (notDone : x.phase ≠ .done) : x.lowRun < 5 := by
  obtain ⟨-, -, short⟩ := S.lowRun
  exact short notDone

theorem inTest_of_sound (S : HeadSound x) (fly : x.phase.inFlight = true) : InTest x where
  pressures := S.pressures.mpr (by constructor <;> intro e <;> rw [e] at fly <;> cases fly)
  formed := S.formed
  runCount := runCount_le S
  lowRun := lowRun_le S
  lag := lag_le S
  tailCount := tailCount_le_lag S
  band := S.band
  live := S.live
  stats := S.stats

theorem InTest.watchHold (W : InTest x) (low : x.lowRun < 5) (ps : Pressures) (v : Nat) : InTest (x.watchHold ps v) :=
  { W with
    formed := by simpa [Head.watchHold] using W.formed
    lowRun := by simp only [Head.watchHold]; split_ifs <;> omega }

/-- A test that ends leaves sound items, whatever its phase. -/
theorem headSound_finished (W : InTest x) : HeadSound (finished x) := by
  constructor
  case pressures => exact iff_of_true W.pressures (by simp [finished])
  case formed => exact W.formed
  case runCount => exact ⟨by simp [finished], W.runCount⟩
  case lowRun => exact ⟨by simp [finished], W.lowRun, by simp [finished]⟩
  case lag => exact ⟨W.lag, W.tailCount, by simp [finished], by simp [finished]⟩
  case band => exact W.band
  case live => exact W.live
  case stats => exact W.stats
  all_goals simp [finished]

/-! ### What each pair makes of them -/

theorem headSound_gathered (S : HeadSound x) (phase : x.phase = .zeroing ∨ x.phase = .settle) (w u : Nat) :
    HeadSound (gathered w u x) :=
  { S with
    phaseCount := fun mem => by obtain e | e := phase <;> simp [gathered, e] at mem
    gather := fun mem => by obtain e | e := phase <;> simp [gathered, e] at mem }

theorem headSound_waited (S : HeadSound x) (phase : x.phase = .ramp ∨ x.phase = .release) {run : Nat} (short : ¬ 3 ≤ run) :
    HeadSound (waited run x) :=
  { S with
    phaseCount := fun mem => by obtain e | e := phase <;> simp [waited, e] at mem
    runCount := ⟨fun mem => by obtain e | e := phase <;> simp [waited, e] at mem, Nat.le_of_not_ge short⟩ }

theorem headSound_watchHold (S : HeadSound x) (phase : x.phase = .hold ∨ x.phase = .tail) {ps : Pressures} {v : Nat}
    (kept : ¬ 5 ≤ (x.watchHold ps v).lowRun) : HeadSound (x.watchHold ps v) :=
  { S with
    rippleAbsent := fun mem => by obtain e | e := phase <;> simp [Head.watchHold, e] at mem
    ripplePresent := fun mem => by simpa [Head.watchHold] using S.ripplePresent mem
    formed := by simpa [Head.watchHold] using S.formed
    lowRun := ⟨fun mem => by obtain e | e := phase <;> simp [Head.watchHold, e] at mem, by omega, fun _ => by omega⟩ }

theorem headSound_heldPair (S : HeadSound x) (phase : x.phase = .hold) (w u : Nat) : HeadSound (heldPair w u x) :=
  { S with
    holdCount := fun mem => by simp [heldPair, phase] at mem
    tWindow := fun mem => by simp [heldPair, phase] at mem }

theorem headSound_tailPair (S : HeadSound x) (phase : x.phase = .tail) {w u : Nat} (short : ¬ x.lag ≤ x.tailCount + 1) :
    HeadSound (tailPair w u x) :=
  { S with
    tailCount := fun mem => by simp [tailPair, phase] at mem
    tWindow := fun mem => by simp [tailPair, phase] at mem
    lag := ⟨(lag_le S :), show x.tailCount + 1 ≤ x.lag by omega, fun _ => show x.tailCount + 1 < x.lag by omega,
      fun mem => by simp [tailPair, phase] at mem⟩ }

theorem headSound_toRamp (S : HeadSound x) (phase : x.phase = .zeroing) (z : Nat) : HeadSound (toRamp z x) := by
  have noRipple : x.ripple = none := S.rippleAbsent (by simp [phase])
  have noT : x.t = none := S.tAbsent (by simp [phase])
  have tail : x.tailCount = 0 := S.tailCount (by simp [phase])
  have low : x.lowRun = 0 := S.lowRun.1 (by simp [phase])
  constructor
  case pressures => exact iff_of_true (S.pressures.mpr (by simp [phase])) (by simp [toRamp])
  case holdCount => exact fun _ => S.holdCount (by simp [phase])
  case tWindow => exact fun _ => S.tWindow (by simp [phase])
  case lag => exact ⟨(lag_le S :), (tailCount_le_lag S :), by simp [toRamp], by simp [toRamp]⟩
  case band => exact S.band
  case live => exact S.live
  case stats => exact S.stats
  all_goals simp [toRamp, noRipple, noT, tail, low]

theorem headSound_toHold (S : HeadSound x) (phase : x.phase = .ramp) (v : Nat) : HeadSound (toHold v x) := by
  have hasZ : x.z ≠ none := S.zPresent (by simp [phase])
  have noT : x.t = none := S.tAbsent (by simp [phase])
  have gather : x.gather = [] := S.gather (by simp [phase])
  constructor
  case pressures => exact iff_of_true (S.pressures.mpr (by simp [phase])) (by simp [toHold])
  case lag => exact ⟨(lag_le S :), Nat.zero_le _, by simp [toHold], by simp [toHold]⟩
  case band => exact S.band
  case live => exact S.live
  case stats => exact S.stats
  all_goals simp [toHold, hasZ, noT, gather]

theorem headSound_toTail (S : HeadSound x) (phase : x.phase = .hold) (lag : x.lag ≠ 0) : HeadSound (toTail x) := by
  have hasZ : x.z ≠ none := S.zPresent (by simp [phase])
  have hasRipple : x.ripple ≠ none := S.ripplePresent (by simp [phase])
  have noT : x.t = none := S.tAbsent (by simp [phase])
  have count : x.phaseCount = 0 := S.phaseCount (by simp [phase])
  have run : x.runCount = 0 := S.runCount.1 (by simp [phase])
  have gather : x.gather = [] := S.gather (by simp [phase])
  constructor
  case pressures => exact iff_of_true (S.pressures.mpr (by simp [phase])) (by simp [toTail])
  case lowRun => exact ⟨by simp [toTail], (lowRun_le S :), fun _ => (lowRun_lt S (by simp [phase]) :)⟩
  case lag => exact ⟨(lag_le S :), Nat.zero_le _, fun _ => Nat.pos_of_ne_zero lag, by simp [toTail]⟩
  case band => exact S.band
  case live => exact S.live
  case stats => exact S.stats
  all_goals simp [toTail, hasZ, hasRipple, noT, count, run, gather]

/-- The end of TAIL, at a head whose tail count has come to the lag. -/
theorem headSound_toRelease (W : InTest x) (hasRipple : x.ripple ≠ none) (gather : x.gather = []) (full : x.tailCount = x.lag)
    (t : Int) : HeadSound (toRelease t x) := by
  have hasZ : x.z ≠ none := W.formed.2 hasRipple
  constructor
  case pressures => exact iff_of_true W.pressures (by simp [toRelease])
  case lag => exact ⟨W.lag, W.tailCount, by simp [toRelease], fun _ => full⟩
  case band => exact W.band
  case live => exact W.live
  case stats => exact W.stats
  all_goals simp [toRelease, hasZ, hasRipple, gather]

theorem headSound_toSettle (S : HeadSound x) (phase : x.phase = .release) : HeadSound (toSettle x) := by
  have hasZ : x.z ≠ none := S.zPresent (by simp [phase])
  have hasRipple : x.ripple ≠ none := S.ripplePresent (by simp [phase])
  have hasT : x.t ≠ none := S.tPresent (by simp [phase])
  have low : x.lowRun = 0 := S.lowRun.1 (by simp [phase])
  constructor
  case pressures => exact iff_of_true (S.pressures.mpr (by simp [phase])) (by simp [toSettle])
  case lag => exact ⟨(lag_le S :), (tailCount_le_lag S :), by simp [toSettle], fun _ => (tailCount_eq_lag S (by simp [phase]) :)⟩
  case band => exact S.band
  case live => exact S.live
  case stats => exact S.stats
  all_goals simp [toSettle, hasZ, hasRipple, hasT, low]

theorem headSound_pairAction (S : HeadSound x) (fly : x.phase.inFlight = true) (ty : TypeFields) (p j : Reading) :
    HeadSound (leaves (pairAction x ty p j)) := by
  have W : InTest x := inTest_of_sound S fly
  have low : x.phase ≠ .done → x.lowRun < 5 := lowRun_lt S
  have gatheredEnd (w u : Nat) : HeadSound (finished (gathered w u x)) := headSound_finished { W with }
  have waitedEnd {run : Nat} (short : ¬ 3 ≤ run) : HeadSound (finished (waited run x)) :=
    headSound_finished { W with runCount := Nat.le_of_not_ge short }
  refine pairAction_cases (P := fun a => HeadSound (leaves a)) fly ty p j (fun c => headSound_finished W) (fun phase u => ?_)
    (fun phase ps v => ?_) (fun phase ps v u => ?_) (fun phase ps v u => ?_) (fun phase ps v => ?_) (fun phase ps v u => ?_)
  · rw [zeroingWork_eq]
    split_ifs
    · exact headSound_toRamp S phase _
    · exact gatheredEnd _ u
    · exact headSound_gathered S (.inl phase) _ u
  · rw [rampWork_eq]
    split_ifs with run limit
    · exact headSound_toHold S phase v
    · exact waitedEnd run
    · exact headSound_waited S (.inl phase) run
  · have W' : InTest (x.watchHold ps v) := W.watchHold (low (by simp [phase])) ps v
    rw [holdWork_eq]
    split_ifs with fifth count lag
    · exact headSound_finished W'
    · have kept := headSound_watchHold S (.inl phase) fifth
      exact headSound_toRelease (x := toTail (heldPair ty.w u (x.watchHold ps v))) { W' with tailCount := Nat.zero_le _ }
        (kept.ripplePresent (by simp [Head.watchHold, phase])) (S.gather (by simp [phase])) lag.symm _
    · have kept := headSound_watchHold S (.inl phase) fifth
      exact headSound_toTail (headSound_heldPair kept phase _ u) phase lag
    · exact headSound_heldPair (headSound_watchHold S (.inl phase) fifth) phase _ u
  · have W' : InTest (x.watchHold ps v) := W.watchHold (low (by simp [phase])) ps v
    have short : x.tailCount < x.lag := tailCount_lt_lag S phase
    rw [tailWork_eq]
    split_ifs with fifth full
    · exact headSound_finished W'
    · have kept := headSound_watchHold S (.inr phase) fifth
      have reached : x.tailCount + 1 = x.lag := by omega
      exact headSound_toRelease (x := tailPair ty.w u (x.watchHold ps v)) { W' with tailCount := reached.le }
        (kept.ripplePresent (by simp [Head.watchHold, phase])) (S.gather (by simp [phase])) reached _
    · exact headSound_tailPair (headSound_watchHold S (.inr phase) fifth) phase full
  · rw [releaseWork_eq]
    split_ifs with run limit
    · exact headSound_toSettle S phase
    · exact waitedEnd run
    · exact headSound_waited S (.inr phase) run
  · rw [settleWork_eq]
    split_ifs
    · exact headSound_finished W
    · exact headSound_finished { W with }
    · exact gatheredEnd _ u
    · exact headSound_gathered S (.inr phase) _ u

theorem headSound_mounts (S : HeadSound x) (idle : x.phase = .idle) (m : Mount) :
    HeadSound { x with phase := .mounted, mount := some m } := by
  have noPressures : x.pressures.isSome ≠ true := fun some => (S.pressures.mp some).1 idle
  have noRipple : x.ripple = none := S.rippleAbsent (by simp [idle])
  have noT : x.t = none := S.tAbsent (by simp [idle])
  constructor
  case pressures => exact iff_of_false noPressures (by simp)
  case zAbsent => exact fun _ => S.zAbsent (by simp [idle])
  case phaseCount => exact fun _ => S.phaseCount (by simp [idle])
  case holdCount => exact fun _ => S.holdCount (by simp [idle])
  case tailCount => exact fun _ => S.tailCount (by simp [idle])
  case runCount => exact ⟨fun _ => S.runCount.1 (by simp [idle]), (runCount_le S :)⟩
  case lowRun => exact ⟨fun _ => S.lowRun.1 (by simp [idle]), (lowRun_le S :), fun _ => (lowRun_lt S (by simp [idle]) :)⟩
  case gather => exact fun _ => S.gather (by simp [idle])
  case tWindow => exact fun _ => S.tWindow (by simp [idle])
  case lag => exact ⟨(lag_le S :), (tailCount_le_lag S :), by simp, by simp⟩
  case band => exact S.band
  case live => exact S.live
  case stats => exact S.stats
  all_goals simp [noRipple, noT]

/-- A head set afresh: what BEGIN, a DISMOUNT and a line reset leave (R62, R69). -/
theorem headSound_toIdle (S : HeadSound x) : HeadSound x.toIdle := by
  constructor
  case lag => exact ⟨(lag_le S :), Nat.zero_le _, by simp [Head.toIdle], by simp [Head.toIdle]⟩
  case band => exact S.band
  case live => exact S.live
  case stats => exact S.stats
  all_goals simp [Head.toIdle]

theorem headSound_toZeroing (S : HeadSound x) (ps : Pressures) : HeadSound (x.toZeroing ps) := by
  constructor
  case lag => exact ⟨(lag_le S :), Nat.zero_le _, by simp [Head.toZeroing], by simp [Head.toZeroing]⟩
  case band => exact S.band
  case live => exact S.live
  case stats => exact S.stats
  all_goals simp [Head.toZeroing]

/-- A live reading stays in its range, and once read is never without a value again (R63). -/
theorem update_bounds {l : Live} (range : l.value ≤ 65000) (r : Reading) :
    (l.update r).value ≤ 65000 ∧ ((l.update r).mark = .none → (l.update r).value = 0) := by
  cases r with
  | fault => exact ⟨range, nofun⟩
  | value n => exact ⟨Nat.min_le_right _ _, nofun⟩

theorem headSound_see (S : HeadSound x) (p j : Reading) : HeadSound (x.see p j) :=
  { S with
    live := by
      obtain ⟨pressureWas, jacketWas, -, -⟩ := S.live
      obtain ⟨pressure, noPressure⟩ := update_bounds pressureWas p
      obtain ⟨jacket, noJacket⟩ := update_bounds jacketWas j
      exact ⟨pressure, jacket, noPressure, noJacket⟩ }

theorem headSound_move {v : RollView} {y : Head} (S : HeadSound x) (M : HeadMove v x y) : HeadSound y := by
  cases M with
  | records p l n range => exact { S with stats := range S.stats.1 S.stats.2 }
  | sees p j => exact headSound_see S p j
  | setup g b idle lag band =>
    have none : x.tailCount = 0 := S.tailCount (by simp [idle])
    exact { S with lag := ⟨lag, by simp [none], by simp [idle], by simp [idle]⟩, band := band }
  | mounts m idle => exact headSound_mounts S idle m
  | begins ps => exact headSound_toZeroing S ps
  | pair p j m ty fly => exact headSound_pairAction (x := x.see p j) (headSound_see S p j) fly ty p j
  | aborts fly => exact headSound_finished (inTest_of_sound S fly)
  | empties => exact headSound_toIdle S
  | starts => exact headSound_initial

end
end Sys2Proof.Heads

namespace Sys2Proof.Heads

open Sys2Proof.Machine Sys2Proof.Safety Sys2Proof.Laws Sys2Proof.Roll Sys2Proof.Settings

/-! ### The counts and windows of a head, by the type of its slot (R62, R76) -/

section
variable {x : Head} {ty : TypeFields}

theorem one_le_w (T : TypeSound ty) : 1 ≤ ty.w := by
  have := T.w
  omega

/-- A head that holds no counts and no readings fits every type, short of a count that its phase should have. -/
theorem headFits_blank (T : TypeSound ty) (phase : x.phase = .idle ∨ x.phase = .mounted ∨ x.phase = .zeroing)
    (hold : x.holdCount = 0) (tail : x.tailCount = 0) (gather : x.gather = []) (window : x.tWindow = [])
    (count : x.phaseCount = 0) : HeadFits x ty := by
  have w := one_le_w T
  constructor
  case gather => exact fun _ => by rw [gather]; exact w
  all_goals obtain e | e | e := phase <;> simp [e, hold, tail, gather, window, count]

theorem headFits_unbegun (S : HeadSound x) (T : TypeSound ty) (phase : x.phase = .idle ∨ x.phase = .mounted) :
    HeadFits x ty := by
  refine headFits_blank T (phase.imp_right .inl) (S.holdCount ?_) (S.tailCount ?_) (S.gather ?_) (S.tWindow ?_)
    (S.phaseCount ?_)
  all_goals obtain e | e := phase <;> simp [e]

theorem headFits_toZeroing (T : TypeSound ty) (ps : Pressures) : HeadFits (x.toZeroing ps) ty :=
  headFits_blank T (.inr (.inr rfl)) rfl rfl rfl rfl rfl

/-- What holds of the counts and windows in every phase, and in DONE. -/
structure WithinType (x : Head) (ty : TypeFields) : Prop where
  hold : x.holdCount ≤ ty.holdSeconds * 10
  tWindow : x.tWindow.length = min ty.w (x.holdCount + x.tailCount)
  gather : x.gather.length ≤ ty.w
  phaseCount : x.phaseCount ≤ 6000

theorem withinType_of_fits (F : HeadFits x ty) : WithinType x ty := ⟨F.holdDone, F.tWindow, F.gatherDone, F.phaseDone⟩

theorem headFits_finished (B : WithinType x ty) : HeadFits (finished x) ty := by
  constructor
  case holdDone => exact B.hold
  case tWindow => exact B.tWindow
  case gatherDone => exact B.gather
  case phaseDone => exact B.phaseCount
  all_goals simp [finished]

theorem gathered_short (T : TypeSound ty) (u : Nat) : (gathered ty.w u x).gather.length < ty.w := by
  have := one_le_w T
  simp only [gathered]
  split_ifs
  · simpa
  · omega

/-- A pair counted in ZEROING or SETTLE, short of the limit of its phase. -/
theorem headFits_gathered (F : HeadFits x ty) (T : TypeSound ty) (u : Nat)
    (zeroing : x.phase = .zeroing → x.phaseCount + 1 < 600) (settle : x.phase = .settle → x.phaseCount + 1 < ty.settleLimit * 10)
    (phase : x.phase = .zeroing ∨ x.phase = .settle) : HeadFits (gathered ty.w u x) ty :=
  { F with
    gather := fun _ => gathered_short T u
    gatherDone := (gathered_short T u).le
    zeroing := zeroing
    ramp := fun e => by obtain p | p := phase <;> simp [gathered, p] at e
    release := fun e => by obtain p | p := phase <;> simp [gathered, p] at e
    settle := settle
    phaseDone := by
      have := T.settle
      show x.phaseCount + 1 ≤ 6000
      obtain p | p := phase
      · have := zeroing p; omega
      · have := settle p; omega }

/-- A pair counted in RAMP or RELEASE, short of the limit of its phase. -/
theorem headFits_waited (F : HeadFits x ty) (T : TypeSound ty) (run : Nat)
    (ramp : x.phase = .ramp → x.phaseCount + 1 < ty.rampLimit * 10) (release : x.phase = .release → x.phaseCount + 1 < 1200)
    (phase : x.phase = .ramp ∨ x.phase = .release) : HeadFits (waited run x) ty :=
  { F with
    zeroing := fun e => by obtain p | p := phase <;> simp [waited, p] at e
    ramp := ramp
    release := release
    settle := fun e => by obtain p | p := phase <;> simp [waited, p] at e
    phaseDone := by
      have := T.ramp
      show x.phaseCount + 1 ≤ 6000
      obtain p | p := phase
      · have := ramp p; omega
      · have := release p; omega }

theorem headFits_watchHold (F : HeadFits x ty) (ps : Pressures) (v : Nat) : HeadFits (x.watchHold ps v) ty := { F with }

/-- A pair counted in HOLD, its reading in the T window. -/
theorem heldPair_tWindow (F : HeadFits x ty) (T : TypeSound ty) (u : Nat) :
    (heldPair ty.w u x).tWindow.length = min ty.w ((heldPair ty.w u x).holdCount + x.tailCount) := by
  rw [heldPair, pushWindow_length u (one_le_w T) F.tWindow]
  dsimp only
  omega

theorem tailPair_tWindow (F : HeadFits x ty) (T : TypeSound ty) (u : Nat) :
    (tailPair ty.w u x).tWindow.length = min ty.w (x.holdCount + (tailPair ty.w u x).tailCount) := by
  rw [tailPair, pushWindow_length u (one_le_w T) F.tWindow]
  rfl

theorem headFits_heldPair (F : HeadFits x ty) (T : TypeSound ty) (u : Nat) (phase : x.phase = .hold)
    (short : ¬ ty.holdSeconds * 10 ≤ x.holdCount + 1) : HeadFits (heldPair ty.w u x) ty :=
  { F with
    hold := fun _ => Nat.lt_of_not_ge short
    held := fun mem => by simp [heldPair, phase] at mem
    holdDone := (Nat.lt_of_not_ge short).le
    tWindow := heldPair_tWindow F T u }

theorem headFits_tailPair (F : HeadFits x ty) (T : TypeSound ty) (u : Nat) : HeadFits (tailPair ty.w u x) ty :=
  { F with tWindow := tailPair_tWindow F T u }

theorem headFits_toRamp (F : HeadFits x ty) (T : TypeSound ty) (z : Nat) : HeadFits (toRamp z x) ty := by
  have w := one_le_w T
  have ramp := T.ramp
  constructor
  case holdDone => exact F.holdDone
  case tWindow => exact F.tWindow
  case gather => exact fun _ => w
  case ramp => exact fun _ => show 0 < ty.rampLimit * 10 by omega
  all_goals simp [toRamp]

theorem headFits_toHold (F : HeadFits x ty) (T : TypeSound ty) (phase : x.phase = .ramp) (v : Nat) :
    HeadFits (toHold v x) ty := by
  have hold := T.hold
  constructor
  case hold => exact fun _ => show 0 < ty.holdSeconds * 10 by omega
  case gather => exact fun _ => F.gather (by simp [phase])
  case gatherDone => exact F.gatherDone
  all_goals simp [toHold]

/-- The pair that brings the hold count to H: TAIL begins with a full hold count and no tail count. -/
theorem headFits_toTail (S : HeadSound x) (F : HeadFits x ty) (T : TypeSound ty) (u : Nat) (phase : x.phase = .hold)
    (full : ty.holdSeconds * 10 ≤ x.holdCount + 1) : HeadFits (toTail (heldPair ty.w u x)) ty := by
  have reached : x.holdCount + 1 = ty.holdSeconds * 10 := by
    have := F.hold phase
    omega
  have noTail : x.tailCount = 0 := S.tailCount (by simp [phase])
  have window := heldPair_tWindow F T u
  rw [noTail] at window
  constructor
  case held => exact fun _ => reached
  case holdDone => exact reached.le
  case tWindow => exact window
  case gather => exact fun _ => F.gather (by simp [phase])
  case gatherDone => exact F.gatherDone
  case phaseDone => exact F.phaseDone
  all_goals simp [toTail]

/-- The end of TAIL keeps what TAIL counted. -/
theorem headFits_toRelease (F : HeadFits x ty) (phase : x.phase = .tail) (t : Int) : HeadFits (toRelease t x) ty := by
  constructor
  case held => exact fun _ => F.held (by simp [phase])
  case holdDone => exact F.holdDone
  case tWindow => exact F.tWindow
  case gather => exact fun _ => F.gather (by simp [phase])
  case gatherDone => exact F.gatherDone
  all_goals simp [toRelease]

theorem headFits_toSettle (F : HeadFits x ty) (T : TypeSound ty) (phase : x.phase = .release) : HeadFits (toSettle x) ty := by
  have w := one_le_w T
  have settle := T.settle
  constructor
  case held => exact fun _ => F.held (by simp [phase])
  case holdDone => exact F.holdDone
  case tWindow => exact F.tWindow
  case gather => exact fun _ => w
  case settle => exact fun _ => show 0 < ty.settleLimit * 10 by omega
  all_goals simp [toSettle]

theorem headFits_pairAction (S : HeadSound x) (F : HeadFits x ty) (T : TypeSound ty) (fly : x.phase.inFlight = true)
    (p j : Reading) : HeadFits (leaves (pairAction x ty p j)) ty := by
  have B : WithinType x ty := withinType_of_fits F
  have gatheredEnd (u : Nat) (limit : x.phaseCount + 1 ≤ 6000) : HeadFits (finished (gathered ty.w u x)) ty :=
    headFits_finished { B with gather := (gathered_short T u).le, phaseCount := limit }
  have waitedEnd (run : Nat) (limit : x.phaseCount + 1 ≤ 6000) : HeadFits (finished (waited run x)) ty :=
    headFits_finished { B with phaseCount := limit }
  have holdEnd (ps : Pressures) (v : Nat) : HeadFits (finished (x.watchHold ps v)) ty := headFits_finished { B with }
  refine pairAction_cases (P := fun a => HeadFits (leaves a) ty) fly ty p j (fun c => headFits_finished B) (fun phase u => ?_)
    (fun phase ps v => ?_) (fun phase ps v u => ?_) (fun phase ps v u => ?_) (fun phase ps v => ?_) (fun phase ps v u => ?_)
  · have count := F.zeroing phase
    rw [zeroingWork_eq]
    split_ifs with full limit
    · exact headFits_toRamp F T _
    · exact gatheredEnd u (by omega)
    · exact headFits_gathered F T u (fun _ => Nat.lt_of_not_ge limit) (by simp [phase]) (.inl phase)
  · have count := F.ramp phase
    have range := T.ramp
    rw [rampWork_eq]
    split_ifs with full limit
    · exact headFits_toHold F T phase v
    · exact waitedEnd _ (by omega)
    · exact headFits_waited F T _ (fun _ => Nat.lt_of_not_ge limit) (by simp [phase]) (.inl phase)
  · have F' : HeadFits (x.watchHold ps v) ty := headFits_watchHold F ps v
    rw [holdWork_eq]
    split_ifs with fifth full lag
    · exact holdEnd ps v
    · exact headFits_toRelease (headFits_toTail (headSound_watchHold S (.inl phase) fifth) F' T u phase full) rfl _
    · exact headFits_toTail (headSound_watchHold S (.inl phase) fifth) F' T u phase full
    · exact headFits_heldPair F' T u phase full
  · have F' : HeadFits (x.watchHold ps v) ty := headFits_watchHold F ps v
    rw [tailWork_eq]
    split_ifs
    · exact holdEnd ps v
    · exact headFits_toRelease (headFits_tailPair F' T u) phase _
    · exact headFits_tailPair F' T u
  · have count := F.release phase
    rw [releaseWork_eq]
    split_ifs with full limit
    · exact headFits_toSettle F T phase
    · exact waitedEnd _ (by omega)
    · exact headFits_waited F T _ (by simp [phase]) (fun _ => Nat.lt_of_not_ge limit) (.inr phase)
  · have count := F.settle phase
    have range := T.settle
    have gather := F.gather (by simp [phase])
    rw [settleWork_eq]
    split_ifs with above full limit
    · exact headFits_finished B
    · exact headFits_finished { B with
        gather := show (x.gather ++ [u]).length ≤ ty.w by simpa using gather
        phaseCount := show x.phaseCount + 1 ≤ 6000 by omega }
    · exact gatheredEnd u (by omega)
    · exact headFits_gathered F T u (by simp [phase]) (fun _ => Nat.lt_of_not_ge limit) (.inr phase)

end

/-! ### Every head of the unit -/

/-- A head that is sound and fits the type of the slot that it holds (R62). -/
def HeadOk (v : RollView) (x : Head) : Prop :=
  HeadSound x ∧ ∀ m ty, x.mount = some m → typeIn v m.slot = some ty → HeadFits x ty

/-- The types that the slots of a roll refer to are sound (R26). -/
def TypesSound (v : RollView) : Prop := ∀ k ty, typeIn v k = some ty → TypeSound ty

theorem headsLaw_iff (s : State) : HeadsLaw s ↔ ∀ h, HeadOk (view s) (s.head h) := Iff.rfl

theorem typesSound_of_law {s : State} (law : TypesLaw s) : TypesSound (view s) := by
  intro k ty type
  obtain ⟨i, -, type⟩ := Option.bind_eq_some_iff.mp type
  obtain ⟨e, loaded, rfl⟩ := Option.map_eq_some_iff.mp type
  exact (law i.typeIdx e loaded).1

section
variable {v : RollView} {x y : Head}

theorem mount_leaves (fly : x.phase.inFlight = true) (ty : TypeFields) (p j : Reading) :
    (leaves (pairAction x ty p j)).mount = x.mount := by
  refine pairAction_cases (P := fun a => (leaves a).mount = x.mount) fly ty p j (fun c => rfl) (fun _ u => ?_) (fun _ ps v => ?_)
    (fun _ ps v u => ?_) (fun _ ps v u => ?_) (fun _ ps v => ?_) (fun _ ps v u => ?_)
  · rw [zeroingWork_eq]; split_ifs <;> rfl
  · rw [rampWork_eq]; split_ifs <;> rfl
  · rw [holdWork_eq]; split_ifs <;> rfl
  · rw [tailWork_eq]; split_ifs <;> rfl
  · rw [releaseWork_eq]; split_ifs <;> rfl
  · rw [settleWork_eq]; split_ifs <;> rfl

theorem HeadOk.move (T : TypesSound v) (K : HeadOk v x) (M : HeadMove v x y) : HeadOk v y := by
  obtain ⟨S, fits⟩ := K
  refine ⟨headSound_move S M, fun m ty mount type => ?_⟩
  cases M with
  | records | sees => exact { fits m ty mount type with }
  | setup => exact { fits m ty mount type with }
  | mounts n idle => exact headFits_unbegun (headSound_mounts S idle n) (T _ _ type) (.inr rfl)
  | begins ps => exact headFits_toZeroing (T _ _ type) ps
  | aborts => exact headFits_finished (withinType_of_fits (fits m ty mount type))
  | empties => cases mount
  | starts => cases mount
  | pair p j n ty' fly mounted type' =>
    rw [mount_leaves (x := x.see p j) fly] at mount
    obtain rfl := Option.some.inj (mount.symm.trans mounted)
    obtain rfl := Option.some.inj (type.symm.trans type')
    have F : HeadFits (x.see p j) ty := { fits m ty mount type with }
    exact headFits_pairAction (headSound_see S p j) F (T _ _ type) fly p j

theorem HeadOk.run (T : TypesSound v) (K : HeadOk v x) (R : HeadRun v x y) : HeadOk v y := by
  induction R with
  | refl => exact K
  | tail _ one ih => exact ih.move T one

/-- The slot that a head holds after some moves is one it held, or one that waited for a test. -/
theorem HeadMove.mount (M : HeadMove v x y) {m : Mount} (mount : y.mount = some m) :
    x.mount = some m ∨ (v.slots m.slot).state = .awaitTest := by
  cases M with
  | records | sees | setup | begins | aborts => exact .inl mount
  | mounts n idle waits =>
    obtain rfl := Option.some.inj mount
    exact .inr waits
  | pair p j n ty fly => exact .inl ((mount_leaves (x := x.see p j) fly ty p j).symm.trans mount)
  | empties => cases mount
  | starts => cases mount

theorem HeadRun.mount (R : HeadRun v x y) {m : Mount} (mount : y.mount = some m) :
    x.mount = some m ∨ (v.slots m.slot).state = .awaitTest := by
  induction R with
  | refl => exact .inl mount
  | tail _ one ih => exact (one.mount mount).elim ih .inr

end

/-- A slot that is open before a step and bound after it keeps its type (R4, R29). -/
theorem typeIn_step {s t : State} (e : step s = .next t) {k : SlotId} (isOpen : (s.slot k).state.isOpen = true)
    (bound : (t.slot k).state ≠ .free) : typeIn (view t) k = typeIn (view s) k := by
  have was : (s.slot k).state ≠ .free := fun free => by rw [free] at isOpen; cases isOpen
  have R : RollStep (view s) (view t) := rollStep_step e
  have ident : ((view t).slots k).ident = ((view s).slots k).ident := ((SlotChange.step R k).bound was bound).1.ident
  unfold typeIn
  rw [ident]
  cases named : ((view s).slots k).ident with
  | none => rfl
  | some d => rw [Option.bind_some, Option.bind_some, types_of_open R isOpen named]

/-- Settles O19. Each move keeps a head's items as its phase and its type have them, and a slot that a head holds after the
step had the same type before it. -/
theorem stepKeepsHeadsLaw : Obligations.StepKeepsHeadsLaw := by
  intro s t roll types heads e h
  have L : Lawful (view s) := (rollLaw_iff s).mp roll
  have L' : Lawful (view t) := (rollLaw_iff t).mp (stepKeepsRollLaw s t roll e)
  have R : HeadRun (view s) (s.head h) (t.head h) := headsRun_step e h
  obtain ⟨sound, fits⟩ := HeadOk.run (typesSound_of_law types) ((headsLaw_iff s).mp heads h) R
  refine ⟨sound, fun m ty mount type => fits m ty mount ?_⟩
  have isOpen : ((view s).slots m.slot).state.isOpen = true := by
    obtain held | waits := HeadRun.mount R mount
    · rw [(L.testing_of_mount held).2]; rfl
    · rw [waits]; rfl
  have bound : ((view t).slots m.slot).state ≠ .free := by
    rw [(L'.testing_of_mount mount).2]; exact nofun
  rwa [← typeIn_step e isOpen bound, typeIn_view]

end Sys2Proof.Heads

namespace Sys2Proof.Heads

open Sys2Proof.Machine Sys2Proof.Safety Sys2Proof.Laws Sys2Proof.Roll Sys2Proof.Settings

/-! ### A line reset at the heads and the links (R93, R123, R185) -/

/-- Two states that differ, of what no routing of slots touches, in their heads at most. -/
def SameButHeads (s t : State) : Prop := offRoll t = { offRoll s with heads := t.heads }

namespace SameButHeads
variable {s t u : State}

theorem of_eq (same : offRoll t = offRoll s) : SameButHeads s t := by
  unfold SameButHeads
  rw [heads_of_offRoll same, same]
  rfl

theorem setHead (s : State) (h : HeadId) (x : Head) : SameButHeads s (s.setHead h x) := rfl

theorem trans (E : SameButHeads s t) (F : SameButHeads t u) : SameButHeads s u := by
  unfold SameButHeads at *
  rw [F, E]

theorem foldl {α : Type} {f : State → α → State} (one : ∀ s a, SameButHeads s (f s a)) (xs : List α) (s : State) :
    SameButHeads s (xs.foldl f s) := by
  induction xs generalizing s with
  | nil => exact .of_eq rfl
  | cons a xs ih => exact (one s a).trans (ih (f s a))

theorem link (E : SameButHeads s t) (l : LinkId) : bare (t.link l) = bare (s.link l) :=
  congrFun (congrArg OffRoll.links E) l

theorem items (E : SameButHeads s t) (l : LinkId) : ownItems (t.link l) = ownItems (s.link l) :=
  congrFun (congrArg OffRoll.items E) l

end SameButHeads

theorem sameButHeads_cutShort (h : HeadId) (k : SlotId) (s : State) : SameButHeads s (cutShort h k s) := rfl

theorem sameButHeads_resetSlot (s : State) (k : SlotId) : SameButHeads s (resetSlot s k) := by
  cases held : (s.slot k).holder with
  | none => rw [resetSlot_free held]; exact .of_eq rfl
  | some w =>
    cases w with
    | link l => rw [resetSlot_claim held]; exact .of_eq (offRoll_giveUpClaim k s)
    | head h =>
      obtain phase | phase | phase | fly := phase_cases (s.head h).phase
      · rw [resetSlot_idle held phase]; exact .of_eq rfl
      · rw [resetSlot_mounted held phase]; exact .of_eq rfl
      · rw [resetSlot_done held phase]; exact .of_eq (offRoll_applyOutcome k s)
      · rw [resetSlot_cut held fly]
        exact (sameButHeads_cutShort h k s).trans (.of_eq (offRoll_applyOutcome k _))

/-! #### The tests in flight -/

/-- A slot of a roll whose ordinary test at a head a line reset cuts short. -/
def Cuts (v : RollView) (h : HeadId) (k : SlotId) : Prop :=
  (v.slots k).holder = some (.head h) ∧ (v.slots k).isProving = false ∧ (v.heads h).phase.inFlight = true

/-- A head whose test is cut short, the test counted invalid (R93). -/
def countedInvalid (x : Head) : Head := { x with live := x.live.count .invalid }

theorem head_cutShort (h g : HeadId) (k : SlotId) (s : State) :
    (cutShort h k s).head g = if g = h ∧ (s.slot k).isProving = false then countedInvalid (s.head g) else s.head g := by
  rw [cutShort, State.updHead_eq, State.head_setHead]
  by_cases e : g = h
  · subst e
    cases kind : (s.slot k).isProving <;> simp only [if_true, true_and] <;> rfl
  · have kept : ¬ (g = h ∧ (s.slot k).isProving = false) := fun both => e both.1
    rw [if_neg e, if_neg kept]
    rfl

open Classical in
theorem head_resetSlot (s : State) (k : SlotId) (h : HeadId) :
    (resetSlot s k).head h = if Cuts (view s) h k then countedInvalid (s.head h) else s.head h := by
  have routed (u : State) : (applyOutcome k u).head h = u.head h := by
    rw [State.head, State.head, heads_of_offRoll (offRoll_applyOutcome k u)]
  have cutsAt {g : HeadId} (held : (s.slot k).holder = some (.head g)) (cuts : Cuts (view s) h k) : h = g := by
    have at_h : (s.slot k).holder = some (.head h) := cuts.1
    simpa using at_h.symm.trans held
  cases held : (s.slot k).holder with
  | none =>
    have kept : ¬ Cuts (view s) h k := fun cuts => by simp [Cuts, held] at cuts
    rw [resetSlot_free held, if_neg kept]
  | some w =>
    cases w with
    | link l =>
      have kept : ¬ Cuts (view s) h k := fun cuts => by simp [Cuts, held] at cuts
      rw [resetSlot_claim held, if_neg kept, State.head, heads_giveUpClaim]
      rfl
    | head g =>
      have kept (rest : (s.head g).phase.inFlight = false) : ¬ Cuts (view s) h k := fun cuts => by
        obtain rfl := cutsAt held cuts
        obtain ⟨-, -, fly⟩ := cuts
        have fly : (s.head h).phase.inFlight = true := fly
        rw [rest] at fly
        cases fly
      obtain phase | phase | phase | fly := phase_cases (s.head g).phase
      · rw [resetSlot_idle held phase, if_neg (kept (by rw [phase]; rfl))]
      · rw [resetSlot_mounted held phase, if_neg (kept (by rw [phase]; rfl))]
        rfl
      · rw [resetSlot_done held phase, if_neg (kept (by rw [phase]; rfl)), routed]
      · rw [resetSlot_cut held fly, routed, head_cutShort]
        have cuts : h = g ∧ (s.slot k).isProving = false ↔ Cuts (view s) h k :=
          ⟨fun ⟨e, kind⟩ => e ▸ ⟨held, kind, fly⟩, fun ⟨at_h, kind, busy⟩ => ⟨cutsAt held ⟨at_h, kind, busy⟩, kind⟩⟩
        exact if_congr cuts rfl rfl

theorem cuts_iff {k j : SlotId} {ks : List SlotId} {v u : RollView} (R : Ready (k :: ks) v) (one : Resets k v u) (mem : j ∈ ks)
    (h : HeadId) : Cuts u h j ↔ Cuts v h j := by
  obtain ⟨e, -⟩ | ⟨now, was⟩ := R.rest one mem
  · simp only [Cuts, one.heads, e]
  · simp [Cuts, now, was]

open Classical in
/-- A head after the slots have been reset in turn; it holds one of them at most. -/
theorem head_foldl_resetSlot {h : HeadId} (ks : List SlotId) (s : State) (ready : Ready ks (view s))
    (alone : ∀ j ∈ ks, ∀ k ∈ ks, Cuts (view s) h j → Cuts (view s) h k → j = k) :
    (ks.foldl resetSlot s).head h = if ∃ k ∈ ks, Cuts (view s) h k then countedInvalid (s.head h) else s.head h := by
  induction ks generalizing s with
  | nil => simp
  | cons k ks ih =>
    have one := resets_resetSlot s k
    have new : k ∉ ks := (List.nodup_cons.mp ready.once).1
    have same (j : SlotId) (mem : j ∈ ks) := cuts_iff ready one mem h
    have rest : (∃ j ∈ ks, Cuts (view (resetSlot s k)) h j) ↔ ∃ j ∈ ks, Cuts (view s) h j :=
      exists_congr fun j => and_congr_right (same j)
    rw [List.foldl_cons, ih _ (ready.tail one) fun j hj i hi cj ci =>
      alone j (List.mem_cons_of_mem k hj) i (List.mem_cons_of_mem k hi) ((same j hj).mp cj) ((same i hi).mp ci)]
    simp only [rest, List.exists_mem_cons_iff, head_resetSlot]
    by_cases cuts : Cuts (view s) h k
    · have noMore : ¬ ∃ j ∈ ks, Cuts (view s) h j := fun ⟨j, mem, c⟩ =>
        new (alone j (List.mem_cons_of_mem k mem) k List.mem_cons_self c cuts ▸ mem)
      simp [cuts, noMore]
    · simp [cuts]

/-- A head counts a test invalid exactly when it has an ordinary test in flight. -/
theorem cuts_iff_mount {s : State} (L : Lawful (view s)) (h : HeadId) :
    (∃ k ∈ allSlots, Cuts (view s) h k) ↔
      (s.head h).phase.inFlight = true ∧ ((s.head h).mount.map fun m => (s.slot m.slot).isProving) = some false := by
  constructor
  · rintro ⟨k, -, held, kind, fly⟩
    obtain ⟨c, mount⟩ := (L.heads.mounted h k).mp held
    have mount : (s.head h).mount = some ⟨k, c⟩ := mount
    exact ⟨fly, by rw [mount]; exact congrArg some kind⟩
  · rintro ⟨fly, kind⟩
    obtain ⟨m, mount, kind⟩ := Option.map_eq_some_iff.mp kind
    exact ⟨m.slot, List.mem_finRange _, (L.heads.mounted h m.slot).mpr ⟨m.carrier, mount⟩, kind, fly⟩

open Classical in
theorem head_resetSlots {s : State} (L : Lawful (view s)) (h : HeadId) :
    (allSlots.foldl resetSlot (linksReset s)).head h =
      if (s.head h).phase.inFlight = true ∧ ((s.head h).mount.map fun m => (s.slot m.slot).isProving) = some false then
        countedInvalid (s.head h)
      else s.head h := by
  have one (j k : SlotId) (cj : Cuts (view s) h j) (ck : Cuts (view s) h k) : j = k := by
    obtain ⟨c, mount⟩ := (L.heads.mounted h j).mp cj.1
    obtain ⟨d, mount'⟩ := (L.heads.mounted h k).mp ck.1
    exact congrArg Mount.slot (Option.some.inj (mount.symm.trans mount'))
  have all := head_foldl_resetSlot (h := h) allSlots (linksReset s) (.of_lawful L) fun j _ k _ => one j k
  refine all.trans (if_congr (cuts_iff_mount L h) rfl rfl)

/-! #### The heads -/

/-- A head that a line reset has cleared: IDLE and UNPROVED (R93). -/
def cleared (x : Head) : Head := { x.toIdle with proving := none }

theorem head_lapse (s : State) (a h : HeadId) :
    (lapse a s).head h = if a = h then unproved (s.head h) else s.head h := by
  rw [lapse_cases]
  by_cases e : a = h
  · subst e
    rw [if_pos rfl]
    split_ifs with none
    · rw [unproved, ← none]
    · rw [raise_head, State.head_setHead_self]
      rfl
  · rw [if_neg e]
    split_ifs
    · rfl
    · rw [raise_head, State.head_setHead_other _ _ _ _ (Ne.symm e)]

theorem head_resetHead (s : State) (a h : HeadId) :
    (resetHead s a).head h = if a = h then cleared (s.head h) else s.head h := by
  rw [resetHead, State.updHead_eq, head_lapse, State.head_setHead]
  by_cases e : a = h
  · subst e
    rw [if_pos rfl, if_pos rfl, if_pos rfl]
    rfl
  · rw [if_neg e, if_neg (Ne.symm e), if_neg e]

theorem head_resetHeads (s : State) (h : HeadId) : (allHeads.foldl resetHead s).head h = cleared (s.head h) := by
  have all := foldl_touches (read := fun s => s.head h) (g := cleared) (T := fun _ a => a = h) (fun s a => head_resetHead s a h)
    (fun _ _ _ _ => .rfl) (fun _ a b ha hb => hb.trans ha.symm) allHeads_nodup s
  simpa using all

theorem bare_resetHead (s : State) (h : HeadId) (l : LinkId) : bare ((resetHead s h).link l) = bare (s.link l) := by
  rw [resetHead, lapse_cases]
  split_ifs
  · rfl
  · exact bare_raise _ _ l

theorem bare_resetHeads (s : State) (l : LinkId) : bare ((allHeads.foldl resetHead s).link l) = bare (s.link l) :=
  foldl_keeps (fun s => bare (s.link l)) _ (fun u h => bare_resetHead u h l) allHeads s

/-- The items that the heads add to a link as they are reset (R123). -/
theorem gains_resetHeads (s : State) (l : LinkId) :
    Gains l (fun n => (l = .L0 ∨ l = .L2) ∧ ∃ h, (s.head h).proving ≠ none ∧ n = .headUnproved h) s
      (allHeads.foldl resetHead s) := by
  refine (Gains.foldl (P := fun s h n => (s.head h).proving ≠ none ∧ n = .headUnproved h ∧ (l = .L0 ∨ l = .L2)) (fun s h => ?_)
    (fun s a b n other => by rw [head_resetHead, if_neg other.symm]) allHeads_nodup s).congr fun n => ?_
  · have idle : Gains l (fun _ => False) s (s.setHead h (s.head h).toIdle) := .nothing rfl.to_iff rfl
    rw [resetHead, State.updHead_eq, lapse_cases, State.head_setHead_self]
    split_ifs with none
    · have none : (s.head h).proving = .none := none
      exact idle.congr (by simp [none])
    · have proved : (s.head h).proving ≠ .none := none
      have written : Gains l (fun _ => False) (s.setHead h (s.head h).toIdle)
        ((s.setHead h (s.head h).toIdle).setHead h { (s.head h).toIdle with proving := .none }) := .nothing rfl.to_iff rfl
      refine ((idle.trans written).trans (.raise (.headUnproved h) _)).congr fun n => ?_
      simp [proved, Notice.kind, towards]
  · simp only [mem_allHeads, true_and, ← and_assoc, exists_and_right]
    exact and_comm

/-! #### The whole line reset -/

section
variable (s : State)

theorem sameButHeads_resetSlots : SameButHeads (linksReset s) (allSlots.foldl resetSlot (linksReset s)) :=
  .foldl sameButHeads_resetSlot allSlots _

/-- Each link after the reset of the slots: RUNNING, no item about a head or a link pending. -/
theorem ownItems_resetSlots (l : LinkId) : ownItems ((allSlots.foldl resetSlot (linksReset s)).link l) = ∅ := by
  rw [(sameButHeads_resetSlots s).items l, linksReset_link]
  exact Set.eq_empty_of_forall_notMem fun n own => List.not_mem_nil own.2

theorem bare_lineReset (l : LinkId) : bare ((lineReset s).link l) = bare (s.link l).lineReset := by
  rw [lineReset_eq, bare_resetHeads, (sameButHeads_resetSlots s).link l, linksReset_link]

variable {s} (L : Lawful (view s))
include L

theorem proving_resetSlots (h : HeadId) : ((allSlots.foldl resetSlot (linksReset s)).head h).proving = (s.head h).proving := by
  classical
  rw [head_resetSlots L]
  split_ifs <;> rfl

/-- The items about heads and links that a line reset leaves pending (R123, R185). -/
theorem mem_lineReset_of_own {n : Notice} (own : notOfRoll n = true) (l : LinkId) :
    n ∈ ((lineReset s).link l).pending ↔ (l = .L0 ∨ l = .L2) ∧ ∃ h, (s.head h).proving ≠ none ∧ n = .headUnproved h := by
  have none : n ∉ ((allSlots.foldl resetSlot (linksReset s)).link l).pending := fun mem =>
    Set.notMem_empty n (ownItems_resetSlots s l ▸ ⟨own, mem⟩)
  have running : ((allSlots.foldl resetSlot (linksReset s)).link l).state = .running := by
    have same := (sameButHeads_resetSlots s).link l
    rw [linksReset_link] at same
    exact congrArg Link.state same
  rw [lineReset_eq, (gains_resetHeads _ l).pends, running]
  simp [none, proving_resetSlots L]

end

/-- A link that differs from another in its pending set at most. -/
theorem link_of_bare {a b : Link} (same : bare a = bare b) : a = { b with pending := a.pending } :=
  congrArg (fun k => { k with pending := a.pending }) same

/-! #### The settings -/

/-- Two states with the same line settings, clock and power. -/
def SameSettings (s t : State) : Prop :=
  t.types = s.types ∧ t.mark = s.mark ∧ t.limits = s.limits ∧ t.calendar = s.calendar ∧ t.manualDate = s.manualDate ∧
    t.snapHeader = s.snapHeader ∧ t.clock = s.clock ∧ t.powered = s.powered

theorem SameSettings.of_sameButLine {s t : State} (E : SameButLine s t) : SameSettings s t := by
  unfold SameButLine at E
  rw [E]
  exact ⟨rfl, rfl, rfl, rfl, rfl, rfl, rfl, rfl⟩

theorem SameSettings.of_sameButHeads {s t : State} (E : SameButHeads s t) : SameSettings s t :=
  ⟨congrArg OffRoll.types E, congrArg OffRoll.mark E, congrArg OffRoll.limits E, congrArg OffRoll.calendar E,
    congrArg OffRoll.manualDate E, congrArg OffRoll.snapHeader E, congrArg OffRoll.clock E, congrArg OffRoll.powered E⟩

theorem SameSettings.trans {s t u : State} (E : SameSettings s t) (F : SameSettings t u) : SameSettings s u := by
  obtain ⟨types, mark, limits, calendar, manual, header, clock, powered⟩ := E
  obtain ⟨types', mark', limits', calendar', manual', header', clock', powered'⟩ := F
  exact ⟨types'.trans types, mark'.trans mark, limits'.trans limits, calendar'.trans calendar, manual'.trans manual,
    header'.trans header, clock'.trans clock, powered'.trans powered⟩

theorem sameButLine_lapse (h : HeadId) (s : State) : SameButLine s (lapse h s) := by
  rw [lapse_cases]
  split_ifs
  · exact .refl s
  · exact SameButLine.trans (show SameButLine s (s.setHead h _) from rfl) (.raise _ _)

theorem sameButLine_resetHead (s : State) (h : HeadId) : SameButLine s (resetHead s h) := by
  have idle : SameButLine s (s.setHead h (s.head h).toIdle) := rfl
  exact idle.trans (sameButLine_lapse h _)

theorem sameSettings_lineReset (s : State) : SameSettings s (lineReset s) := by
  have links : SameSettings s (linksReset s) := ⟨rfl, rfl, rfl, rfl, rfl, rfl, rfl, rfl⟩
  have slots := SameSettings.of_sameButHeads (sameButHeads_resetSlots s)
  have heads := SameSettings.of_sameButLine
    (SameButLine.foldl sameButLine_resetHead allHeads (allSlots.foldl resetSlot (linksReset s)))
  rw [lineReset_eq]
  exact (links.trans slots).trans heads

/-- Settles O36. The heads are read slot by slot and head by head; of the items pending about heads and links the reset leaves
the HEAD_UNPROVED that it raises. -/
theorem lineResetClearsHeadsAndLinks : Obligations.LineResetClearsHeadsAndLinks := by
  intro s law
  have L : Lawful (view s) := (rollLaw_iff s).mp law
  refine ⟨fun h => ?heads, fun l => ?links, fun h => ⟨?toL0, ?toL2, ?hold, ?test⟩, fun l => ?lost, sameSettings_lineReset s⟩
  case heads =>
    rw [lineReset_eq, head_resetHeads, head_resetSlots L]
    split_ifs <;> rfl
  case links => exact link_of_bare (bare_lineReset s l)
  case toL0 => simp [mem_lineReset_of_own L (n := .headUnproved h) rfl]
  case toL2 => simp [mem_lineReset_of_own L (n := .headUnproved h) rfl]
  case hold => simp [mem_lineReset_of_own L (n := .holdDone h) rfl]
  case test => simp [mem_lineReset_of_own L (n := .testDone h) rfl]
  case lost => simp [mem_lineReset_of_own L (n := .linkLost l) rfl]

end Sys2Proof.Heads

namespace Sys2Proof.Heads

open Sys2Proof.Machine Sys2Proof.Safety Sys2Proof.Laws Sys2Proof.Roll Sys2Proof.Settings

/-! ### MOUNT and HEAD_SETUP (R65, R91) -/

section
variable {s : State} {h : HeadId} {c : Nat} {k : SlotId}

/-- MOUNT on a bound carrier: holder, state and head, in this order (R65). -/
theorem takeMount_bound (bound : s.bound c = some k) :
    takeMount ⟨headNumber h, c⟩ s =
      if (s.slot k).holder.isSome then (s, refusal .held)
      else if (s.slot k).state ≠ .awaitTest then (s, refusal .state)
      else if (s.head h).phase ≠ .idle then (s, refusal .headBusy)
      else
        (mountSlot h k c s,
         okWith (u8 k.val ++ (s.slot k).serialBytes ++ (s.slot k).typeBytes ++ yesNo (s.slot k).isProving)) := by
  rw [takeMount, onHead_some, onCarrier_some _ bound]

theorem mount_held (can : CanTake s .L2) (bound : s.bound c = some k) (held : (s.slot k).holder ≠ none) :
    exec (.mount .L2 (.fields ⟨headNumber h, c⟩)) s = .next (refusedWith s .L2 23 .held) :=
  request_refused .mount _ takeMount can rfl .held (by
    rw [takeMount_bound (s := heard s .L2) bound, heard_slot, if_pos (Option.isSome_iff_ne_none.mpr held)])

section
variable (can : CanTake s .L2) (bound : s.bound c = some k) (free : (s.slot k).holder = none)
include can bound free

theorem mount_state (state : (s.slot k).state ≠ .awaitTest) :
    exec (.mount .L2 (.fields ⟨headNumber h, c⟩)) s = .next (refusedWith s .L2 23 .state) :=
  request_refused .mount _ takeMount can rfl .state (by
    rw [takeMount_bound (s := heard s .L2) bound]
    simp [free, state])

theorem mount_headBusy (state : (s.slot k).state = .awaitTest) (busy : (s.head h).phase ≠ .idle) :
    exec (.mount .L2 (.fields ⟨headNumber h, c⟩)) s = .next (refusedWith s .L2 23 .headBusy) :=
  request_refused .mount _ takeMount can rfl .headBusy (by
    rw [takeMount_bound (s := heard s .L2) bound]
    simp [free, state, busy])

theorem mount_taken (state : (s.slot k).state = .awaitTest) (idle : (s.head h).phase = .idle) :
    exec (.mount .L2 (.fields ⟨headNumber h, c⟩)) s =
      .next (answered (mountSlot h k c (heard s .L2)) .L2 23 .ok
        (u8 k.val ++ (s.slot k).serialBytes ++ (s.slot k).typeBytes ++ yesNo (s.slot k).isProving)) :=
  request_ok .mount _ takeMount _ can rfl (by
    rw [takeMount_bound (s := heard s .L2) bound]
    simp [free, state, idle])

end

variable (can : CanTake s .L2)
include can

theorem headSetup_headBusy (busy : (s.head h).phase ≠ .idle) (g b : Nat) :
    exec (.headSetup .L2 (.fields ⟨headNumber h, g, b⟩)) s = .next (refusedWith s .L2 27 .headBusy) :=
  request_refused .headSetup _ takeHeadSetup can rfl .headBusy (by simp [takeHeadSetup, onHead_some, busy])

theorem headSetup_taken (idle : (s.head h).phase = .idle) (g b : Nat) :
    exec (.headSetup .L2 (.fields ⟨headNumber h, g, b⟩)) s =
      .next (answered ((heard s .L2).setHead h { s.head h with lag := clamp 0 15 g, band := clamp 1 500 b }) .L2 27 .ok
        (u8 (clamp 0 15 g) ++ u16 (clamp 1 500 b))) :=
  request_ok .headSetup _ takeHeadSetup _ can rfl (by simp [takeHeadSetup, onHead_some, idle])

end

/-- Settles O47: the checks of each request in their order, then its effect. -/
theorem mountAndHeadSetup : Obligations.MountAndHeadSetup := by
  refine fun s can => ⟨fun n c above => ?_, fun n g b above => ?_, fun h c k bound => ⟨mount_held can bound, ?_, ?_⟩,
    fun h g b => ⟨fun busy => headSetup_headBusy can busy g b, fun idle => headSetup_taken can idle g b⟩⟩
  · exact request_refused .mount _ takeMount can rfl .field (onHead_none _ above)
  · exact request_refused .headSetup _ takeHeadSetup can rfl .field (onHead_none _ above)
  · exact fun free state => mount_state can bound free state
  · refine fun free state => ⟨mount_headBusy can bound free state, fun idle => ?_⟩
    rw [mount_taken can bound free state idle, Slot.serialBytes, Slot.typeBytes, opt_eq_sentOr, opt_eq_sentOr, yesNo_eq_sentYes]
    rfl

end Sys2Proof.Heads

namespace Sys2Proof.Heads

open Sys2Proof.Machine Sys2Proof.Safety Sys2Proof.Laws Sys2Proof.Roll Sys2Proof.Settings

/-! ### BEGIN (R68, R69, R121) -/

/-- The nominal attempt pressure: the test pressure for a proving slot and a first attempt, raised afterwards (R97). -/
theorem attemptPa_eq (ty : TypeFields) (proving : Bool) (n : Nat) :
    attemptPa ty proving (n + 1) = if proving = true ∨ n + 1 = 1 then ty.pt else ty.pt + ty.pt * ty.lr / 1000 := by
  simp [attemptPa, raised]

section
variable {x : Slot} {y : Head} {ty : TypeFields}

/-- The pressures that the next attempt on a slot would run at (R97, R98). -/
abbrev nextPressures (x : Slot) (ty : TypeFields) : Pressures := pressuresAt ty (attemptPa ty x.isProving (x.attempts + 1))

/-- The head may test the slot at these pressures: a proving slot always, an ordinary one under its proving record (R68). -/
def Covers (x : Slot) (y : Head) (ty : TypeFields) : Prop :=
  x.isProving = true ∨ ∃ v, y.proving = some v ∧ (nextPressures x ty).pa ≤ v.pv

theorem beginCheck_spent (spent : 2 + x.grants ≤ x.attempts) : beginCheck x y ty = .error .spent := by
  simp [beginCheck, spent]

section
variable (left : ¬ 2 + x.grants ≤ x.attempts)
include left

theorem beginCheck_unproved (ordinary : x.isProving = false) (none : y.proving = none) :
    beginCheck x y ty = .error .unproved := by
  simp [beginCheck, left, ordinary, none]

theorem beginCheck_notCovered {v : Proved} (ordinary : x.isProving = false) (proved : y.proving = some v)
    (below : v.pv < (nextPressures x ty).pa) : beginCheck x y ty = .error .notCovered := by
  rw [nextPressures, ordinary] at below
  simp [beginCheck, left, ordinary, proved, below]

theorem beginCheck_covered (covers : Covers x y ty) :
    beginCheck x y ty = if ty.w ≤ y.lag then .error .field else .ok (nextPressures x ty) := by
  obtain kind | ⟨v, proved, above⟩ := covers
  · simp [beginCheck, nextPressures, left, kind]
  · simp only [nextPressures] at above
    simp [beginCheck, left, proved, above]

end
end

section
variable {s : State} {h : HeadId}

theorem begin_state (can : CanTake s .L2) (other : (s.head h).phase ≠ .mounted) :
    exec (.begin .L2 (.fields (headNumber h))) s = .next (refusedWith s .L2 24 .state) :=
  request_refused .begin _ takeBegin can rfl .state (by simp [takeBegin, onHead_some, other])

section
variable {m : Mount} {ty : TypeFields} (can : CanTake s .L2) (mounted : (s.head h).phase = .mounted)
  (mount : (s.head h).mount = some m)
include can mounted mount

theorem begin_noDate (noDate : s.calendar = none) :
    exec (.begin .L2 (.fields (headNumber h))) s = .next (refusedWith s .L2 24 .noDate) :=
  request_refused .begin _ takeBegin can rfl .noDate (by
    simp [takeBegin, onHead_some, mounted, mount, noDate])

theorem begin_noType (date : s.calendar ≠ none) (noType : s.typeOfSlot (s.slot m.slot) = none) :
    exec (.begin .L2 (.fields (headNumber h))) s = .next (refusedWith s .L2 24 .noType) :=
  request_refused .begin _ takeBegin can rfl .noType (by
    simp [takeBegin, onHead_some, mounted, mount, date, noType])

section
variable (date : s.calendar ≠ none) (type : s.typeOfSlot (s.slot m.slot) = some ty)
include date type

theorem begin_refused {st : Status} (checks : beginCheck (s.slot m.slot) (s.head h) ty = .error st) :
    exec (.begin .L2 (.fields (headNumber h))) s = .next (refusedWith s .L2 24 st) :=
  request_refused .begin _ takeBegin can rfl st (by
    simp [takeBegin, onHead_some, mounted, mount, date, type, checks])

theorem begin_taken {ps : Pressures} (checks : beginCheck (s.slot m.slot) (s.head h) ty = .ok ps) :
    exec (.begin .L2 (.fields (headNumber h))) s =
      .next (answered (beginTest h m.slot ps (heard s .L2)) .L2 24 .ok
        (u8 ((s.slot m.slot).attempts + 1) ++ pressuresBytes ps)) :=
  request_ok .begin _ takeBegin _ can rfl (by
    simp [takeBegin, onHead_some, mounted, mount, date, type, checks])

end
end

/-! #### The proving count -/

theorem countProving_below {v : Proved} (proved : (s.head h).proving = some v) (below : v.count + 1 < s.limits.testLimit) :
    countProving h s = s.setHead h { s.head h with proving := some { v with count := v.count + 1 } } := by
  simp [countProving, proved, below]

theorem countProving_reached {v : Proved} (proved : (s.head h).proving = some v) (reached : s.limits.testLimit ≤ v.count + 1) :
    countProving h s = raise (.headUnproved h) (s.setHead h { s.head h with proving := none }) := by
  simp [countProving, proved, reached, lapse_cases]

end

/-- Settles O48: the eight checks in their order, and what a BEGIN taken sets. -/
theorem beginStartsTheTest : Obligations.BeginStartsTheTest := by
  refine fun s can => ⟨fun n above => request_refused .begin _ takeBegin can rfl .field (onHead_none _ above), fun h => ?_⟩
  intro y out
  refine ⟨begin_state can, fun m mounted mount => ?_⟩
  intro x
  refine ⟨begin_noDate can mounted mount, begin_noType can mounted mount, fun ty date type => ?_⟩
  intro n pa ps
  have atPa : nextPressures x ty = ps := by rw [nextPressures, attemptPa_eq]; rfl
  have atPa' : (nextPressures x ty).pa = pa := by rw [atPa]
  have refused {st : Status} (checks : beginCheck x y ty = .error st) : out = .next (refusedWith s .L2 24 st) :=
    begin_refused can mounted mount date type checks
  refine ⟨fun spent => refused (beginCheck_spent spent), fun below => ?_⟩
  have left : ¬ 2 + x.grants ≤ x.attempts := Nat.not_le.mpr below
  refine ⟨?unproved, ?notCovered, fun covers => ?_⟩
  case unproved => exact fun ordinary none => refused (beginCheck_unproved left ordinary none)
  case notCovered =>
    exact fun v ordinary proved below => refused (beginCheck_notCovered left ordinary proved (atPa' ▸ below))
  have covers : Covers x y ty := by unfold Covers; rwa [atPa']
  have checks := beginCheck_covered left covers
  refine ⟨fun long => refused (by rw [checks, if_pos long]), fun short => ?_⟩
  rw [if_neg (Nat.not_le.mpr short), atPa] at checks
  intro record z u body
  have taken : out = .next (answered (beginTest h m.slot ps (heard s .L2)) .L2 24 .ok body) :=
    begin_taken can mounted mount date type checks
  have begun : testBegun h m.slot ps (heard s .L2) = u.setHead h z := rfl
  rw [beginTest_eq, begun] at taken
  have atHead : (u.setHead h z).head h = z := State.head_setHead_self u h z
  refine ⟨fun kind => ?ofProving, fun v ordinary proved => ?ofOrdinary⟩
  case ofProving => rw [taken, heard_slot, if_pos kind]
  have notProving : ¬ x.isProving = true := by simp [ordinary]
  have proved' : ((u.setHead h z).head h).proving = some v := by rw [atHead]; exact proved
  rw [taken, heard_slot, if_neg notProving]
  refine ⟨fun below => ?_, fun reached => ?_⟩
  · rw [countProving_below proved' below, atHead, State.setHead_setHead]
  · rw [countProving_reached proved' reached, atHead, State.setHead_setHead]

end Sys2Proof.Heads

namespace Sys2Proof.Heads

open Sys2Proof.Machine Sys2Proof.Safety Sys2Proof.Laws Sys2Proof.Roll Sys2Proof.Settings

/-! ### ABORT and DISMOUNT (R66, R86) -/

theorem phase_eq_sentPlace (p : Phase) :
    u8 (phaseByte p) = sentPlace [Phase.idle, .mounted, .zeroing, .ramp, .hold, .tail, .release, .settle, .done] p := by
  cases p <;> rfl

section
variable {s : State} {h : HeadId} (can : CanTake s .L2)
include can

theorem abort_state (rest : (s.head h).phase.inFlight = false) :
    exec (.abort .L2 (.fields (headNumber h))) s = .next (refusedWith s .L2 25 .state) :=
  request_refused .abort _ takeAbort can rfl .state (by simp [takeAbort, onHead_some, rest])

theorem dismount_headBusy (fly : (s.head h).phase.inFlight = true) :
    exec (.dismount .L2 (.fields (headNumber h))) s = .next (refusedWith s .L2 26 .headBusy) :=
  request_refused .dismount _ takeDismount can rfl .headBusy (by simp [takeDismount, onHead_some, fly])

theorem dismount_state (idle : (s.head h).phase = .idle) (none : (s.head h).mount = none) :
    exec (.dismount .L2 (.fields (headNumber h))) s = .next (refusedWith s .L2 26 .state) :=
  request_refused .dismount _ takeDismount can rfl .state (by simp [takeDismount, onHead_some, idle, none, Phase.inFlight])

section
variable {m : Mount} (mount : (s.head h).mount = some m)
include mount

theorem abort_taken (fly : (s.head h).phase.inFlight = true) :
    exec (.abort .L2 (.fields (headNumber h))) s =
      .next (answered (endByCause h m.slot (.invalid .aborted) (heard s .L2)) .L2 25 .ok (u8 (phaseByte (s.head h).phase))) :=
  request_ok .abort _ takeAbort _ can rfl (by simp [takeAbort, onHead_some, fly, mount])

theorem dismount_mounted (mounted : (s.head h).phase = .mounted) :
    exec (.dismount .L2 (.fields (headNumber h))) s =
      .next (answered (dismountMounted h m.slot (heard s .L2)) .L2 26 .ok (u8 4)) :=
  request_ok .dismount _ takeDismount _ can rfl (by
    simp [takeDismount, onHead_some, mounted, mount, Phase.inFlight, slotStateByte])

/-- A DISMOUNT at a head in DONE routes the slot by the outcome written (R12, R66). -/
theorem dismount_done (done : (s.head h).phase = .done) :
    exec (.dismount .L2 (.fields (headNumber h))) s =
      .next (answered (applyOutcome m.slot ((heard s .L2).setHead h (s.head h).toIdle)) .L2 26 .ok
        (u8 (slotStateByte (s.slot m.slot).route))) :=
  request_ok .dismount _ takeDismount _ can rfl (by
    simp [takeDismount, onHead_some, done, mount, Phase.inFlight, dismountDone])

end
end

/-! #### The state that a routed slot enters (R12) -/

section
variable {x : Slot}

theorem route_proving (kind : x.isProving = true) : x.route = .closed := by simp [Slot.route, kind]

section
variable (kind : x.isProving = false)
include kind

theorem route_pass (o : outcomeOf x = some .pass) : x.route = .awaitStamp := by
  unfold outcomeOf at o
  simp [Slot.route, kind, o]

theorem route_condemn (o : outcomeOf x = some .condemn) : x.route = .awaitScrap := by
  unfold outcomeOf at o
  simp [Slot.route, kind, o]

theorem route_again (o : outcomeOf x = some .invalid) (left : x.attempts < 2 + x.grants) : x.route = .awaitTest := by
  unfold outcomeOf at o
  simp [Slot.route, kind, o, left]

theorem route_spent (o : outcomeOf x = some .invalid) (spent : 2 + x.grants ≤ x.attempts) : x.route = .referred := by
  unfold outcomeOf at o
  simp [Slot.route, kind, o, Nat.not_lt.mpr spent]

end
end

/-- A slot whose allowance is spent posts finding 206 and joins the referral queue (R12, R134). -/
theorem enterReferred_post (k : SlotId) (f : Finding) (s : State) :
    enterReferred k (post k f s) =
      reporting
        (fun u => { u.setSlot k { (s.slot k).post f with state := .referred, holder := none } with referral := s.referral ++ [k] })
        (s.setSlot k ((s.slot k).post f)) :=
  Sys2Proof.Admission.reporting_congr (by simp)

/-- Settles O49: each request's checks, and the routing of a slot that was tested by its outcome. -/
theorem abortAndDismount : Obligations.AbortAndDismount := by
  refine fun s can => ⟨fun n above => ⟨request_refused .abort _ takeAbort can rfl .field (onHead_none _ above),
    request_refused .dismount _ takeDismount can rfl .field (onHead_none _ above)⟩, fun h => ?_⟩
  intro y abort dismount
  refine ⟨abort_state can, dismount_headBusy can, dismount_state can, fun m mount => ?_⟩
  intro x idle
  refine ⟨fun fly => ?aborts, fun mounted => dismount_mounted can mount mounted, fun done => ?_⟩
  case aborts => rw [← phase_eq_sentPlace]; exact abort_taken can mount fly
  have routed {t : State} {st : SlotState} (moves : applyOutcome m.slot idle = t) (state : x.route = st) :
      dismount = .next (answered t .L2 26 .ok (u8 (slotStateByte st))) := by
    rw [← moves, ← state]
    exact dismount_done can mount done
  refine ⟨fun kind => ?proves, fun kind => ⟨fun o => ?passes, fun o => ?condemns, fun o left => ?again, fun o spent => ?refers⟩⟩
  case proves => exact routed (applyOutcome_proving (s := idle) kind) (route_proving kind)
  case passes => exact routed (applyOutcome_pass (s := idle) kind o) (route_pass kind o)
  case condemns => exact routed (applyOutcome_condemn (s := idle) kind o) (route_condemn kind o)
  case again =>
    have notPass : outcomeOf x ≠ some .pass := by simp [o]
    have notCondemn : outcomeOf x ≠ some .condemn := by simp [o]
    exact routed (applyOutcome_again (s := idle) kind notPass notCondemn fun _ => left) (route_again kind o left)
  case refers =>
    exact routed ((applyOutcome_spent (s := idle) kind o spent).trans (enterReferred_post m.slot _ idle)) (route_spent kind o spent)

end Sys2Proof.Heads

namespace Sys2Proof.Heads

open Sys2Proof.Machine Sys2Proof.Safety Sys2Proof.Laws Sys2Proof.Roll Sys2Proof.Settings

/-! ### A reading pair, phase by phase -/

theorem stable_iff (x : Head) (window : List Nat) : x.stable window = true ↔ spread window ≤ x.band := decide_eq_true_iff

/-- A pair at a test in flight is its action, carried out. -/
theorem readingPair_next {s : State} {h : HeadId} {k : SlotId} {c : Nat} {ty : TypeFields} {ps : Pressures} {p j : Reading}
    (on : TestOn s h k c ty ps) (fly : (s.head h).phase.inFlight = true) {a : PairAction}
    (act : pairAction ((s.head h).see p j) ty p j = a) : exec (.readingPair h p j) s = .next (carryOut h k ty a s) := by
  rw [← act]
  exact execReadingPair_testOn on fly p j

/-- The row of an event that a pair brings about is that pair (notes/assumptions/3.md). -/
theorem takePairAs_next {s : State} {h : HeadId} {k : SlotId} {c : Nat} {ty : TypeFields} {ps : Pressures} {p j : Reading}
    (on : TestOn s h k c ty ps) (fly : (s.head h).phase.inFlight = true) {a : PairAction}
    (act : pairAction ((s.head h).see p j) ty p j = a) {is : PairAction → Bool} (event : is a = true) :
    Host.Outcome.next (takePairAs h p j is s) = (.next (carryOut h k ty a s) : Host.Outcome State Fault Refusal) := by
  rw [takePairAs_testOn on fly, act, if_pos event]

theorem readingPair_ends {s : State} {h : HeadId} {k : SlotId} {c : Nat} {ty : TypeFields} {ps : Pressures} {p j : Reading}
    (on : TestOn s h k c ty ps) (fly : (s.head h).phase.inFlight = true) {y : Head} {cause : EndCause}
    (act : pairAction ((s.head h).see p j) ty p j = .ends y cause) :
    exec (.readingPair h p j) s = .next (endByCause h k cause (s.setHead h y)) := readingPair_next on fly act

theorem takePairAs_ends {s : State} {h : HeadId} {k : SlotId} {c : Nat} {ty : TypeFields} {ps : Pressures} {p j : Reading}
    (on : TestOn s h k c ty ps) (fly : (s.head h).phase.inFlight = true) {y : Head} {r : Reason}
    (act : pairAction ((s.head h).see p j) ty p j = .ends y (.invalid r)) :
    Host.Outcome.next (takePairAs h p j (PairAction.endsBy r) s) =
      (.next (endByCause h k (.invalid r) (s.setHead h y)) : Host.Outcome State Fault Refusal) :=
  takePairAs_next on fly act (by simp [PairAction.endsBy])

/-- A pair of two values at most Po passes both watches (R82, R83). -/
theorem watched_below {x : Head} {ps : Pressures} {v : Nat} (below : v ≤ ps.po) (u : Nat) (work : Nat → Nat → PairAction) :
    watched x ps (some v) (some u) work = work v u := if_neg (Nat.not_lt.mpr below)

section
variable {x : Head} {ty : TypeFields} {ps : Pressures} (pressures : x.pressures = some ps)
include pressures

theorem pairAction_zeroing (phase : x.phase = .zeroing) (p j : Reading) :
    pairAction x ty p j = zeroingChecked x ps (readingLevel p) (readingLevel j) (zeroingWork x ty) := by
  simp [pairAction, phase, pressures]

/-! #### The watches of RAMP to SETTLE (R82, R83) -/

/-- The phases in which both watches stand. -/
abbrev watchedPhases : List Phase := [.ramp, .hold, .tail, .release, .settle]

/-- In those phases a pair goes through the watches to the work of its phase. -/
theorem pairAction_watched (phase : x.phase ∈ watchedPhases) (p j : Reading) :
    ∃ work, pairAction x ty p j = watched x ps (readingLevel p) (readingLevel j) work := by
  simp only [watchedPhases, List.mem_cons, List.not_mem_nil, or_false] at phase
  obtain phase | phase | phase | phase | phase := phase <;>
    exact ⟨_, by simp only [pairAction, phase, pressures, Option.getD_some]; rfl⟩

theorem pairAction_overpressure (phase : x.phase ∈ watchedPhases) {v : Nat} (above : ps.po < min v 65000) (j : Reading) :
    pairAction x ty (.value v) j = .ends x (.overpressure (min v 65000)) := by
  obtain ⟨work, e⟩ := pairAction_watched (ty := ty) pressures phase (.value v) j
  rw [e]
  cases j <;> simp only [readingLevel_value, readingLevel_fault, watched, if_pos above]

theorem pairAction_pressureFault (phase : x.phase ∈ watchedPhases) (j : Reading) :
    pairAction x ty .fault j = .ends x (.invalid .sensor) := by
  obtain ⟨work, e⟩ := pairAction_watched (ty := ty) pressures phase .fault j
  rw [e]
  rfl

theorem pairAction_jacketFault (phase : x.phase ∈ watchedPhases) {v : Nat} (below : min v 65000 ≤ ps.po) :
    pairAction x ty (.value v) .fault = .ends x (.invalid .sensor) := by
  obtain ⟨work, e⟩ := pairAction_watched (ty := ty) pressures phase (.value v) .fault
  rw [e]
  exact if_neg (Nat.not_lt.mpr below)

section
variable {v u : Nat} (below : min v 65000 ≤ ps.po)
include below

theorem pairAction_ramp (phase : x.phase = .ramp) :
    pairAction x ty (.value v) (.value u) = rampWork x ty ps (min v 65000) := by
  simp only [pairAction, phase, pressures, Option.getD_some, readingLevel_value, watched_below below]

theorem pairAction_hold (phase : x.phase = .hold) :
    pairAction x ty (.value v) (.value u) = holdWork x ty ps (min v 65000) (min u 65000) := by
  simp only [pairAction, phase, pressures, Option.getD_some, readingLevel_value, watched_below below]

theorem pairAction_tail (phase : x.phase = .tail) :
    pairAction x ty (.value v) (.value u) = tailWork x ty ps (min v 65000) (min u 65000) := by
  simp only [pairAction, phase, pressures, Option.getD_some, readingLevel_value, watched_below below]

theorem pairAction_release (phase : x.phase = .release) :
    pairAction x ty (.value v) (.value u) = releaseWork x ps (min v 65000) := by
  simp only [pairAction, phase, pressures, Option.getD_some, readingLevel_value, watched_below below]

theorem pairAction_settle (phase : x.phase = .settle) :
    pairAction x ty (.value v) (.value u) = settleWork x ty ps (min v 65000) (min u 65000) := by
  simp only [pairAction, phase, pressures, Option.getD_some, readingLevel_value, watched_below below]

end
end

/-! #### ZEROING (R71, R72) -/

section
variable {x : Head} {ty : TypeFields} {u : Nat}

/-- A window of W readings within the settle band (R71). -/
abbrev StableWindow (x : Head) (ty : TypeFields) (u : Nat) : Prop :=
  ty.w ≤ (x.gather ++ [u]).length ∧ x.stable (x.gather ++ [u]) = true

theorem not_stableWindow (unstable : ¬ ty.w ≤ (x.gather ++ [u]).length ∨ x.band < spread (x.gather ++ [u])) :
    ¬ StableWindow x ty u := by
  rintro ⟨full, stable⟩
  rw [stable_iff] at stable
  obtain short | wide := unstable
  · exact short full
  · omega

theorem zeroingWork_stable (window : StableWindow x ty u) :
    zeroingWork x ty u = .zeroed (toRamp (meanRaw ty.w (x.gather ++ [u])) x) (meanRaw ty.w (x.gather ++ [u])) := by
  rw [zeroingWork_eq, if_pos window]

section
variable (unstable : ¬ StableWindow x ty u)
include unstable

theorem zeroingWork_goesOn (short : x.phaseCount + 1 < 600) : zeroingWork x ty u = .goesOn (gathered ty.w u x) := by
  rw [zeroingWork_eq, if_neg unstable, if_neg (Nat.not_le.mpr short)]

theorem zeroingWork_timeout (limit : 600 ≤ x.phaseCount + 1) :
    zeroingWork x ty u = .ends (gathered ty.w u x) (.invalid .zeroTimeout) := by
  rw [zeroingWork_eq, if_neg unstable, if_pos limit]

end
end

/-- Settles O51: the two checks of ZEROING, then its window, at the head with the pair's live readings. -/
theorem zeroingPairs : Obligations.ZeroingPairs := by
  intro s h k c ty ps p j on phase x
  have fly : (s.head h).phase.inFlight = true := by rw [phase]; rfl
  have checked := pairAction_zeroing (x := x) (ty := ty) on.pressures phase
  refine ⟨fun faulty => readingPair_ends on fly ?_, fun v u isValue isJacket => ?_⟩
  · refine (checked p j).trans ?_
    obtain rfl | rfl := faulty
    · rfl
    · cases p <;> rfl
  subst isValue isJacket
  refine ⟨fun above => readingPair_ends on fly ((checked _ _).trans (if_pos above)), fun below => ?_⟩
  have work : pairAction x ty (.value v) (.value u) = zeroingWork x ty (min u 65000) :=
    (checked _ _).trans (if_neg (Nat.not_le.mpr below))
  intro window full n y
  refine ⟨fun isFull narrow => ?_, fun unstable => ⟨fun short => ?_, fun limit => ?_⟩⟩
  · exact readingPair_next on fly (work.trans (zeroingWork_stable ⟨isFull, (stable_iff x window).mpr narrow⟩))
  · exact readingPair_next on fly (work.trans (zeroingWork_goesOn (not_stableWindow unstable) short))
  · have ends := work.trans (zeroingWork_timeout (not_stableWindow unstable) limit)
    exact ⟨readingPair_ends on fly ends, takePairAs_ends on fly ends⟩

/-! #### RAMP and RELEASE (R73, R79) -/

section
variable {x : Head} {ty : TypeFields} {ps : Pressures} {v : Nat}

theorem rampWork_toHold (run : 3 ≤ runAfter (ps.pa ≤ v) x) : rampWork x ty ps v = .goesOn (toHold v x) := by
  rw [rampWork_eq, if_pos run]

theorem releaseWork_toSettle (run : 3 ≤ runAfter (v < ps.pr) x) : releaseWork x ps v = .goesOn (toSettle x) := by
  rw [releaseWork_eq, if_pos run]

theorem rampWork_goesOn (run : runAfter (ps.pa ≤ v) x < 3) (short : x.phaseCount + 1 < ty.rampLimit * 10) :
    rampWork x ty ps v = .goesOn (waited (runAfter (ps.pa ≤ v) x) x) := by
  rw [rampWork_eq, if_neg (Nat.not_le.mpr run), if_neg (Nat.not_le.mpr short)]

theorem releaseWork_goesOn (run : runAfter (v < ps.pr) x < 3) (short : x.phaseCount + 1 < 1200) :
    releaseWork x ps v = .goesOn (waited (runAfter (v < ps.pr) x) x) := by
  rw [releaseWork_eq, if_neg (Nat.not_le.mpr run), if_neg (Nat.not_le.mpr short)]

theorem rampWork_timeout (run : runAfter (ps.pa ≤ v) x < 3) (limit : ty.rampLimit * 10 ≤ x.phaseCount + 1) :
    rampWork x ty ps v = .ends (waited (runAfter (ps.pa ≤ v) x) x) (.invalid .rampTimeout) := by
  rw [rampWork_eq, if_neg (Nat.not_le.mpr run), if_pos limit]

theorem releaseWork_timeout (run : runAfter (v < ps.pr) x < 3) (limit : 1200 ≤ x.phaseCount + 1) :
    releaseWork x ps v = .ends (waited (runAfter (v < ps.pr) x) x) (.invalid .releaseTimeout) := by
  rw [releaseWork_eq, if_neg (Nat.not_le.mpr run), if_pos limit]

end

/-- Settles O52: the run of three, or the pair counted, or the limit reached, in either phase. -/
theorem rampAndReleasePairs : Obligations.RampAndReleasePairs := by
  constructor
  · intro s h k c ty ps v u on phase below x run n y
    have fly : (s.head h).phase.inFlight = true := by rw [phase]; rfl
    have work := pairAction_ramp (x := x) (ty := ty) (u := u) on.pressures below phase
    refine ⟨fun third => ?_, fun broken short => ?_, fun broken limit => ?_⟩
    · exact readingPair_next on fly (work.trans (rampWork_toHold third))
    · exact readingPair_next on fly (work.trans (rampWork_goesOn broken short))
    · have ends := work.trans (rampWork_timeout broken limit)
      exact ⟨readingPair_ends on fly ends, takePairAs_ends on fly ends⟩
  · intro s h k c ty ps v u on phase below x run n y
    have fly : (s.head h).phase.inFlight = true := by rw [phase]; rfl
    have work := pairAction_release (x := x) (ty := ty) (u := u) on.pressures below phase
    refine ⟨fun third => ?_, fun broken short => ?_, fun broken limit => ?_⟩
    · exact readingPair_next on fly (work.trans (releaseWork_toSettle third))
    · exact readingPair_next on fly (work.trans (releaseWork_goesOn broken short))
    · have ends := work.trans (releaseWork_timeout broken limit)
      exact ⟨readingPair_ends on fly ends, takePairAs_ends on fly ends⟩

end Sys2Proof.Heads

namespace Sys2Proof.Heads

open Sys2Proof.Machine Sys2Proof.Safety Sys2Proof.Laws Sys2Proof.Roll Sys2Proof.Settings

/-! #### HOLD and TAIL (R74 to R78) -/

section
variable {x : Head} {ty : TypeFields} {ps : Pressures} {v u : Nat}

/-- The ripple widened and the low run, at a head that has a ripple (R74, R75). -/
theorem watchHold_of_ripple {r : Ripple} (ripple : x.ripple = some r) :
    x.watchHold ps v =
      { x with ripple := some ⟨max r.max v, min r.min v⟩, lowRun := if v < ps.pl then x.lowRun + 1 else 0 } := by
  rw [Head.watchHold, ripple]
  rfl

theorem holdWork_loss (fifth : 5 ≤ (x.watchHold ps v).lowRun) :
    holdWork x ty ps v u = .ends (x.watchHold ps v) (.invalid .pressureLoss) := by
  rw [holdWork_eq, if_pos fifth]

theorem tailWork_loss (fifth : 5 ≤ (x.watchHold ps v).lowRun) :
    tailWork x ty ps v u = .ends (x.watchHold ps v) (.invalid .pressureLoss) := by
  rw [tailWork_eq, if_pos fifth]

section
variable (kept : (x.watchHold ps v).lowRun < 5)
include kept

theorem holdWork_goesOn (short : x.holdCount + 1 < ty.holdSeconds * 10) :
    holdWork x ty ps v u = .goesOn (heldPair ty.w u (x.watchHold ps v)) := by
  rw [holdWork_eq, if_neg (Nat.not_le.mpr kept), if_neg (Nat.not_le.mpr short)]

theorem holdWork_toTail (full : ty.holdSeconds * 10 ≤ x.holdCount + 1) (lag : x.lag ≠ 0) :
    holdWork x ty ps v u = .goesOn (toTail (heldPair ty.w u (x.watchHold ps v))) := by
  rw [holdWork_eq, if_neg (Nat.not_le.mpr kept), if_pos full, if_neg lag]

theorem holdWork_tailEnd (full : ty.holdSeconds * 10 ≤ x.holdCount + 1) (lag : x.lag = 0) :
    holdWork x ty ps v u = tailEndWork (toTail (heldPair ty.w u (x.watchHold ps v))) ty := by
  rw [holdWork_eq, if_neg (Nat.not_le.mpr kept), if_pos full, if_pos lag]

theorem tailWork_goesOn (short : x.tailCount + 1 < x.lag) :
    tailWork x ty ps v u = .goesOn (tailPair ty.w u (x.watchHold ps v)) := by
  rw [tailWork_eq, if_neg (Nat.not_le.mpr kept), if_neg (Nat.not_le.mpr short)]

theorem tailWork_tailEnd (full : x.lag ≤ x.tailCount + 1) :
    tailWork x ty ps v u = tailEndWork (tailPair ty.w u (x.watchHold ps v)) ty := by
  rw [tailWork_eq, if_neg (Nat.not_le.mpr kept), if_pos full]

end
end

/-- Settles O53: the low run, then the count of the phase; the pair that ends TAIL forms T from its window. -/
theorem holdAndTailPairs : Obligations.HoldAndTailPairs := by
  intro s h k c ty ps r z v u on phases ripple hasZ below x low held window total released
  have fly : (s.head h).phase.inFlight = true := by obtain e | e := phases <;> rw [e] <;> rfl
  have watch : x.watchHold ps (min v 65000) = held := watchHold_of_ripple (x := x) ripple
  have lowRun : (x.watchHold ps (min v 65000)).lowRun = low := by rw [watch]
  have hold (phase : x.phase = .hold) := pairAction_hold (x := x) (ty := ty) (u := u) on.pressures below phase
  have tail (phase : x.phase = .tail) := pairAction_tail (x := x) (ty := ty) (u := u) on.pressures below phase
  have formsT (y : Head) (same : y.z = x.z) : meanAligned ty.w (y.z.getD 0) window = total := by
    rw [same]
    exact congrArg (fun z : Option Nat => meanAligned ty.w (z.getD 0) window) hasZ
  have tailEnds {y : Head} (isZ : y.z = x.z) (isWindow : y.tWindow = window) :
      carryOut h k ty (tailEndWork y ty) s = released y := by
    rw [tailEndWork_eq, isWindow, formsT y isZ]
    rfl
  refine ⟨fun fifth => ?_, fun kept phase => ?_, fun kept phase => ?_⟩
  · rw [← watch]
    rw [← lowRun] at fifth
    obtain phase | phase := phases
    · exact readingPair_ends on fly ((hold phase).trans (holdWork_loss fifth))
    · exact readingPair_ends on fly ((tail phase).trans (tailWork_loss fifth))
  · intro y
    rw [← lowRun] at kept
    have atPair : heldPair ty.w (min u 65000) (x.watchHold ps (min v 65000)) = y := by rw [watch]; rfl
    have fromHold : (s.head h).phase = .hold := phase
    refine ⟨fun short => ?_, fun full => ⟨fun lag => ?_, fun lag => ?_⟩⟩
    · rw [← atPair]
      exact readingPair_next on fly ((hold phase).trans (holdWork_goesOn kept short))
    · have act := (hold phase).trans (holdWork_toTail (u := min u 65000) kept full lag)
      rw [atPair] at act
      exact ⟨readingPair_next on fly act, takePairAs_next on fly act (by simp [PairAction.completesHold, fromHold, toTail])⟩
    · have act := (hold phase).trans (holdWork_tailEnd (u := min u 65000) kept full lag)
      rw [atPair] at act
      have ends : carryOut h k ty (tailEndWork (toTail y) ty) s = released { y with tailCount := 0 } := tailEnds rfl rfl
      rw [← ends]
      exact ⟨readingPair_next on fly act, takePairAs_next on fly act (by simp [tailEndWork_eq, PairAction.completesHold, fromHold]),
        takePairAs_next on fly act rfl⟩
  · intro y
    rw [← lowRun] at kept
    have atPair : tailPair ty.w (min u 65000) (x.watchHold ps (min v 65000)) = y := by rw [watch]; rfl
    refine ⟨fun short => ?_, fun full => ?_⟩
    · rw [← atPair]
      exact readingPair_next on fly ((tail phase).trans (tailWork_goesOn kept short))
    · have act := (tail phase).trans (tailWork_tailEnd (u := min u 65000) kept full)
      rw [atPair] at act
      have ends : carryOut h k ty (tailEndWork y ty) s = released y := tailEnds rfl rfl
      rw [← ends]
      exact ⟨readingPair_next on fly act, takePairAs_next on fly act rfl⟩

/-! #### SETTLE (R80, R81) -/

section
variable {x : Head} {ty : TypeFields} {ps : Pressures} {v u : Nat}

theorem settleWork_repressurised (above : ps.pr ≤ v) : settleWork x ty ps v u = .ends x (.invalid .repressurised) := by
  rw [settleWork_eq, if_pos above]

section
variable (below : v < ps.pr)
include below

theorem settleWork_stable (window : StableWindow x ty u) :
    settleWork x ty ps v u =
      .settles { x with phaseCount := x.phaseCount + 1, gather := x.gather ++ [u] }
        (meanAligned ty.w (x.z.getD 0) (x.gather ++ [u])) := by
  rw [settleWork_eq, if_neg (Nat.not_le.mpr below), if_pos window]

theorem settleWork_goesOn (unstable : ¬ StableWindow x ty u) (short : x.phaseCount + 1 < ty.settleLimit * 10) :
    settleWork x ty ps v u = .goesOn (gathered ty.w u x) := by
  rw [settleWork_eq, if_neg (Nat.not_le.mpr below), if_neg unstable, if_neg (Nat.not_le.mpr short)]

theorem settleWork_timeout (unstable : ¬ StableWindow x ty u) (limit : ty.settleLimit * 10 ≤ x.phaseCount + 1) :
    settleWork x ty ps v u = .ends (gathered ty.w u x) (.invalid .settleTimeout) := by
  rw [settleWork_eq, if_neg (Nat.not_le.mpr below), if_neg unstable, if_pos limit]

end
end

/-- Settles O54: the pressure, then the window, whose mean over the jacket zero is P. -/
theorem settlePairs : Obligations.SettlePairs := by
  intro s h k c ty ps z v u on phase hasZ below x window full n y
  have fly : (s.head h).phase.inFlight = true := by rw [phase]; rfl
  have work := pairAction_settle (x := x) (ty := ty) (u := u) on.pressures below phase
  refine ⟨fun above => ?_, fun low => ⟨fun isFull narrow => ?_, fun unstable => ⟨fun short => ?_, fun limit => ?_⟩⟩⟩
  · exact readingPair_ends on fly (work.trans (settleWork_repressurised above))
  · have atZ : meanAligned ty.w (x.z.getD 0) window = meanAligned ty.w z window :=
      congrArg (fun z : Option Nat => meanAligned ty.w (z.getD 0) window) hasZ
    rw [← atZ]
    exact readingPair_next on fly (work.trans (settleWork_stable low ⟨isFull, (stable_iff x window).mpr narrow⟩))
  · exact readingPair_next on fly (work.trans (settleWork_goesOn low (not_stableWindow unstable) short))
  · have ends := work.trans (settleWork_timeout low (not_stableWindow unstable) limit)
    exact ⟨readingPair_ends on fly ends, takePairAs_ends on fly ends⟩

/-! ### Live readings and watches (R63, R82, R83) -/

theorem inFlight_iff (p : Phase) : p.inFlight = true ↔ p ∈ [.zeroing, .ramp, .hold, .tail, .release, .settle] := by
  cases p <;> simp [Phase.inFlight]

theorem min_eq_saturated (n : Nat) : min n 65000 = if 65000 < n then 65000 else n := by split_ifs <;> omega

/-- Settles O55: what a pair writes at any head, then the two watches in their order. -/
theorem liveReadingsAndWatches : Obligations.LiveReadingsAndWatches := by
  unfold Obligations.LiveReadingsAndWatches
  intro live
  have isLive (x : Live) (r : Reading) : x.update r = live x r := by
    cases r with
    | fault => rfl
    | value n => exact congrArg (Live.mk · .good) (min_eq_saturated n)
  have see (x : Head) (p j : Reading) :
      x.see p j = { x with livePressure := live x.livePressure p, liveJacket := live x.liveJacket j } := by
    rw [Head.see, isLive, isLive]
  refine ⟨inFlight_iff, see, fun s h p j powered rest => ?_, fun s h k c ty ps p j on phase => ?_⟩
  · have read : exec (.readingPair h p j) s = .next (takePair h p j s) := event_powered _ powered
    rw [read, takePair_idle rest, see]
  have fly : (s.head h).phase.inFlight = true := (inFlight_iff _).mpr (List.mem_cons_of_mem _ phase)
  refine ⟨fun v isValue above => ?_, fun faulty => ?_, fun v isValue below faulty => ?_⟩
  · subst isValue
    exact readingPair_ends on fly (pairAction_overpressure (x := (s.head h).see _ j) on.pressures phase above j)
  · subst faulty
    exact readingPair_ends on fly (pairAction_pressureFault (x := (s.head h).see _ j) on.pressures phase j)
  · subst isValue faulty
    exact readingPair_ends on fly (pairAction_jacketFault (x := (s.head h).see _ _) on.pressures phase below)

end Sys2Proof.Heads

namespace Sys2Proof.Heads

open Sys2Proof.Machine Sys2Proof.Safety Sys2Proof.Laws Sys2Proof.Roll Sys2Proof.Settings

/-! ### Entry into DONE (R84, R85, R112, R118, R119, R126) -/

/-- Statistics after an outcome, and after a loss of pressure (R126). -/
def countedAs (o : TestOutcome) (lost : Bool) (l : Stats) : Stats :=
  { begun := l.begun
    passed := if o = .pass then l.passed.raise else l.passed
    condemned := if o = .condemn then l.condemned.raise else l.condemned
    invalid := if o = .invalid then l.invalid.raise else l.invalid
    losses := if lost then l.losses.raise else l.losses }

/-- A head in DONE with its statistics (R84). -/
def doneWith (l : Stats) (y : Head) : Head := { y with phase := .done, permit := false, live := l }

/-- A test record with its end written (R84). -/
def endedRecord (o : TestOutcome) (rs : List Reason) (r : Option Ripple) (t : TestRecord) : TestRecord :=
  { t with outcome := some o, reasons := rs, ripple := r }

theorem toDone_eq (o : TestOutcome) (y : Head) : y.toDone o = doneWith (countedAs o false y.live) y := by
  cases o <;> rfl

theorem toDone_countLoss (o : TestOutcome) (r : Reason) (y : Head) :
    (y.countLoss r).toDone o = doneWith (countedAs o (decide (r = .pressureLoss)) y.live) y := by
  by_cases loss : r = .pressureLoss
  · rw [Head.countLoss, if_pos loss, decide_eq_true loss]
    cases o <;> rfl
  · rw [Head.countLoss, if_neg loss, decide_eq_false loss]
    exact toDone_eq o y

theorem ripple_countLoss (r : Reason) (y : Head) : (y.countLoss r).ripple = y.ripple := by
  unfold Head.countLoss
  split_ifs <;> rfl

theorem raise_eq (c : Counter) : c.raise = if c.n = 65535 then ⟨65535, true⟩ else ⟨c.n + 1, c.saturated⟩ := by
  unfold Counter.raise Config.counterMax
  split_ifs with full
  · rw [full]
  · rfl

/-! #### The proving record that an outcome leaves -/

section
variable (h : HeadId) (s : State) (y : Head)

/-- An ordinary outcome leaves the proving record (R118, R119). -/
theorem setProving_ordinary {o : TestOutcome} (ordinary : o = .pass ∨ o = .condemn ∨ o = .invalid) : setProving h o s = s := by
  obtain rfl | rfl | rfl := ordinary <;> rfl

theorem setProving_proved {ps : Pressures} (pressures : y.pressures = some ps) :
    setProving h .proved (s.setHead h y) = s.setHead h { y with proving := some ⟨ps.pa, s.clock, 0⟩ } := by
  simp only [setProving, State.updHead_eq, State.head_setHead_self, State.setHead_setHead, pressures]
  rfl

theorem setProving_notProved :
    setProving h .notProved (s.setHead h y) =
      if y.proving = none then s.setHead h { y with proving := none }
      else raise (.headUnproved h) (s.setHead h { y with proving := none }) := by
  rw [setProving, lapse_cases, State.head_setHead_self, State.setHead_setHead]
  split_ifs with unproved
  · rw [← unproved]
  · rfl

end

/-! #### The whole next state -/

section
variable (h : HeadId) (k : SlotId) (s : State)

theorem foldl_post (fs : List Finding) :
    fs.foldl (fun s f => post k f s) s = s.setSlot k (posts fs (s.slot k)) := by
  induction fs generalizing s with
  | nil => exact (State.setSlot_slot s k).symm
  | cons f fs ih => rw [List.foldl_cons, ih, post_eq, State.slot_setSlot_self, State.setSlot_setSlot, posts_cons]

/-- A test that ends at a slot and a head that have been written. -/
theorem enterDone_written (o : TestOutcome) (rs : List Reason) (x : Slot) (y : Head) :
    enterDone h k o rs ((s.setSlot k x).setHead h y) =
      raise (.testDone h) (setProving h o
        ((s.setSlot k { x with test := x.test.map (endedRecord o rs y.ripple) }).setHead h (y.toDone o))) := by
  simp only [enterDone, writeOutcome, updTest_eq, State.updHead_eq, State.slot_setHead, State.slot_setSlot_self,
    State.head_setHead_self, State.setHead_setSlot, State.setHead_setHead, State.setSlot_setSlot]
  rfl

/-- A test that ends at a slot that has been written. -/
theorem enterDone_slot (o : TestOutcome) (rs : List Reason) (x : Slot) :
    enterDone h k o rs (s.setSlot k x) =
      raise (.testDone h) (setProving h o
        ((s.setSlot k { x with test := x.test.map (endedRecord o rs (s.head h).ripple) }).setHead h ((s.head h).toDone o))) := by
  rw [← enterDone_written]
  exact congrArg (enterDone h k o rs) (State.setHead_head (s.setSlot k x) h).symm

theorem endByCause_eq (c : EndCause) :
    endByCause h k c s =
      raise (.testDone h) (setProving h (c.outcome (s.slot k).isProving)
        ((s.setSlot k
          { posts (causeFindings (s.slot k) c) (s.slot k) with
            test := (s.slot k).test.map (endedRecord (c.outcome (s.slot k).isProving) [c.reason] (s.head h).ripple) }).setHead h
          (doneWith (countedAs (c.outcome (s.slot k).isProving) (decide (c.reason = .pressureLoss)) (s.head h).live)
            (s.head h)))) := by
  rw [endByCause, postOrdinary_eq, State.updHead_eq, State.slot_setHead, State.setHead_setSlot, enterDone_written,
    ripple_countLoss, toDone_countLoss, posts_test]

theorem evaluate_eq (ty : TypeFields) {t : Int} (hasT : (s.head h).t = some t) (p : Int) :
    let v := verdictOn (s.slot k) ty t p
    evaluate h k ty p s =
      raise (.testDone h) (setProving h v.outcome
        ((s.setSlot k
          { posts v.findings (s.slot k) with
            test := (s.slot k).test.map fun r =>
              { endedRecord v.outcome v.reasons (s.head h).ripple r with p := some p, q := v.q, e := v.e, star := v.star } }).setHead
          h (doneWith (countedAs v.outcome false (s.head h).live) (s.head h)))) := by
  intro v
  have result : verdictOn (s.slot k) ty ((s.head h).t.getD 0) p = v := by rw [hasT]; rfl
  simp only [evaluate, result, updTest_eq, foldl_post, State.slot_setSlot_self, State.setSlot_setSlot, posts_withTest,
    enterDone_slot, toDone_eq, Option.map_map]
  rfl

end

/-! #### The outcomes of an ordinary test -/

theorem ordinaryVerdict_outcome (ty : TypeFields) (ree : Option Nat) (t p : Int) :
    (ordinaryVerdict ty ree t p).outcome = .pass ∨ (ordinaryVerdict ty ree t p).outcome = .condemn ∨
      (ordinaryVerdict ty ree t p).outcome = .invalid := by
  unfold ordinaryVerdict
  dsimp only
  split_ifs <;> simp

theorem endByCause_ordinary (h : HeadId) (k : SlotId) (s : State) (c : EndCause) (ordinary : (s.slot k).isProving = false) :
    endByCause h k c s =
      raise (.testDone h)
        ((s.setSlot k
          { posts c.finding.toList (s.slot k) with
            test := (s.slot k).test.map (endedRecord (c.outcome false) [c.reason] (s.head h).ripple) }).setHead h
          (doneWith (countedAs (c.outcome false) (decide (c.reason = .pressureLoss)) (s.head h).live) (s.head h))) := by
  have findings : causeFindings (s.slot k) c = c.finding.toList := by simp [causeFindings, ordinary]
  have outcome : c.outcome false = .pass ∨ c.outcome false = .condemn ∨ c.outcome false = .invalid := by
    cases c <;> simp [EndCause.outcome]
  rw [endByCause_eq, ordinary, findings, setProving_ordinary _ _ outcome]

/-- Settles O56: the end of a test as one write of the slot and one of the head, then the proving record and the notice. -/
theorem testsEndInDone : Obligations.TestsEndInDone := by
  intro s h k x y unproved counted written
  refine ⟨fun r ordinary => ?invalid, fun v ordinary => ?overpressure, fun cause proves => ?proving, raise_eq,
    fun ty t p hasT => ⟨fun ordinary => ?verdict, fun tn lt ps proves isTn isLt pressures => ?trial⟩⟩
  case invalid => exact endByCause_ordinary h k s (.invalid r) ordinary
  case overpressure => exact endByCause_ordinary h k s (.overpressure v) ordinary
  case proving =>
    have findings : causeFindings x cause = [] := if_pos proves
    have outcome : cause.outcome x.isProving = .notProved := by rw [proves]; cases cause <;> rfl
    rw [endByCause_eq, findings, outcome, setProving_notProved]
    rfl
  case verdict =>
    have isVerdict : verdictOn x ty t p = ordinaryVerdict ty x.ree t p := by simp [verdictOn, ordinary]
    rw [evaluate_eq _ _ _ _ hasT, isVerdict, setProving_ordinary _ _ (ordinaryVerdict_outcome ty x.ree t p)]
    rfl
  case trial =>
    intro good o u
    have isVerdict : verdictOn x ty t p = ⟨o, if t ≤ 0 then [.noExpansion] else [], none, none, false, []⟩ := by
      simp only [verdictOn, if_pos proves, provingVerdict, isTn, isLt]
      rfl
    rw [evaluate_eq _ _ _ _ hasT, isVerdict]
    dsimp only
    by_cases isGood : good
    · have isProved : o = .proved := if_pos isGood
      rw [isProved, setProving_proved _ _ (doneWith _ y) pressures, if_pos isGood]
      simp only [u, isProved, if_pos isGood]
      rfl
    · have notProved : o = .notProved := if_neg isGood
      rw [notProved, setProving_notProved, if_neg isGood]
      simp only [u, notProved, if_neg isGood]
      rfl

end Sys2Proof.Heads

/-! ## Expansion arithmetic and the verdict (chapter 5) -/

namespace Sys2Proof.Arithmetic

open Sys2Proof.Machine Sys2Proof.Safety Sys2Proof.Heads

/-! ### Attempt pressures (R97, R98) -/

section
variable {ty : TypeFields} {pa : Nat}

/-- A share in per mille grows with the pressure and with the rate. -/
theorem permille_le_permille {a b m n : Nat} (base : a ≤ b) (rate : m ≤ n) : a * m / 1000 ≤ b * n / 1000 :=
  Nat.div_le_div_right (Nat.mul_le_mul base rate)

/-- Every attempt runs between the test pressure and the raised pressure (R97). -/
theorem attemptPa_between (ty : TypeFields) (proving : Bool) (n : Nat) :
    ty.pt ≤ attemptPa ty proving n ∧ attemptPa ty proving n ≤ ty.pt + ty.pt * ty.lr / 1000 := by
  unfold attemptPa
  split
  · exact ⟨le_rfl, Nat.le_add_right _ _⟩
  · exact ⟨Nat.le_add_right _ _, le_rfl⟩

/-- The headroom that a load checks at the raised pressure covers every lower pressure (R27). -/
theorem pressuresAt_po_le (T : TypeSound ty) (below : pa ≤ ty.pt + ty.pt * ty.lr / 1000) : (pressuresAt ty pa).po ≤ 64999 :=
  calc pa + pa * ty.lo / 1000
      ≤ _ := Nat.add_le_add below (permille_le_permille below le_rfl)
    _ ≤ 64999 := Nat.le_of_lt_succ T.headroom

/-- The low bound lies at least 5 kPa below a pressure of 1,000 or more, since Ld is at least 5 (R98). -/
theorem pressuresAt_pl_le (T : TypeSound ty) (least : 1000 ≤ pa) : (pressuresAt ty pa).pl + 5 ≤ (pressuresAt ty pa).pa := by
  have drop : 1000 * 5 / 1000 ≤ pa * ty.ld / 1000 := permille_le_permille least T.ld.1
  change pa - pa * ty.ld / 1000 + 5 ≤ pa
  omega

/-- The drop to Pl is at most the release threshold, since Ld is at most 50, and so twice that threshold is below Pa (R98). -/
theorem pressuresAt_pr_lt_pl (T : TypeSound ty) (least : 1000 ≤ pa) : (pressuresAt ty pa).pr < (pressuresAt ty pa).pl := by
  have drop : pa * ty.ld / 1000 ≤ pa * 50 / 1000 := permille_le_permille le_rfl T.ld.2
  change pa * 50 / 1000 < pa - pa * ty.ld / 1000
  omega

theorem le_pressuresAt_pr (least : 1000 ≤ pa) : 50 ≤ (pressuresAt ty pa).pr := permille_le_permille (m := 50) least le_rfl

end

/-- Settles O58: every attempt runs between Pt and the raised pressure, and each bound follows there from one range of the
type. -/
theorem attemptPressuresAreOrdered : Obligations.AttemptPressuresAreOrdered := by
  intro ty proving n T first pa ps
  have formula : pa = if proving = true ∨ n = 1 then ty.pt else ty.pt + ty.pt * ty.lr / 1000 := by
    obtain ⟨m, rfl⟩ := Nat.exists_eq_add_of_le' first
    exact attemptPa_eq ty proving m
  obtain ⟨above, below⟩ := attemptPa_between ty proving n
  have least : 1000 ≤ pa := T.pt.1.trans above
  exact ⟨formula, rfl, pressuresAt_pr_lt_pl T least, pressuresAt_pl_le T least, Nat.le_add_right _ _,
    pressuresAt_po_le T below, le_pressuresAt_pr least, above, least⟩

/-! ### The spread of a window (R71) -/

theorem spread_eq {window : List Nat} {greatest least : Nat} (hasGreatest : greatest ∈ window) (hasLeast : least ∈ window)
    (between : ∀ r ∈ window, least ≤ r ∧ r ≤ greatest) : spread window = greatest - least := by
  cases window with
  | nil => cases hasGreatest
  | cons x xs =>
    have most : xs.foldl max x = greatest := Option.some.inj <|
      List.max?_cons'.symm.trans (List.max?_eq_some_iff.mpr ⟨hasGreatest, fun r mem => (between r mem).2⟩)
    have fewest : xs.foldl min x = least := Option.some.inj <|
      List.min?_cons'.symm.trans (List.min?_eq_some_iff.mpr ⟨hasLeast, fun r mem => (between r mem).1⟩)
    rw [spread, most, fewest]

/-! ### Rounded means (R100 to R104) -/

section
variable {w : Nat} {sum : Int}

/-- Everything about the rounded mean follows from this: it reaches m exactly when S / W reaches m − 1/2 (R100). -/
theorem le_roundedMean_iff (even : 2 ∣ w) (pos : 0 < w) (m : Int) : m ≤ roundedMean w sum ↔ 2 * w * m - w ≤ 2 * sum := by
  obtain ⟨half, rfl⟩ := even
  have double : 2 * ((2 * half : Nat) : Int) * m = 2 * (m * (2 * half : Nat)) := by ring
  rw [roundedMean, Int.le_ediv_iff_mul_le (by omega), double]
  omega

theorem roundedMean_eq_iff (even : 2 ∣ w) (pos : 0 < w) (m : Int) :
    roundedMean w sum = m ↔ 2 * w * m - w ≤ 2 * sum ∧ 2 * sum < 2 * w * m + w := by
  have shifted : 2 * w * (m + 1) - w = 2 * w * m + (w : Int) := by ring
  calc roundedMean w sum = m
      ↔ m ≤ roundedMean w sum ∧ ¬ m + 1 ≤ roundedMean w sum := by omega
    _ ↔ _ := by rw [le_roundedMean_iff even pos, le_roundedMean_iff even pos, shifted, not_le]

/-- The mean lies in the range of its values. -/
theorem roundedMean_between (even : 2 ∣ w) (pos : 0 < w) {least greatest : Int} (above : w * least ≤ sum)
    (below : sum ≤ w * greatest) : least ≤ roundedMean w sum ∧ roundedMean w sum ≤ greatest := by
  refine ⟨(le_roundedMean_iff even pos least).mpr (by linarith), Int.lt_add_one_iff.mp (not_le.mp fun reaches => ?_)⟩
  have exceeds := (le_roundedMean_iff even pos (greatest + 1)).mp reaches
  have wide : (0 : Int) < w := by exact_mod_cast pos
  linarith

end

section
variable {window : List Nat}

/-- A window of readings taken as a list of integers is its readings taken so one by one. -/
theorem coe_window (window : List Nat) : (window : List Int) = window.map Nat.cast := List.map_eq_flatMap.symm

/-- The aligned sum of a window is its raw sum less W × z (R102). -/
theorem sum_aligned (z : Nat) (window : List Nat) :
    ((window.map Nat.cast).map fun r : Int => r - z).sum = (window.sum : Nat) - (window.length * z : Nat) := by
  induction window with
  | nil => simp
  | cons r rs ih =>
    rw [List.map_cons, List.map_cons, List.sum_cons, ih, List.sum_cons, List.length_cons]
    push_cast
    ring

theorem meanRaw_eq (even : 2 ∣ window.length) (pos : 0 < window.length) (bounded : ∀ r ∈ window, r ≤ 65000) :
    (meanRaw window.length window : Int) = roundedMean window.length (window.map Nat.cast).sum ∧
      meanRaw window.length window ≤ 65000 := by
  have below : window.sum ≤ window.length * 65000 := List.sum_le_card_nsmul window 65000 bounded
  obtain ⟨nonneg, inRange⟩ := roundedMean_between (sum := (window.sum : Nat)) even pos (least := 0) (greatest := 65000)
    (by omega) (by omega)
  exact ⟨(Int.toNat_of_nonneg nonneg).trans (congrArg _ (Nat.cast_list_sum window)), Int.toNat_le.mpr inRange⟩

theorem meanAligned_eq (z : Nat) (window : List Nat) :
    meanAligned window.length z window = roundedMean window.length ((window.map Nat.cast).map fun r : Int => r - z).sum := by
  rw [sum_aligned, meanAligned]

theorem meanAligned_between (even : 2 ∣ window.length) (pos : 0 < window.length) (bounded : ∀ r ∈ window, r ≤ 65000)
    {z : Nat} (zero : z ≤ 65000) :
    -65000 ≤ meanAligned window.length z window ∧ meanAligned window.length z window ≤ 65000 := by
  have below : window.sum ≤ window.length * 65000 := List.sum_le_card_nsmul window 65000 bounded
  have taken : window.length * z ≤ window.length * 65000 := Nat.mul_le_mul_left _ zero
  exact roundedMean_between even pos (by omega) (by omega)

end

/-- Settles O59: a window size is even and positive, which is all that the mean needs. -/
theorem meansRoundHalfUp : Obligations.MeansRoundHalfUp := by
  refine ⟨fun window greatest least => spread_eq, fun w size => ?_⟩
  have even : 2 ∣ w := by omega
  have pos : 0 < w := by omega
  refine ⟨fun sum => roundedMean_eq_iff even pos, ?_⟩
  rintro window rfl bounded
  obtain ⟨isMean, inRange⟩ := meanRaw_eq even pos bounded
  rw [coe_window, List.map_id']
  exact ⟨isMean, inRange, fun z zero => ⟨meanAligned_eq z window, meanAligned_between even pos bounded zero⟩⟩

/-! ### P clamped into 0 to T (R105) -/

section
variable {t p : Int}

theorem clampP_le (t p : Int) : clampP t p ≤ t.toNat := by unfold clampP; omega

theorem clampP_of_neg (negative : p < 0) : clampP t p = 0 := by unfold clampP; omega

theorem clampP_of_between (nonneg : 0 ≤ p) (below : p ≤ t) : (clampP t p : Int) = p := by unfold clampP; omega

theorem clampP_of_lt (above : t < p) : clampP t p = t.toNat := by unfold clampP; omega

end

/-! ### The share of T in hundredths of a percent (R108) -/

section
variable {t pc : Nat}

theorem shareOf_eq_iff (pos : 0 < t) (q : Nat) :
    shareOf t pc = q ↔ q * t ≤ pc * 10000 + t / 2 ∧ pc * 10000 + t / 2 < (q + 1) * t := by
  rw [shareOf, Nat.div_eq_iff pos, Nat.succ_mul]
  omega

theorem shareOf_zero (pos : 0 < t) : shareOf t 0 = 0 := (shareOf_eq_iff pos 0).mpr (by omega)

theorem shareOf_self (pos : 0 < t) : shareOf t t = 10000 := (shareOf_eq_iff pos 10000).mpr (by omega)

theorem shareOf_le (pos : 0 < t) (part : pc ≤ t) : shareOf t pc ≤ 10000 :=
  calc shareOf t pc
      ≤ shareOf t t := Nat.div_le_div_right (by omega)
    _ = 10000 := shareOf_self pos

end

/-! ### The verdict of an ordinary slot (R106, R107, R109 to R112) -/

theorem ordinaryVerdict_noExpansion (ty : TypeFields) (ree : Option Nat) {t : Int} (p : Int) (notAbove : t ≤ 0) :
    ordinaryVerdict ty ree t p = ⟨.invalid, [.noExpansion], none, none, false, []⟩ := if_pos notAbove

/-- What an evaluation writes and posts once both criteria are decided: `perm` and `elas` say which fail (R110 to R112). -/
def judge (perm elas : Bool) (ls total pc q e : Nat) : Verdict where
  outcome := if perm || elas then .condemn else .pass
  reasons := (if perm then [.permanent] else []) ++ (if elas then [.elastic] else [])
  q := some q
  e := some e
  star := !(perm || elas) && decide (0 < ls ∧ pc * 1000 ≤ ls * total)
  findings := (if perm then [⟨203, .condemn, .unit, some q⟩] else []) ++ (if elas then [⟨204, .condemn, .unit, some e⟩] else [])

section
variable {perm elas : Bool} {ls total pc q e : Nat}

theorem judge_outcome_pass_iff : (judge perm elas ls total pc q e).outcome = .pass ↔ ¬ perm = true ∧ ¬ elas = true := by
  simp [judge]

theorem judge_outcome_condemn_iff : (judge perm elas ls total pc q e).outcome = .condemn ↔ perm = true ∨ elas = true := by
  cases perm <;> simp [judge]

theorem judge_star_iff :
    (judge perm elas ls total pc q e).star = true ↔
      (judge perm elas ls total pc q e).outcome = .pass ∧ 0 < ls ∧ pc * 1000 ≤ ls * total := by
  rw [judge_outcome_pass_iff]
  simp [judge, and_assoc]

end

theorem ordinaryVerdict_of_pos (ty : TypeFields) (ree : Option Nat) {t : Int} (p : Int) (pos : 0 < t) :
    ordinaryVerdict ty ree t p =
      judge (permanentFails ty.lp t.toNat (clampP t p)) (elasticFails ree ty.ree (t.toNat - clampP t p)) ty.ls t.toNat
        (clampP t p) (shareOf t.toNat (clampP t p)) (t.toNat - clampP t p) := if_neg (not_le.mpr pos)

theorem permanentFails_iff (lp t pc : Nat) : permanentFails lp t pc = true ↔ lp * t < pc * 1000 := decide_eq_true_iff

theorem elasticFails_iff (ree : Option Nat) (typeRee e : Nat) :
    elasticFails ree typeRee e = true ↔ 0 < ree.getD typeRee ∧ ree.getD typeRee < e := decide_eq_true_iff

/-- Settles O60: the verdict over T above 0 is the judgement of the two exact comparisons on the clamped P. -/
theorem ordinaryVerdictByExactProducts : Obligations.OrdinaryVerdictByExactProducts := by
  intro ty ree t p v
  refine ⟨ordinaryVerdict_noExpansion ty ree p, fun pos => ⟨t.toNat, clampP t p, Int.toNat_of_nonneg pos.le, clampP_le t p,
    clampP_of_neg, clampP_of_between, clampP_of_lt, ?_⟩⟩
  intro perm limit elas
  have total : 0 < t.toNat := Int.lt_toNat.mpr pos
  obtain ⟨reached, belowNext⟩ := (shareOf_eq_iff (pc := clampP t p) total _).mp rfl
  have isPerm : perm ↔ _ := (permanentFails_iff ty.lp t.toNat (clampP t p)).symm
  have isElas : elas ↔ _ := (elasticFails_iff ree ty.ree (t.toNat - clampP t p)).symm
  rw [show v = _ from ordinaryVerdict_of_pos ty ree p pos, isPerm, isElas]
  refine ⟨_, rfl, rfl, reached, belowNext, shareOf_le total (clampP_le t p),
    fun zero => (congrArg _ zero).trans (shareOf_zero total), fun whole => (congrArg _ whole).trans (shareOf_self total),
    judge_outcome_pass_iff, judge_outcome_condemn_iff, ?_, ?_, ?_, ?_, judge_star_iff⟩
  all_goals
    intro permanent elastic
    simp [judge, permanent, elastic]

end Sys2Proof.Arithmetic

/-! ## The statistics of a head (chapter 6) -/

namespace Sys2Proof.Statistics

open Sys2Proof.Machine Sys2Proof.Safety Sys2Proof.Laws Sys2Proof.Roll Sys2Proof.Settings Sys2Proof.Heads

/-! ### What one command does to the counters of a head (R126)

A command rests at a head, begins its test, ends it in DONE, or cuts it short at a line reset; a snapshot stands apart. Which
of these it is, and the outcome, are read from the head before and after and from the slots, as R126 tells its events. -/

/-- The mounted slot is an ordinary one (R2). -/
def Ordinary (x : Head) (slots : SlotId → Slot) : Prop := (x.mount.map fun m => (slots m.slot).isProving) = some false

/-- The test record of the mounted slot (R85). -/
def recordOf (x : Head) (slots : SlotId → Slot) : Option TestRecord := x.mount.bind fun m => (slots m.slot).test

/-- The counters and the snapshot stand, and no test begins or ends. -/
structure Quiet (x y : Head) : Prop where
  live : y.live = x.live
  snap : y.snap = x.snap
  waits : x.phase = .mounted → y.phase ≠ .zeroing
  flies : x.phase.inFlight = true → y.phase.inFlight = true

/-- What a command does to the counters of a head `x` that it leaves as `y`, the slots of the roll being `old` before and `new`
after it. -/
inductive Tallies (x y : Head) (old new : SlotId → Slot) : Prop
  | rests (quiet : Quiet x y)
  /-- A BEGIN that starts a test. -/
  | begins (mounted : x.phase = .mounted) (zeroing : y.phase = .zeroing)
      (live : y.live = { x.live with begun := x.live.begun.raise }) (snap : y.snap = x.snap)
  /-- The entry into DONE, its outcome in the test record. -/
  | ends (o : TestOutcome) (r : TestRecord) (fly : x.phase.inFlight = true) (done : y.phase = .done)
      (record : recordOf x new = some r) (outcome : r.outcome = some o)
      (ordinary : o = .pass ∨ o = .condemn ∨ o = .invalid → Ordinary x old)
      (live : y.live = countedAs o (decide (r.reasons = [.pressureLoss])) x.live) (snap : y.snap = x.snap)
  /-- A line reset of a test in flight. -/
  | resets (fly : x.phase.inFlight = true) (idle : y.phase = .idle) (proving : ¬ Ordinary x old → y.live = x.live)
      (ordinary : Ordinary x old → y.live = countedAs .invalid false x.live) (snap : y.snap = x.snap)

/-- What leads from the one state to the other does to the counters of a head. -/
abbrev Tallied (h : HeadId) (s t : State) : Prop := Tallies (s.head h) (t.head h) s.slot t.slot

/-! #### The counters, one by one (R127) -/

/-- A counter raised at an event and at nothing else. -/
def RaisedAt (event : Prop) (c d : Counter) : Prop := (event → d = c.raise) ∧ (¬ event → d = c)

namespace RaisedAt
variable {event : Prop} {c d : Counter}

theorem never (no : ¬ event) (same : d = c) : RaisedAt event c d := ⟨fun yes => absurd yes no, fun _ => same⟩

theorem now (yes : event) (raised : d = c.raise) : RaisedAt event c d := ⟨fun _ => raised, fun no => absurd yes no⟩

theorem of_iff {counted : Prop} [Decidable counted] (same : event ↔ counted) :
    RaisedAt event c (if counted then c.raise else c) :=
  ⟨fun yes => if_pos (same.mp yes), fun no => if_neg (mt same.mpr no)⟩

end RaisedAt

/-- Each counter of a head is raised at its own event, and the snapshot stands (R126, R127). -/
structure Counts (x y : Head) (old new : SlotId → Slot) : Prop where
  snap : y.snap = x.snap
  begun : RaisedAt (x.phase = .mounted ∧ y.phase = .zeroing) x.live.begun y.live.begun
  passed : RaisedAt
    ((x.phase.inFlight = true ∧ y.phase = .done) ∧ Ordinary x old ∧ (recordOf x new).bind TestRecord.outcome = some .pass)
    x.live.passed y.live.passed
  condemned : RaisedAt
    ((x.phase.inFlight = true ∧ y.phase = .done) ∧ Ordinary x old ∧ (recordOf x new).bind TestRecord.outcome = some .condemn)
    x.live.condemned y.live.condemned
  invalid : RaisedAt
    (Ordinary x old ∧
      ((x.phase.inFlight = true ∧ y.phase = .done) ∧ (recordOf x new).bind TestRecord.outcome = some .invalid ∨
        x.phase.inFlight = true ∧ y.phase = .idle))
    x.live.invalid y.live.invalid
  losses : RaisedAt
    ((x.phase.inFlight = true ∧ y.phase = .done) ∧ (recordOf x new).map TestRecord.reasons = some [.pressureLoss])
    x.live.losses y.live.losses

section
variable {x y : Head} {old new : SlotId → Slot}

theorem Quiet.counts (quiet : Quiet x y) : Counts x y old new := by
  obtain ⟨live, snap, waits, flies⟩ := quiet
  have noDone : ¬ (x.phase.inFlight = true ∧ y.phase = .done) := fun ⟨fly, done⟩ => by
    have still := flies fly
    rw [done] at still
    cases still
  have noIdle : ¬ (x.phase.inFlight = true ∧ y.phase = .idle) := fun ⟨fly, idle⟩ => by
    have still := flies fly
    rw [idle] at still
    cases still
  exact
    { snap := snap
      begun := .never (fun ⟨mounted, zeroing⟩ => waits mounted zeroing) (by rw [live])
      passed := .never (fun event => noDone event.1) (by rw [live])
      condemned := .never (fun event => noDone event.1) (by rw [live])
      invalid := .never (fun ⟨_, event⟩ => event.elim (fun ends => noDone ends.1) noIdle) (by rw [live])
      losses := .never (fun event => noDone event.1) (by rw [live]) }

/-- What a command does to the counters is what R126 and R127 say of each. -/
theorem Tallies.counts (T : Tallies x y old new) : Counts x y old new := by
  cases T with
  | rests quiet => exact quiet.counts
  | begins mounted zeroing live snap =>
    have rests : ¬ x.phase.inFlight = true := by simp [mounted, Phase.inFlight]
    exact
      { snap := snap
        begun := .now ⟨mounted, zeroing⟩ (by rw [live])
        passed := .never (fun event => rests event.1.1) (by rw [live])
        condemned := .never (fun event => rests event.1.1) (by rw [live])
        invalid := .never (fun ⟨_, event⟩ => event.elim (fun ends => rests ends.1.1) fun cut => rests cut.1) (by rw [live])
        losses := .never (fun event => rests event.1.1) (by rw [live]) }
  | ends o r fly done record outcome ordinary live snap =>
    have ended : x.phase.inFlight = true ∧ y.phase = .done := ⟨fly, done⟩
    have written (p : TestOutcome) : (recordOf x new).bind TestRecord.outcome = some p ↔ o = p := by simp [record, outcome]
    have counted (p : TestOutcome) (isOrdinary : p = .pass ∨ p = .condemn ∨ p = .invalid) :
        Ordinary x old ∧ (recordOf x new).bind TestRecord.outcome = some p ↔ o = p := by
      rw [written]
      exact and_iff_right_of_imp fun e => ordinary (e ▸ isOrdinary)
    have noIdle : ¬ (x.phase.inFlight = true ∧ y.phase = .idle) := by simp [done]
    rw [countedAs] at live
    exact
      { snap := snap
        begun := .never (by simp [done]) (by rw [live])
        passed := by
          rw [live]
          exact .of_iff ((and_iff_right ended).trans (counted .pass (.inl rfl)))
        condemned := by
          rw [live]
          exact .of_iff ((and_iff_right ended).trans (counted .condemn (.inr (.inl rfl))))
        invalid := by
          rw [live]
          refine .of_iff (Iff.trans ?_ (counted .invalid (.inr (.inr rfl))))
          rw [or_iff_left noIdle, and_iff_right ended]
        losses := by
          rw [live]
          exact .of_iff ((and_iff_right ended).trans (by simp [record])) }
  | resets fly idle proving ordinary snap =>
    have noDone : ¬ (x.phase.inFlight = true ∧ y.phase = .done) := by simp [idle]
    have others : y.live = { x.live with invalid := y.live.invalid } := by
      by_cases kind : Ordinary x old
      · rw [ordinary kind]; rfl
      · rw [proving kind]
    exact
      { snap := snap
        begun := .never (by simp [idle]) (by rw [others])
        passed := .never (fun event => noDone event.1) (by rw [others])
        condemned := .never (fun event => noDone event.1) (by rw [others])
        invalid := by
          by_cases kind : Ordinary x old
          · exact .now ⟨kind, .inr ⟨fly, idle⟩⟩ (by rw [ordinary kind]; rfl)
          · exact .never (fun event => kind event.1) (by rw [proving kind])
        losses := .never (fun event => noDone event.1) (by rw [others]) }

end

end Sys2Proof.Statistics

namespace Sys2Proof.Statistics

open Sys2Proof.Machine Sys2Proof.Safety Sys2Proof.Laws Sys2Proof.Roll Sys2Proof.Settings Sys2Proof.Heads

/-! ### Heads that rest -/

namespace Quiet
variable {x y : Head}

/-- A head in the phase that it was in, its counters and its snapshot as they stood. -/
theorem of_same (phase : y.phase = x.phase) (live : y.live = x.live) (snap : y.snap = x.snap) : Quiet x y where
  live := live
  snap := snap
  waits mounted := by rw [phase, mounted]; decide
  flies fly := by rwa [phase]

theorem refl (x : Head) : Quiet x x := .of_same rfl rfl rfl

/-- A head that is empty, or holds a cylinder out of test, and goes to a phase out of test (R65, R66). -/
theorem of_rest (rests : x.phase.inFlight = false) (phase : y.phase ≠ .zeroing) (live : y.live = x.live)
    (snap : y.snap = x.snap) : Quiet x y where
  live := live
  snap := snap
  waits _ := phase
  flies fly := by rw [rests] at fly; cases fly

end Quiet

section
variable {s t : State} {g : HeadId} {y : Head} (h : HeadId)

theorem tallied_of_head (same : t.head h = s.head h) : Tallied h s t := .rests (by rw [same]; exact .refl _)

theorem tallied_of_heads (same : t.heads = s.heads) : Tallied h s t := tallied_of_head h (by rw [State.head, State.head, same])

/-- One head written that rests. -/
theorem tallied_setHead (same : t.heads = (s.setHead g y).heads) (quiet : Quiet (s.head g) y) : Tallied h s t := by
  have atHead : t.head h = (s.setHead g y).head h := by rw [State.head, State.head, same]
  by_cases e : h = g
  · subst e
    rw [State.head_setHead_self] at atHead
    exact .rests (by rwa [atHead])
  · exact tallied_of_head h (by rw [atHead, State.head_setHead_other _ _ _ _ e])

/-- Proving records that run out at a unit with the same heads. -/
theorem tallied_lapseExpired {u : State} (after : t.heads = (lapseExpired u).heads) (before : u.heads = s.heads) :
    Tallied h s t := by
  have same : u.head h = s.head h := by rw [State.head, State.head, before]
  have atHead : t.head h = (lapseExpired u).head h := by rw [State.head, State.head, after]
  refine .rests ?_
  rw [atHead, head_lapseExpired, same]
  split_ifs
  · exact .of_same rfl rfl rfl
  · exact .refl _

end

section
variable (h : HeadId) (s : State)

theorem tallied_advanceClock : Tallied h s (advanceClock s) := by
  unfold advanceClock
  split_ifs
  · have ticked (u : State) : (tickTimers u).heads = u.heads := foldl_keeps (fun s => s.heads) _ (fun _ _ => rfl) timedLinks u
    refine tallied_lapseExpired h rfl ?_
    rw [heads_loseSilentLinks, ticked]
  · exact tallied_of_heads h rfl

theorem tallied_takeSetLimits (a : LimitsArgs) : Tallied h s (takeSetLimits a s).1 := by
  unfold takeSetLimits
  split
  · exact tallied_of_heads h rfl
  · dsimp only
    exact tallied_lapseExpired h (heads_loseSilentLinks _) rfl

/-! ### MOUNT, DISMOUNT, HEAD_SETUP and BEGIN -/

/-- A request that names a head is refused or is that head's. -/
theorem onHead_cases {n : Nat} (take : HeadId → State × Reply) :
    onHead n s take = (s, refusal .field) ∨ ∃ g, onHead n s take = take g := by
  unfold onHead
  split
  · exact .inr ⟨_, rfl⟩
  · exact .inl rfl

theorem tallied_onHead {n : Nat} {take : HeadId → State × Reply} (step : ∀ g, Tallied h s (take g).1) :
    Tallied h s (onHead n s take).1 := by
  obtain e | ⟨g, e⟩ := onHead_cases s (n := n) take <;> rw [e]
  · exact tallied_of_heads h rfl
  · exact step g

theorem tallied_takeMount (a : MountArgs) : Tallied h s (takeMount a s).1 :=
  tallied_onHead h s fun g => by
    unfold onCarrier
    split
    · dsimp only
      split_ifs with held state busy
      · exact tallied_of_heads h rfl
      · exact tallied_of_heads h rfl
      · exact tallied_of_heads h rfl
      · have idle : (s.head g).phase = .idle := not_not.mp busy
        exact tallied_setHead h rfl (.of_rest (by rw [idle]; rfl) (by decide : Phase.mounted ≠ .zeroing) rfl rfl)
    · exact tallied_of_heads h rfl

theorem tallied_takeDismount (n : Nat) : Tallied h s (takeDismount n s).1 :=
  tallied_onHead h s fun g => by
    dsimp only
    split
    · exact tallied_of_heads h rfl
    · rename_i rests
      have idle : Quiet (s.head g) (s.head g).toIdle := .of_rest (by simpa using rests) (by simp [Head.toIdle]) rfl rfl
      split
      · exact tallied_of_heads h rfl
      · split_ifs
        · exact tallied_setHead h rfl idle
        · exact tallied_setHead h (heads_of_offRoll (offRoll_applyOutcome _ _)) idle
        · exact tallied_of_heads h rfl

theorem tallied_takeHeadSetup (a : HeadSetupArgs) : Tallied h s (takeHeadSetup a s).1 :=
  tallied_onHead h s fun g => by
    split_ifs
    · exact tallied_of_heads h rfl
    · exact tallied_setHead h rfl (.of_same rfl rfl rfl)

/-- The proving count of a head touches its proving record alone (R121). -/
theorem head_countProving (g : HeadId) : ∃ p, (countProving g s).head h = { s.head h with proving := p } := by
  unfold countProving
  split
  · exact ⟨_, rfl⟩
  · rename_i p _
    obtain ⟨q, counted⟩ : ∃ q, (s.updHead g fun x => { x with proving := some { p with count := p.count + 1 } }).head h =
        { s.head h with proving := q } := by
      rw [State.updHead_eq, State.head_setHead]
      split_ifs with e
      · exact ⟨_, by rw [e]⟩
      · exact ⟨_, rfl⟩
    dsimp only
    split_ifs
    · rw [head_lapse, counted]
      split_ifs
      · exact ⟨none, rfl⟩
      · exact ⟨q, rfl⟩
    · exact ⟨q, counted⟩

theorem tallied_beginTest {g : HeadId} (k : SlotId) (ps : Pressures) (mounted : (s.head g).phase = .mounted) :
    Tallied h s (beginTest g k ps s) := by
  obtain ⟨p, atHead⟩ : ∃ p, (beginTest g k ps s).head h = { (testBegun g k ps s).head h with proving := p } := by
    rw [beginTest_eq]
    split_ifs
    · exact ⟨_, rfl⟩
    · exact head_countProving h _ g
  rw [testBegun, State.head_setHead] at atHead
  split_ifs at atHead with e
  · subst e
    exact .begins mounted (by rw [atHead]; rfl) (by rw [atHead]) (by rw [atHead]; rfl)
  · exact .rests (.of_same (by rw [atHead]; rfl) (by rw [atHead]; rfl) (by rw [atHead]; rfl))

theorem tallied_takeBegin (n : Nat) : Tallied h s (takeBegin n s).1 :=
  tallied_onHead h s fun g => by
    dsimp only
    split
    · rename_i m phase mount
      split_ifs
      · exact tallied_of_heads h rfl
      · split
        · exact tallied_of_heads h rfl
        · split
          · exact tallied_of_heads h rfl
          · exact tallied_beginTest h s m.slot _ (of_decide_eq_true phase)
    · exact tallied_of_heads h rfl

end

end Sys2Proof.Statistics

namespace Sys2Proof.Statistics

open Sys2Proof.Machine Sys2Proof.Safety Sys2Proof.Laws Sys2Proof.Roll Sys2Proof.Settings Sys2Proof.Heads

/-! ### The end of a test -/

/-- A slot whose test is in flight has the test record that its BEGIN made (R69). -/
def Recorded (s : State) : Prop :=
  ∀ h m, (s.head h).mount = some m → (s.head h).phase.inFlight = true → (s.slot m.slot).test.isSome = true

/-- An evaluation's reasons never tell of a loss of pressure (R106 to R113). -/
theorem verdictOn_reasons (x : Slot) (ty : TypeFields) (t p : Int) : (verdictOn x ty t p).reasons ≠ [.pressureLoss] := by
  unfold verdictOn
  split_ifs
  · unfold provingVerdict
    dsimp only
    split_ifs <;> simp
  · unfold ordinaryVerdict
    dsimp only
    split_ifs <;> simp

/-- A verdict on a proving slot is PROVED or NOT_PROVED (R113). -/
theorem verdictOn_proving {x : Slot} (proves : x.isProving = true) (ty : TypeFields) (t p : Int) :
    (verdictOn x ty t p).outcome = .proved ∨ (verdictOn x ty t p).outcome = .notProved := by
  rw [verdictOn, if_pos proves]
  unfold provingVerdict
  dsimp only
  split_ifs
  · exact .inl rfl
  · exact .inr rfl

theorem slot_enterDone (h : HeadId) (k : SlotId) (o : TestOutcome) (rs : List Reason) (s : State) :
    (enterDone h k o rs s).slot k = { s.slot k with test := (s.slot k).test.map (endedRecord o rs (s.head h).ripple) } := by
  rw [← view_slots, view_enterDone, setSlot_slots_self]
  rfl

section
variable {s : State} {g : HeadId} {m : Mount}

/-- An outcome that no proving slot has is that of an ordinary slot. -/
theorem ordinary_of_outcome {x : Head} {slots : SlotId → Slot} {o : TestOutcome} (mount : x.mount = some m)
    (kind : (slots m.slot).isProving = true → o = .proved ∨ o = .notProved)
    (counted : o = .pass ∨ o = .condemn ∨ o = .invalid) : Ordinary x slots := by
  cases proves : (slots m.slot).isProving with
  | false => simp [Ordinary, mount, proves]
  | true =>
    obtain rfl | rfl := kind proves <;> simp at counted

variable (mount : (s.head g).mount = some m) (fly : (s.head g).phase.inFlight = true)
include mount fly

/-- Entry into DONE at a head in flight, its record and its counters on the way written. -/
theorem tallied_enterDone {u : State} {o : TestOutcome} {rs : List Reason} (test : (u.slot m.slot).test.isSome = true)
    (kind : (s.slot m.slot).isProving = true → o = .proved ∨ o = .notProved)
    (live : ((u.head g).toDone o).live = countedAs o (decide (rs = [.pressureLoss])) (s.head g).live)
    (snap : (u.head g).snap = (s.head g).snap) : Tallied g s (enterDone g m.slot o rs u) := by
  obtain ⟨r, hr⟩ := Option.isSome_iff_exists.mp test
  have atHead : (enterDone g m.slot o rs u).head g = _ := (head_enterDone g g m.slot o rs u).trans (if_pos rfl)
  have record : recordOf (s.head g) (enterDone g m.slot o rs u).slot = some (endedRecord o rs (u.head g).ripple r) := by
    simp only [recordOf, mount, Option.bind_some, slot_enterDone, hr, Option.map_some]
  exact .ends o _ fly (by rw [atHead]; rfl) record rfl (ordinary_of_outcome mount kind) (by rw [atHead]; exact live)
    (by rw [atHead]; exact snap)

variable (test : (s.slot m.slot).test.isSome = true)
include test
variable {y : Head} (live : y.live = (s.head g).live) (snap : y.snap = (s.head g).snap)
include live snap

/-- A test that a cause ends, at a head whose counters stand (R75, R84). -/
theorem tallied_endByCause (h : HeadId) (c : EndCause) : Tallied h s (endByCause g m.slot c (s.setHead g y)) := by
  by_cases e : h = g
  · subst e
    have kind (proves : (s.slot m.slot).isProving = true) :
        c.outcome (s.slot m.slot).isProving = .proved ∨ c.outcome (s.slot m.slot).isProving = .notProved := by
      rw [proves]
      cases c <;> exact .inr rfl
    rw [endByCause, postOrdinary_eq]
    refine tallied_enterDone mount fly ?_ kind ?_ ?_
    · rw [State.slot_setSlot_self, posts_test]
      exact test
    · rw [State.head_setSlot, State.updHead_eq, State.head_setHead_self, State.head_setHead_self, State.slot_setHead,
        toDone_countLoss, ← live]
      simp only [doneWith, List.cons.injEq, and_true]
    · rw [State.head_setSlot, State.updHead_eq, State.head_setHead_self, State.head_setHead_self, ← snap]
      unfold Head.countLoss
      split_ifs <;> rfl
  · exact tallied_of_head h (by rw [(ended_endByCause g m.slot c _).others h e, State.head_setHead_other _ _ _ _ e])

/-- A test that its verdict ends, at a head whose counters stand (R81). -/
theorem tallied_evaluate (h : HeadId) (ty : TypeFields) (p : Int) : Tallied h s (evaluate g m.slot ty p (s.setHead g y)) := by
  by_cases e : h = g
  · subst e
    refine tallied_enterDone mount fly ?_ (fun proves => verdictOn_proving proves ty _ p) ?_ ?_
    · rw [slot_foldl_post, posts_test, updTest_eq, State.slot_setSlot_self, Option.isSome_map]
      exact test
    · rw [head_foldl_post, updTest_eq, State.head_setSlot, State.head_setHead_self, toDone_eq,
        decide_eq_false (verdictOn_reasons _ ty _ p), ← live]
      rfl
    · rw [head_foldl_post, updTest_eq, State.head_setSlot, State.head_setHead_self, snap]
  · exact tallied_of_head h (by rw [(ended_evaluate g m.slot ty p _).others h e, State.head_setHead_other _ _ _ _ e])

end

/-! ### A reading pair and an ABORT -/

/-- The work of a pair leaves the counters to the end of the test (R63). -/
theorem leaves_pairAction_stats {x : Head} (fly : x.phase.inFlight = true) (ty : TypeFields) (p j : Reading) :
    (leaves (pairAction x ty p j)).live = x.live ∧ (leaves (pairAction x ty p j)).snap = x.snap := by
  refine pairAction_cases (P := fun a => (leaves a).live = x.live ∧ (leaves a).snap = x.snap) fly ty p j
    (fun c => ⟨rfl, rfl⟩) (fun _ u => ?zeroing) (fun _ ps v => ?ramp) (fun _ ps v u => ?hold) (fun _ ps v u => ?tail) (fun _ ps v => ?release)
    (fun _ ps v u => ?settle)
  case zeroing => rw [zeroingWork_eq]; split_ifs <;> exact ⟨rfl, rfl⟩
  case ramp => rw [rampWork_eq]; split_ifs <;> exact ⟨rfl, rfl⟩
  case hold => rw [holdWork_eq]; split_ifs <;> exact ⟨rfl, rfl⟩
  case tail => rw [tailWork_eq]; split_ifs <;> exact ⟨rfl, rfl⟩
  case release => rw [releaseWork_eq]; split_ifs <;> exact ⟨rfl, rfl⟩
  case settle => rw [settleWork_eq]; split_ifs <;> exact ⟨rfl, rfl⟩

section
variable {s : State} {g : HeadId} {m : Mount} (h : HeadId) (recorded : Recorded s)
include recorded

theorem tallied_carryOut (ty : TypeFields) (mount : (s.head g).mount = some m) (fly : (s.head g).phase.inFlight = true)
    {a : PairAction} (flies : (PairAction.head a).phase.inFlight = true) (live : (leaves a).live = (s.head g).live)
    (snap : (leaves a).snap = (s.head g).snap) : Tallied h s (carryOut g m.slot ty a s) := by
  have test := recorded g m mount fly
  have quiet {y : Head} (flies : y.phase.inFlight = true) (live : y.live = (s.head g).live) (snap : y.snap = (s.head g).snap) :
      Quiet (s.head g) y :=
    ⟨live, snap, fun mounted => absurd mounted (not_mounted_of_inFlight fly).1, fun _ => flies⟩
  cases a with
  | goesOn y => exact tallied_setHead h rfl (quiet flies live snap)
  | zeroed y z => exact tallied_setHead h rfl (quiet flies live snap)
  | tailEnds y t => exact tallied_setHead h (raise_heads _ _) (quiet flies live snap)
  | settles y p => exact tallied_evaluate (y := y) mount fly test live snap h ty p
  | ends y c => exact tallied_endByCause (y := y) mount fly test live snap h c

theorem tallied_takePair (p j : Reading) : Tallied h s (takePair g p j s) := by
  have seen : Tallied h s (s.setHead g ((s.head g).see p j)) := tallied_setHead h rfl (.of_same rfl rfl rfl)
  unfold takePair State.testAt
  by_cases fly : (s.head g).phase.inFlight = true
  · simp only [see_phase, fly, if_true, see_mount]
    cases mount : (s.head g).mount with
    | none => exact seen
    | some m =>
      rw [Option.bind_some]
      cases s.typeOfSlot (s.slot m.slot) with
      | none => exact seen
      | some ty =>
        have flying : ((s.head g).see p j).phase.inFlight = true := fly
        obtain ⟨live, snap⟩ := leaves_pairAction_stats flying ty p j
        exact tallied_carryOut h recorded ty mount fly (flies_pairAction flying ty p j).phase live snap
  · simp only [see_phase, fly]
    exact seen

theorem tallied_takePairAs (p j : Reading) (is : PairAction → Bool) : Tallied h s (takePairAs g p j is s) := by
  unfold takePairAs
  split
  · exact tallied_takePair h recorded p j
  · exact tallied_of_heads h rfl

theorem tallied_takeAbort (n : Nat) : Tallied h s (takeAbort n s).1 :=
  tallied_onHead h s fun g => by
    dsimp only
    split
    · rename_i m fly mount
      have ended := tallied_endByCause mount fly (recorded g m mount fly) rfl rfl h (.invalid .aborted)
      rwa [State.setHead_head] at ended
    · exact tallied_of_heads h rfl

end

/-! ### A line reset (R93) -/

section
variable (h : HeadId) {s : State} (L : Lawful (view s))
include L

theorem tallied_lineReset : Tallied h s (lineReset s) := by
  classical
  have atHead : (lineReset s).head h = cleared _ :=
    ((congrArg (State.head · h) (lineReset_eq s)).trans (head_resetHeads _ h)).trans (congrArg cleared (head_resetSlots L h))
  by_cases fly : (s.head h).phase.inFlight = true
  · refine .resets fly (by rw [atHead]; rfl) (fun proving => ?_) (fun ordinary => ?_) ?_
    · rw [atHead, if_neg fun cut => proving cut.2]
      rfl
    · rw [atHead, if_pos ⟨fly, ordinary⟩]
      rfl
    · rw [atHead]
      split_ifs <;> rfl
  · have idle : (cleared (s.head h)).phase ≠ .zeroing := (by decide : Phase.idle ≠ .zeroing)
    rw [if_neg fun cut => fly cut.1] at atHead
    exact .rests (.of_rest (by simpa using fly) (by rw [atHead]; exact idle) (by rw [atHead]; rfl) (by rw [atHead]; rfl))

theorem tallied_answerSent (l : LinkId) : Tallied h s (answerSent l s) := by
  obtain ⟨-, e⟩ | ⟨o, -, e⟩ := answerSent_cases l s <;> rw [e]
  · exact tallied_of_heads h rfl
  · split_ifs
    · exact tallied_lineReset (s := s.updLink l _) h L
    · exact tallied_of_heads h rfl

end

end Sys2Proof.Statistics

namespace Sys2Proof.Statistics

open Sys2Proof.Machine Sys2Proof.Safety Sys2Proof.Laws Sys2Proof.Roll Sys2Proof.Settings Sys2Proof.Heads

/-! ### Every command -/

section
variable {s t : State} (h : HeadId)

/-- A request leaves the heads, or does to the unit what its block does with its fields; the links stand apart. -/
theorem request_cases {α : Type} {l : LinkId} {r : Request} {b : Body α} {take : α → State → State × Reply}
    (e : request l r b take s = .next t) :
    t.heads = s.heads ∨ ∃ a f, t = (take a (s.updLink l Link.goodFrame)).1.updLink l f := by
  obtain rfl : onFrame l (takeGood l r.code (checked l r b take)) s = t := by simpa [request] using e
  unfold onFrame takeGood checked
  split_ifs
  · cases b with
    | fields a => exact .inr ⟨a, _, rfl⟩
    | wrongLength => exact .inl rfl
  · exact .inl rfl
  · exact .inl rfl
  · exact .inl rfl

theorem tallied_request {α : Type} {l : LinkId} {r : Request} {b : Body α} {take : α → State → State × Reply}
    (e : request l r b take s = .next t)
    (step : ∀ a, Tallied h (s.updLink l Link.goodFrame) (take a (s.updLink l Link.goodFrame)).1) : Tallied h s t := by
  obtain same | ⟨a, f, rfl⟩ := request_cases e
  · exact tallied_of_heads h same
  · exact step a

theorem tallied_event {f : State → State} (e : event f s = .next t) (step : Tallied h s (f s)) : Tallied h s t := by
  obtain rfl | rfl := event_next e
  · exact step
  · exact tallied_of_heads h rfl

/-- A snapshot, taken by one of the two requests that take one: the counters pass into it and start from zero (R128 to R130). -/
def Snapped (c : Instr) (x y : Head) : Prop :=
  y.snap = x.live ∧ y.live = .zero ∧ ((∃ l b, c = .snapshot l b) ∨ ∃ l b, c = .setDate l b)

theorem head_takeSnapshot (s : State) : (takeSnapshot s).head h = (s.head h).takeSnapshot := by cases h <;> rfl

theorem snapped_snapshot {l : LinkId} {b : Body Unit} (e : exec (.snapshot l b) s = .next t) :
    Snapped (.snapshot l b) (s.head h) (t.head h) ∨ Tallied h s t := by
  obtain same | ⟨a, f, rfl⟩ := request_cases e
  · exact .inr (tallied_of_heads h same)
  · have atHead := head_takeSnapshot h (s.updLink l Link.goodFrame)
    exact .inl ⟨congrArg Head.snap atHead, congrArg Head.live atHead, .inl ⟨l, b, rfl⟩⟩

theorem snapped_setDate {l : LinkId} {b : Body DateArgs} (e : exec (.setDate l b) s = .next t) :
    Snapped (.setDate l b) (s.head h) (t.head h) ∨ Tallied h s t := by
  obtain same | ⟨a, f, rfl⟩ := request_cases e
  · exact .inr (tallied_of_heads h same)
  · rw [State.head_updLink]
    unfold takeSetDate
    split
    · exact .inr (tallied_of_heads h rfl)
    · dsimp only
      split_ifs
      · have atHead := head_takeSnapshot h (s.updLink l Link.goodFrame)
        exact .inl ⟨congrArg Head.snap atHead, congrArg Head.live atHead, .inr ⟨l, b, rfl⟩⟩
      · exact .inr (tallied_of_heads h rfl)

/-- What a command does to the counters of a head, short of power. -/
theorem tallied_exec {c : Instr} (L : Lawful (view s)) (recorded : Recorded s) (e : exec c s = .next t) (on : c ≠ .powerOn)
    (off : c ≠ .powerLoss) : Snapped c (s.head h) (t.head h) ∨ Tallied h s t := by
  have rests {α : Type} {l : LinkId} {r : Request} {b : Body α} {take : α → State → State × Reply} {d : Instr}
      (e : request l r b take s = .next t) (same : ∀ a u, (take a u).1.heads = u.heads) :
      Snapped d (s.head h) (t.head h) ∨ Tallied h s t :=
    .inr (tallied_request h e fun a => tallied_of_heads h (same a _))
  cases c with
  | snapshot => exact snapped_snapshot h e
  | setDate => exact snapped_setDate h e
  | powerOn => exact absurd rfl on
  | powerLoss => exact absurd rfl off
  | mount => exact .inr (tallied_request h e fun a => tallied_takeMount h _ a)
  | begin => exact .inr (tallied_request h e fun a => tallied_takeBegin h _ a)
  | abort l => exact .inr (tallied_request h e fun a => tallied_takeAbort (s := s.updLink l _) h recorded a)
  | dismount => exact .inr (tallied_request h e fun a => tallied_takeDismount h _ a)
  | headSetup => exact .inr (tallied_request h e fun a => tallied_takeHeadSetup h _ a)
  | headStatus => exact .inr (tallied_request h e fun a => tallied_onHead h _ fun _ => tallied_of_heads h rfl)
  | setLimits => exact .inr (tallied_request h e fun a => tallied_takeSetLimits h _ a)
  | resetPushbutton => exact .inr (tallied_event h e (tallied_lineReset h L))
  | answerSent l => exact .inr (tallied_event h e (tallied_answerSent h L l))
  | readingPair g p j => exact .inr (tallied_event h e (tallied_takePair h recorded p j))
  | zeroTimeout | rampTimeout | holdComplete | tailEnd | releaseTimeout | settleTimeout =>
    obtain rfl := Host.Outcome.next.inj e
    exact .inr (tallied_takePairAs h recorded _ _ _)
  | unitClockAdvance => exact .inr (tallied_event h e (tallied_advanceClock h s))
  | silenceTimeout | lapseByTime =>
    refine .inr (tallied_event h e ?_)
    split_ifs
    exacts [tallied_advanceClock h s, tallied_of_heads h rfl]
  | moveRecords => exact .inr (tallied_event h e (tallied_of_heads h (heads_moveRecords s)))
  | overrun => exact .inr (tallied_event h e (by split_ifs <;> exact tallied_of_heads h rfl))
  | parity | framing => exact .inr (tallied_event h e (tallied_of_heads h rfl))
  | fragment | check | gapOver20ms => exact .inr (tallied_event (f := fun s => s.updLink _ _) h e (tallied_of_heads h rfl))
  | unknownCode | lengthByteFault =>
    obtain rfl := Host.Outcome.next.inj e
    refine .inr (tallied_of_heads h ?_)
    unfold onFrame
    split_ifs <;> rfl
  | status | notices | clearErrors | readStats | lineReset => exact rests e fun _ _ => rfl
  | noticeSetup => exact rests e fun a u => heads_takeNoticeSetup u _ a
  | lookup => exact rests e fun a u => heads_takeLookup u a
  | nextReferral => exact rests e fun a u => heads_takeNextReferral u a
  | rule => exact rests e fun a u => heads_takeRule u a
  | withdraw => exact rests e fun a u => heads_takeWithdraw u a
  | breakClaim => exact rests e fun a u => heads_takeBreakClaim u a
  | stopLink => exact rests e fun a u => heads_takeStopLink u a
  | startLink => exact rests e fun a u => heads_takeStartLink u a
  | forceNotice => exact rests e fun a u => heads_takeForceNotice u a
  | admitOrdinary => exact rests e fun a u => heads_takeAdmitOrdinary u a
  | admitProving => exact rests e fun a u => heads_takeAdmitProving u a
  | claim => exact rests e fun a u => heads_takeClaim u _ a
  | finding => exact rests e fun a u => heads_takeFinding u _ a
  | weigh => exact rests e fun a u => heads_takeWeigh u _ a
  | inspected => exact rests e fun a u => heads_takeInspected u _ a
  | release => exact rests e fun a u => heads_takeRelease u _ a
  | claimStamp => exact rests e fun a u => heads_takeClaimStamp u _ a
  | stamped => exact rests e fun a u => heads_takeStamped u _ a
  | claimScrap => exact rests e fun a u => heads_takeClaimScrap u _ a
  | scrapped => exact rests e fun a u => heads_takeScrapped u _ a
  | loadType => exact rests e fun a u => heads_takeLoadType u a
  | dropType => exact rests e fun a u => heads_takeDropType u a
  | readType => exact rests e fun a u => heads_takeReadType u a
  | setMark => exact rests e fun a u => heads_takeSetMark u a
  | readPage => exact rests e fun a u => heads_takeReadPage u a
  | turnPage => exact rests e fun a u => heads_takeTurnPage u a
  | finishPage => exact rests e fun a u => heads_takeFinishPage u a

end

/-- Settles O30: every command rests at a head, begins, ends or cuts short its test, or takes a snapshot. -/
theorem liveCountersSaturateUntilASnapshot : Obligations.LiveCountersSaturateUntilASnapshot := by
  unfold Obligations.LiveCountersSaturateUntilASnapshot
  intro up zero
  have raised : Counter.raise = up := funext raise_eq
  clear_value up
  subst raised
  refine ⟨fun _ => rfl, fun s t h e => ?powerOn, fun c s t h roll verdict on off e => ?_⟩
  case powerOn =>
    obtain rfl := Host.Outcome.next.inj e
    obtain ⟨-, start, -⟩ := restart_volatile s
    rw [fillFirstPage_eq]
    exact congrArg Head.live (start h)
  have recorded : Recorded s := fun h m mount fly => verdict.recorded h m mount (begun_of_inFlight fly).1
  refine (tallied_exec h ((rollLaw_iff s).mp roll) recorded e on off).imp id fun T => ?_
  obtain ⟨snap, begun, passed, condemned, invalid, losses⟩ := T.counts
  exact ⟨snap, begun, passed, condemned, invalid, losses⟩

end Sys2Proof.Statistics

/-! ## The supervisor's rulings (chapter 7) -/

namespace Sys2Proof.Supervisor

open Sys2Proof.Machine Sys2Proof.Safety Sys2Proof.Laws Sys2Proof.Roll

/-! ### The checks of RULE (R139) -/

section
variable {s : State} {k : SlotId} {r : Ruling}

/-- A number that names no slot is refused before the ruling is looked at. -/
theorem takeRule_noSlot {n : Nat} (r : Option Ruling) (above : 48 ≤ n) (s : State) : takeRule ⟨n, r⟩ s = (s, refusal .field) := by
  simp only [takeRule, slotOf_none n above]

theorem takeRule_noRuling (k : SlotId) (s : State) : takeRule ⟨k.val, none⟩ s = (s, refusal .field) := by
  simp only [takeRule, slotOf_val]

theorem takeRule_notReferred (r : Ruling) (state : (s.slot k).state ≠ .referred) :
    takeRule ⟨k.val, some r⟩ s = (s, refusal .state) := by
  simp only [takeRule, slotOf_val, if_neg state]

theorem takeRule_referred (r : Ruling) (state : (s.slot k).state = .referred) :
    takeRule ⟨k.val, some r⟩ s = carryOutRuling k r s := by
  simp only [takeRule, slotOf_val, if_pos state]

/-! ### The checks of a withdrawal (R13) -/

theorem withdrawalCheck_held {x : Slot} (held : x.holder ≠ none) : withdrawalCheck x = some .held :=
  if_pos (Option.isSome_iff_ne_none.mpr held)

theorem withdrawalCheck_free {x : Slot} (free : x.holder = none) :
    withdrawalCheck x = if x.worst = .condemn then some .condemned else none := by
  rw [withdrawalCheck, free]; rfl

/-! ### The rulings carried out (R140 to R142) -/

theorem carryOutRuling_lastGrant (last : (s.slot k).grants = 253) : carryOutRuling k .retest s = (s, refusal .field) :=
  if_pos last

/-- RETEST: the slot leaves the referral queue for AWAIT_TEST with one grant more (R140). -/
theorem carryOutRuling_retest (more : (s.slot k).grants ≠ 253) :
    carryOutRuling k .retest s =
      ((leaveReferral k s).setSlot k { s.slot k with state := .awaitTest, holder := none, grants := (s.slot k).grants + 1 },
       okWith (u8 k.val ++ u8 4 ++ u8 ((s.slot k).grants + 1))) := by
  simp [carryOutRuling, more, ruleReply, slotStateByte]

/-- CONDEMN: the slot leaves the referral queue for AWAIT_SCRAP with finding 205 posted, and SCRAP_READY is raised (R141). -/
theorem carryOutRuling_condemn (k : SlotId) (s : State) :
    carryOutRuling k .condemn s =
      (raise .scrapReady ((leaveReferral k s).setSlot k
        { (s.slot k).post ⟨205, .condemn, .supervisor, none⟩ with state := .awaitScrap, holder := none }),
       okWith (u8 k.val ++ u8 9 ++ u8 (s.slot k).grants)) := by
  simp [carryOutRuling, enterAwaitScrap, ruleReply, slotStateByte]

theorem carryOutRuling_withdraw_refused {st : Status} (check : withdrawalCheck (s.slot k) = some st) :
    carryOutRuling k .withdraw s = (s, refusal st) := by
  simp only [carryOutRuling, check]

/-- WITHDRAW: the slot closes with outcome WITHDRAWN (R142). -/
theorem carryOutRuling_withdraw (check : withdrawalCheck (s.slot k) = none) :
    carryOutRuling k .withdraw s = (closeSlot k .withdrawn s, okWith (u8 k.val ++ u8 11 ++ u8 (s.slot k).grants)) := by
  simp only [carryOutRuling, check]
  rfl

/-! ### RULE on its link -/

theorem rule_refused {a : RuleArgs} {st : Status} (h : CanTake s .L0)
    (check : takeRule a (heard s .L0) = (heard s .L0, refusal st)) :
    exec (.rule .L0 (.fields a)) s = .next (refusedWith s .L0 7 st) :=
  request_refused .rule a takeRule h rfl st check

theorem rule_ok {a : RuleArgs} {t : State} {body : List Byte} (h : CanTake s .L0)
    (taken : takeRule a (heard s .L0) = (t, okWith body)) :
    exec (.rule .L0 (.fields a)) s = .next (answered t .L0 7 .ok body) :=
  request_ok .rule a takeRule body h rfl taken

/-- A ruling on a REFERRED slot that is refused. -/
theorem rule_referred_refused {st : Status} (h : CanTake s .L0) (state : (s.slot k).state = .referred)
    (check : carryOutRuling k r (heard s .L0) = (heard s .L0, refusal st)) :
    exec (.rule .L0 (.fields ⟨k.val, some r⟩)) s = .next (refusedWith s .L0 7 st) :=
  rule_refused h ((takeRule_referred (s := heard s .L0) r state).trans check)

/-- A ruling on a REFERRED slot that is carried out. -/
theorem rule_referred_ok {t : State} {body : List Byte} (h : CanTake s .L0) (state : (s.slot k).state = .referred)
    (ruled : carryOutRuling k r (heard s .L0) = (t, okWith body)) :
    exec (.rule .L0 (.fields ⟨k.val, some r⟩)) s = .next (answered t .L0 7 .ok body) :=
  rule_ok h ((takeRule_referred (s := heard s .L0) r state).trans ruled)

end

/-- Settles O31: each check of RULE and each ruling is one equation of its block, read on the state that took the frame. -/
theorem ruleActsOnReferredSlots : Obligations.RuleActsOnReferredSlots := by
  intro s h
  refine ⟨fun n r above => rule_refused h (takeRule_noSlot r above _), fun k => ?_⟩
  refine ⟨rule_refused h (takeRule_noRuling k _), fun r state => rule_refused h (takeRule_notReferred r state), fun state => ?_⟩
  refine ⟨fun last => ?retestRefused, fun more => ?retest, ?condemn, fun held => ?held, fun free worst => ?condemned,
    fun free worst => ?withdraw⟩
  case retestRefused => exact rule_referred_refused h state (carryOutRuling_lastGrant last)
  case retest => exact rule_referred_ok h state (carryOutRuling_retest more)
  case condemn => exact rule_referred_ok h state (carryOutRuling_condemn k _)
  case held => exact rule_referred_refused h state (carryOutRuling_withdraw_refused (withdrawalCheck_held held))
  case condemned =>
    exact rule_referred_refused h state (carryOutRuling_withdraw_refused ((withdrawalCheck_free free).trans (if_pos worst)))
  case withdraw => exact rule_referred_ok h state (carryOutRuling_withdraw ((withdrawalCheck_free free).trans (if_neg worst)))

end Sys2Proof.Supervisor

/-! ## Stamping, scrapping and the closing records (chapter 8) -/

namespace Sys2Proof.Closing

open Sys2Proof.Machine Sys2Proof.Safety Sys2Proof.Laws Sys2Proof.Roll

/-! ### The archive

The closing records that wait in their slots, and the pages with their marker and their counter. `archive` cuts that part
out, so that one lemma per operation says that it leaves all of it. -/

/-- The part of the unit that keeps closing records (R155, R160). -/
structure Archive where
  waiting : SlotId → Option ClosingRecord
  pages : PageId → Page
  presented : Option PageId
  counter : Nat

/-- That part of a state. -/
def archive (s : State) : Archive := ⟨fun k => (s.slot k).closing, s.page, s.presented, s.recordCounter⟩

/-- A closing record waits in its slot or stands on a page. -/
inductive Holds (a : Archive) (c : ClosingRecord) : Prop
  | waiting (k : SlotId) (closing : a.waiting k = some c)
  | onPage (p : PageId) (r : PageRecord) (mem : r ∈ (a.pages p).records) (record : r.record = c)

theorem recordsLaw_iff (s : State) : RecordsLaw s ↔ ∀ c, Holds (archive s) c → RecordSound c := by
  constructor
  · rintro ⟨waiting, onPage⟩ c (⟨k, closing⟩ | ⟨p, r, mem, rfl⟩)
    · exact waiting k c closing
    · exact onPage p r mem
  · exact fun sound => ⟨fun k c closing => sound c (.waiting k closing), fun p r mem => sound _ (.onPage p r mem rfl)⟩

/-! ### Operations that leave the archive -/

section
variable (s : State)

theorem archive_setSlot {k : SlotId} {x : Slot} (same : x.closing = (s.slot k).closing) :
    archive (s.setSlot k x) = archive s := by
  have waiting : (archive (s.setSlot k x)).waiting = (archive s).waiting := by
    funext j
    by_cases e : j = k
    · subst e
      simpa [archive] using same
    · simp [archive, e]
  exact congrArg (fun w => { archive s with waiting := w }) waiting

theorem archive_updSlot {k : SlotId} {f : Slot → Slot} (same : (f (s.slot k)).closing = (s.slot k).closing) :
    archive (s.updSlot k f) = archive s := archive_setSlot s same

theorem archive_of_links {s t : State} (same : SameButLinks s t) : archive t = archive s := by
  rw [show t = { s with links := t.links } from same]
  rfl

@[simp] theorem archive_updLink (l : LinkId) (f : Link → Link) : archive (s.updLink l f) = archive s := rfl
@[simp] theorem archive_raiseTo (n : Notice) (l : LinkId) : archive (raiseTo n l s) = archive s :=
  archive_of_links (.raiseTo n l s)
@[simp] theorem archive_raise (n : Notice) : archive (raise n s) = archive s :=
  archive_of_links (.foldl (fun u l => .raiseTo n l u) _ s)
@[simp] theorem archive_reporting (f : State → State) : archive (reporting f s) = archive (f s) :=
  archive_of_links (.reporting f s)

@[simp] theorem archive_enterUnheld (k : SlotId) (st : SlotState) : archive (enterUnheld k st s) = archive s :=
  archive_setSlot s rfl

@[simp] theorem archive_enterHeld (k : SlotId) (st : SlotState) (w : Holder) : archive (enterHeld k st w s) = archive s :=
  archive_setSlot s rfl

@[simp] theorem archive_post (k : SlotId) (f : Finding) : archive (post k f s) = archive s :=
  archive_setSlot s (post_closing _ f)

@[simp] theorem archive_updTest (k : SlotId) (f : TestRecord → TestRecord) : archive (updTest k f s) = archive s :=
  archive_setSlot s rfl

@[simp] theorem archive_enterAwaitStamp (k : SlotId) : archive (enterAwaitStamp k s) = archive s :=
  (archive_raise _ _).trans (archive_enterUnheld s k _)

@[simp] theorem archive_enterAwaitScrap (k : SlotId) : archive (enterAwaitScrap k s) = archive s :=
  (archive_raise _ _).trans (archive_enterUnheld s k _)

@[simp] theorem archive_enterReferred (k : SlotId) : archive (enterReferred k s) = archive s :=
  (archive_reporting _ _).trans (archive_enterUnheld s k _)

@[simp] theorem archive_leaveReferral (k : SlotId) : archive (leaveReferral k s) = archive s := archive_reporting s _

@[simp] theorem archive_giveUpClaim (k : SlotId) : archive (giveUpClaim k s) = archive s := by
  obtain ⟨-, e⟩ | ⟨-, e⟩ | ⟨-, e⟩ | ⟨-, -, -, e⟩ := giveUpClaim_cases k s <;> simp only [e, archive_raise, archive_enterUnheld]

@[simp] theorem archive_dropClaims (l : LinkId) : archive (dropClaims l s) = archive s :=
  foldl_keeps archive _ (fun u k => by
    unfold dropIfHeld
    split_ifs
    · exact archive_giveUpClaim u k
    · rfl) _ s

@[simp] theorem archive_loseSilentLinks : archive (loseSilentLinks s) = archive s :=
  foldl_keeps archive _ (fun u l => by
    unfold loseIfSilent
    split_ifs
    · exact (archive_raise _ _).trans (archive_dropClaims (u.updLink l _) l)
    · rfl) _ s

@[simp] theorem archive_lapse (h : HeadId) : archive (lapse h s) = archive s := by
  rw [lapse_cases]
  split_ifs
  · rfl
  · exact archive_raise _ _

@[simp] theorem archive_lapseExpired : archive (lapseExpired s) = archive s :=
  foldl_keeps archive _ (fun u h => by
    unfold lapseIfExpired
    split_ifs
    · exact archive_lapse u h
    · rfl) _ s

@[simp] theorem archive_advanceClock : archive (advanceClock s) = archive s := by
  have ticked (u : State) : archive (tickTimers u) = archive u := foldl_keeps archive _ (fun _ _ => rfl) timedLinks u
  unfold advanceClock
  split_ifs
  · rw [archive_lapseExpired, archive_loseSilentLinks, ticked]
    rfl
  · rfl

@[simp] theorem archive_setProving (h : HeadId) (o : TestOutcome) : archive (setProving h o s) = archive s := by
  cases o with
  | notProved => exact archive_lapse s h
  | _ => rfl

@[simp] theorem archive_enterDone (h : HeadId) (k : SlotId) (o : TestOutcome) (rs : List Reason) :
    archive (enterDone h k o rs s) = archive s := by
  rw [enterDone, archive_raise, archive_setProving]
  exact archive_updTest s k _

@[simp] theorem archive_endByCause (h : HeadId) (k : SlotId) (c : EndCause) : archive (endByCause h k c s) = archive s := by
  rw [endByCause, archive_enterDone, postOrdinary_eq]
  exact archive_setSlot _ (posts_closing _ _)

@[simp] theorem archive_evaluate (h : HeadId) (k : SlotId) (ty : TypeFields) (p : Int) :
    archive (evaluate h k ty p s) = archive s := by
  rw [evaluate, archive_enterDone, foldl_keeps archive _ (fun u f => archive_post u k f), archive_updTest]

@[simp] theorem archive_carryOut (h : HeadId) (k : SlotId) (ty : TypeFields) (a : PairAction) :
    archive (carryOut h k ty a s) = archive s := by
  cases a with
  | goesOn x => rfl
  | zeroed x z => exact archive_updTest _ k _
  | tailEnds x t => exact (archive_raise _ _).trans (archive_updTest _ k _)
  | settles x p => exact archive_evaluate _ h k ty p
  | ends x c => exact archive_endByCause _ h k c

@[simp] theorem archive_takePair (h : HeadId) (p j : Reading) : archive (takePair h p j s) = archive s := by
  unfold takePair
  split
  · exact archive_carryOut s h _ _ _
  · rfl

@[simp] theorem archive_takePairAs (h : HeadId) (p j : Reading) (is : PairAction → Bool) :
    archive (takePairAs h p j is s) = archive s := by
  unfold takePairAs
  split_ifs
  · exact archive_takePair s h p j
  · rfl

@[simp] theorem archive_cutShort (h : HeadId) (k : SlotId) : archive (cutShort h k s) = archive s := archive_updTest s k _

end

end Sys2Proof.Closing

namespace Sys2Proof.Closing

open Sys2Proof.Machine Sys2Proof.Safety Sys2Proof.Laws Sys2Proof.Roll

/-! ### Records moved onto the pages (R163)

A record that moves is one that waited; finishing a page, emptying one and freeing a slot add none. -/

theorem slot_of_view {s t : State} (same : view t = view s) (k : SlotId) : t.slot k = s.slot k :=
  congrFun (congrArg RollView.slots same) k

/-- No closing record comes in on the way from the one state to the other. -/
def NoNew (s t : State) : Prop := ∀ c, Holds (archive t) c → Holds (archive s) c

namespace NoNew
variable {s t u : State}

theorem refl (s : State) : NoNew s s := fun _ h => h
theorem trans (f : NoNew s t) (g : NoNew t u) : NoNew s u := fun c h => f c (g c h)
theorem of_archive (same : archive t = archive s) : NoNew s t := fun c h => by rwa [same] at h

/-- Slots that wait as they did or not at all, and pages with records of before. -/
theorem of_parts (waiting : ∀ k, (t.slot k).closing = (s.slot k).closing ∨ (t.slot k).closing = none)
    (pages : ∀ p, (t.page p).records = (s.page p).records ∨ (t.page p).records = []) : NoNew s t := by
  rintro c (⟨k, closing⟩ | ⟨p, r, mem, record⟩)
  · obtain same | gone := waiting k
    · exact .waiting k (same.symm.trans closing)
    · cases gone.symm.trans closing
  · have mem : r ∈ (t.page p).records := mem
    obtain same | gone := pages p
    · exact .onPage p r (same ▸ mem) record
    · rw [gone] at mem
      cases mem

/-- A slot written without a closing record. -/
theorem setSlot {k : SlotId} {x : Slot} (none : x.closing = none) : NoNew s (s.setSlot k x) :=
  of_parts (fun j => by
    by_cases e : j = k
    · subst e
      exact .inr (by rw [State.slot_setSlot_self, none])
    · exact .inl (by rw [State.slot_setSlot_other _ _ _ _ e])) fun p => .inl (by cases p <;> rfl)

/-- A page that takes the record that waits in a slot. -/
theorem enterPage {k : SlotId} {r : ClosingRecord} (p : PageId) (waits : (s.slot k).closing = some r) :
    NoNew s (enterPage p r s) := by
  rintro c (⟨j, closing⟩ | ⟨q, x, mem, rfl⟩)
  · exact .waiting j (by cases p <;> exact closing)
  · have records : ((Machine.enterPage p r s).page q).records =
        if q = p then (s.page p).records ++ [⟨s.recordCounter, s.manualDate, r⟩] else (s.page q).records := by
      cases p <;> cases q <;> rfl
    have mem : x ∈ ((Machine.enterPage p r s).page q).records := mem
    rw [records] at mem
    split_ifs at mem
    · rw [List.mem_append, List.mem_singleton] at mem
      obtain old | rfl := mem
      · exact .onPage p x old rfl
      · exact .waiting k waits
    · exact .onPage q x mem rfl

theorem finishPageOp (p : PageId) (s : State) : NoNew s (finishPageOp p s) := by
  have records (q : PageId) : ((finishChanges p s).page q).records = (s.page q).records := by
    simp only [finishChanges]
    split_ifs <;> cases p <;> cases q <;> rfl
  have finished : NoNew s (finishChanges p s) :=
    .of_parts (fun k => .inl (by rw [slot_of_view (view_finishChanges p s)])) fun q => .inl (records q)
  refine finished.trans (.of_archive ?_)
  rw [Machine.finishPageOp, archive_raise, archive_reporting]

theorem moveOne {k : SlotId} {r : ClosingRecord} (p : PageId) (rest : List SlotId) (waits : (s.slot k).closing = some r) :
    NoNew s (moveOne p k r rest s) := by
  have freed (u : State) : NoNew u (freeSlot k rest u) :=
    .trans (.setSlot (k := k) (x := Slot.empty) rfl) (.of_archive (archive_reporting u _))
  have taken := (enterPage p waits).trans (freed _)
  rw [moveOne_eq]
  dsimp only
  split_ifs
  · exact taken.trans (.finishPageOp p _)
  · exact taken

theorem moveRecords (s : State) : NoNew s (moveRecords s) := by
  suffices ∀ n s, NoNew s (moveUpTo n s) from this _ s
  intro n
  induction n with
  | zero => exact .refl
  | succ n ih =>
    intro s
    unfold moveUpTo
    split
    · split
      · exact (NoNew.moveOne _ _ ‹_›).trans (ih _)
      · exact .refl s
    · exact .refl s

theorem turnPageOp (p : PageId) (s : State) : NoNew s (turnPageOp p s) := by
  have turned : NoNew s (turnChanges p s) := by
    have records (q : PageId) : ((turnChanges p s).page q).records = if q = p then [] else (s.page q).records := by
      cases p <;> cases q <;> rfl
    refine .of_parts (fun k => .inl (by rw [slot_of_view (view_turnChanges p s)])) fun q => ?_
    rw [records]
    split_ifs
    · exact .inr rfl
    · exact .inl rfl
  exact (turned.trans (.of_archive (archive_reporting s _))).trans (.moveRecords _)

theorem fillFirstPage (s : State) : NoNew s (fillFirstPage s) := by
  rw [fillFirstPage_eq]
  refine .of_parts (fun _ => .inl rfl) fun p => .inl ?_
  cases p with
  | B => rfl
  | A =>
    show (if _ then _ else _ : Page).records = _
    split_ifs <;> rfl

/-- A start empties the roll and keeps the pages (R22, R25). -/
theorem restart (s : State) : NoNew s s.restart := by
  have slot (k : SlotId) : s.restart.slot k = Slot.empty := congrFun (congrArg RollView.slots (view_restart s)) k
  exact .of_parts (fun k => .inr (by rw [slot]; rfl)) fun p => .inl (by cases p <;> rfl)

end NoNew

/-! ### Closing (R14, R155) -/

/-- A closing record shows the outcome that a slot was closed with, and the worst severity that the slot had. -/
structure Shows (x : Slot) (o : ClosingOutcome) (c : ClosingRecord) : Prop where
  outcome : c.outcome = o
  worst : c.cylinder.worst = x.worst

/-- What a composed record shows of its slot. -/
theorem shows_closingRecord {s : State} {x : Slot} {o : ClosingOutcome} {c : ClosingRecord} (made : s.closingRecord x o = some c) :
    Shows x o c ∧ c.cylinder.test = x.test := by
  obtain ⟨i, ident⟩ : ∃ i, x.ident = some i :=
    Option.isSome_iff_exists.mp (by rw [← closingRecord_isSome s x o, made]; rfl)
  rw [closingRecord_eq s ident o] at made
  obtain rfl := Option.some.inj made
  exact ⟨⟨rfl, rfl⟩, rfl⟩

/-- A closing brings in the record of its slot as it stands, and no other. -/
theorem holds_closeSlot {k : SlotId} {o : ClosingOutcome} {s : State} {c : ClosingRecord} (h : Holds (archive (closeSlot k o s)) c) :
    Holds (archive s) c ∨ s.closingRecord (s.slot k) o = some c := by
  rw [closeSlot_eq] at h
  have slots (j : SlotId) : (setAside k o s).slot j = (s.setSlot k (closed o (s.closingRecord (s.slot k) o) (s.slot k))).slot j := by
    rw [State.slot, setAside_slots]
    rfl
  have pages : (setAside k o s).page = s.page := by rw [setAside_keeps]; rfl
  obtain ⟨j, closing⟩ | ⟨p, r, mem, record⟩ := NoNew.moveRecords _ c h
  · have closing : ((setAside k o s).slot j).closing = some c := closing
    rw [slots] at closing
    by_cases e : j = k
    · subst e
      rw [State.slot_setSlot_self] at closing
      exact .inr closing
    · rw [State.slot_setSlot_other _ _ _ _ e] at closing
      exact .inl (.waiting j closing)
  · have mem : r ∈ ((setAside k o s).page p).records := mem
    rw [pages] at mem
    exact .inl (.onPage p r mem record)

/-- The record of a proving slot that is closed by its result (R12, R156). -/
def ProvingRecord (slots : SlotId → Slot) (c : ClosingRecord) : Prop :=
  ∃ k, (slots k).isProving = true ∧ Shows (slots k) .proving c

/-- A closing record that a command brings in, told from the slots that it met: somebody who may close the slot closed it, or
a proving slot was routed by its result. -/
inductive Made (slots : SlotId → Slot) (c : ClosingRecord) : Prop
  | closes (k : SlotId) (o : ClosingOutcome) (by_ : Closes (slots k) o) (shown : Shows (slots k) o c)
      (test : c.cylinder.test = (slots k).test)
  | proving (record : ProvingRecord slots c)

/-- Routing by the outcome closes a proving slot and no other (R12). -/
theorem holds_applyOutcome {k : SlotId} {s : State} {c : ClosingRecord} (h : Holds (archive (applyOutcome k s)) c) :
    Holds (archive s) c ∨ ((s.slot k).isProving = true ∧ Shows (s.slot k) .proving c) := by
  unfold applyOutcome at h
  by_cases kind : (s.slot k).isProving = true
  · rw [if_pos kind] at h
    exact (holds_closeSlot h).imp_right fun made => ⟨kind, (shows_closingRecord made).1⟩
  · refine .inl ?_
    simp only [if_neg kind] at h
    split at h
    case h_3 =>
      split_ifs at h
      · rwa [archive_enterUnheld] at h
      · rwa [archive_enterReferred, archive_post] at h
    all_goals simpa only [archive_enterAwaitStamp, archive_enterAwaitScrap, archive_enterUnheld] using h

/-! ### A line reset (R24)

The slots are reset one after the other, and the record of a slot closed on the way is told from the slots as they stood before
the reset: a proving slot that is still one has kept its worst severity. -/

/-- The proving slots of the second roll were proving slots of the first, at the same worst severity. -/
def ProvingKept (v w : SlotId → Slot) : Prop :=
  ∀ k, (w k).isProving = true → (v k).isProving = true ∧ (w k).worst = (v k).worst

theorem ProvingKept.record {v w : SlotId → Slot} {c : ClosingRecord} (kept : ProvingKept v w) (made : ProvingRecord w c) :
    ProvingRecord v c := by
  obtain ⟨k, kind, outcome, worst⟩ := made
  obtain ⟨was, same⟩ := kept k kind
  exact ⟨k, was, outcome, worst.trans same⟩

theorem isProving_congr {x y : Slot} (ident : y.ident = x.ident) : y.isProving = x.isProving := by rw [Slot.isProving, ident, Slot.isProving]

/-- A routed slot that is a proving slot yet stands CLOSED at its worst severity. -/
theorem worst_of_routes {v w : RollView} {k : SlotId} (R : Routes k v w) (kind : (w.slots k).isProving = true) :
    (w.slots k).worst = (v.slots k).worst := by
  cases R with
  | proving r was made frees =>
    obtain e | ⟨-, e⟩ := frees.slot k
    · rw [e]
      simp [RollView.close, closed]
    · rw [e] at kind
      cases kind
  | ordinary was =>
    have stays := (Routes.ordinary was).stays
    obtain S | e := stays
    · rw [isProving_congr S.kept.ident, was] at kind
      cases kind
    · rw [e] at kind
      cases kind

theorem provingKept_resets {v w : RollView} {k : SlotId} (R : Resets k v w) : ProvingKept v.slots w.slots := by
  intro j kind
  have isEmpty (e : w.slots j = Slot.empty) : False := by rw [e] at kind; cases kind
  by_cases e : j = k
  · subst e
    have was : (v.slots j).isProving = true := by
      obtain S | e := R.stays
      · rwa [isProving_congr S.kept.ident] at kind
      · exact (isEmpty e).elim
    refine ⟨was, ?_⟩
    cases R with
    | free => rfl
    | idle => rfl
    | claim =>
      rw [setSlot_slots_self, givenUp]
      split_ifs <;> rfl
    | mounted => rw [setSlot_slots_self]; rfl
    | done h held phase routes => exact worst_of_routes routes kind
    | cut h held phase routes =>
      rw [worst_of_routes routes kind, setSlot_slots_self]
      rfl
  · obtain same | gone := R.other e
    · rw [same] at kind ⊢
      exact ⟨kind, rfl⟩
    · exact (isEmpty gone).elim

/-- A slot's reset brings in a record at most for a proving slot that a head held (R93, R156). -/
theorem holds_resetSlot {k : SlotId} {s : State} {c : ClosingRecord} (h : Holds (archive (resetSlot s k)) c) :
    Holds (archive s) c ∨ ProvingRecord s.slot c := by
  have routed {u : State} (same : archive u = archive s) (kind : (u.slot k).isProving = (s.slot k).isProving)
      (worst : (u.slot k).worst = (s.slot k).worst) (h : Holds (archive (applyOutcome k u)) c) :
      Holds (archive s) c ∨ ProvingRecord s.slot c := by
    rw [← same]
    refine (holds_applyOutcome h).imp_right fun ⟨proving, shown⟩ => ⟨k, kind ▸ proving, shown.outcome, shown.worst.trans worst⟩
  cases held : (s.slot k).holder with
  | none => exact .inl (by rwa [resetSlot_free held] at h)
  | some w =>
    cases w with
    | link l => exact .inl (by rwa [resetSlot_claim held, archive_giveUpClaim] at h)
    | head g =>
      obtain phase | phase | phase | fly := phase_cases (s.head g).phase
      · exact .inl (by rwa [resetSlot_idle held phase] at h)
      · exact .inl (by rwa [resetSlot_mounted held phase, archive_enterUnheld] at h)
      · rw [resetSlot_done held phase] at h
        exact routed rfl rfl rfl h
      · rw [resetSlot_cut held fly] at h
        have cut : (cutShort g k s).slot k = cutSlot (s.head g).ripple (s.slot k) := by
          rw [← view_slots, view_cutShort, setSlot_slots_self]
        exact routed (archive_cutShort s g k) (by rw [cut]; rfl) (by rw [cut]; rfl) h

theorem holds_foldl_resetSlot (ks : List SlotId) {s : State} {c : ClosingRecord} (h : Holds (archive (ks.foldl resetSlot s)) c) :
    Holds (archive s) c ∨ ProvingRecord s.slot c := by
  induction ks generalizing s with
  | nil => exact .inl h
  | cons k ks ih =>
    obtain old | made := ih h
    · exact holds_resetSlot old
    · exact .inr ((provingKept_resets (resets_resetSlot s k)).record made)

/-- A line reset brings in the records of proving slots alone (R24, R156). -/
theorem holds_lineReset {s : State} {c : ClosingRecord} (h : Holds (archive (lineReset s)) c) :
    Holds (archive s) c ∨ ProvingRecord s.slot c := by
  rw [lineReset_eq, foldl_keeps archive resetHead fun u g => archive_lapse (u.updHead g _) g] at h
  exact holds_foldl_resetSlot allSlots (s := linksReset s) h

end Sys2Proof.Closing

namespace Sys2Proof.Closing

open Sys2Proof.Machine Sys2Proof.Safety Sys2Proof.Laws Sys2Proof.Roll

/-! ### What one command does to the closing records -/

/-- Every closing record after was one before, or was made by closing a slot of before. -/
def Makes (s t : State) : Prop := ∀ c, Holds (archive t) c → Holds (archive s) c ∨ Made s.slot c

section
variable {s t : State}

theorem NoNew.makes (none : NoNew s t) : Makes s t := fun c h => .inl (none c h)

theorem Makes.of_archive (same : archive t = archive s) : Makes s t := (NoNew.of_archive same).makes

theorem Makes.refl (s : State) : Makes s s := .of_archive rfl

/-- A closing by somebody who may close the slot, the method of a scrapping written first. -/
theorem makes_closeSlot {k : SlotId} {o : ClosingOutcome} (by_ : Closes (s.slot k) o) (m : Option ScrapMethod) :
    Makes s (closeSlot k o (s.setSlot k { s.slot k with method := m })) := fun c h => by
  obtain old | made := holds_closeSlot h
  · rw [archive_setSlot s (x := { s.slot k with method := m }) rfl] at old
    exact .inl old
  · rw [State.slot_setSlot_self] at made
    obtain ⟨⟨outcome, worst⟩, test⟩ := shows_closingRecord made
    exact .inr (.closes k o by_ ⟨outcome, worst⟩ test)

/-- A closing that writes no method. -/
theorem makes_closeSlot_plain {k : SlotId} {o : ClosingOutcome} (by_ : Closes (s.slot k) o) : Makes s (closeSlot k o s) := by
  have step := makes_closeSlot by_ (s.slot k).method
  rwa [State.setSlot_slot] at step

/-- A request leaves the archive, or does to the unit what its block does, on a link that admits it. -/
theorem makes_request {α : Type} {l : LinkId} {r : Request} {b : Body α} {take : α → State → State × Reply}
    (e : request l r b take s = .next t) (step : ∀ a u, admits l r = true → Makes u (take a u).1) : Makes s t := by
  obtain rfl : onFrame l (takeGood l r.code (checked l r b take)) s = t := by simpa [request] using e
  unfold onFrame takeGood checked
  split_ifs with _ _ adm
  · cases b with
    | fields a => exact step a (s.updLink l Link.goodFrame) adm
    | wrongLength => exact .refl s
  · exact .refl s
  · exact .refl s
  · exact .refl s

theorem makes_event {f : State → State} (e : event f s = .next t) (step : Makes s (f s)) : Makes s t := by
  obtain rfl | rfl := event_next e
  · exact step
  · exact .refl t

end

/-! #### The shared checks

A request that fails a check leaves the unit as it was, so what holds of the unit unchanged and of each way past the check holds
of the request. -/

section
variable {s : State} {P : State → Prop} (here : P s)
include here

theorem onCarrier_either {c : Nat} {take : SlotId → State × Reply} (step : ∀ k, P (take k).1) : P (onCarrier c s take).1 := by
  unfold onCarrier
  split
  · exact step _
  · exact here

theorem asHolder_either {l : LinkId} {c : Nat} {take : SlotId → State × Reply}
    (step : ∀ k, (s.slot k).holder = some (.link l) → P (take k).1) : P (asHolder l c s take).1 :=
  onCarrier_either here fun k => by
    split_ifs with held
    · exact step k held
    · exact here

theorem claimCheck_either {l : LinkId} {needed : SlotState} {c : Nat} {items : State → SlotId → List Byte}
    {take : SlotId → State × Reply} (step : ∀ k, P (take k).1) : P (claimCheck l needed c s items take).1 :=
  onCarrier_either here fun k => by
    split
    · split_ifs <;> exact here
    · split_ifs
      · exact step k
      · exact here

theorem onHead_either {n : Nat} {take : HeadId → State × Reply} (step : ∀ h, P (take h).1) : P (onHead n s take).1 := by
  unfold onHead
  split
  · exact step _
  · exact here

end

/-! #### Requests that close slots or touch the pages -/

section
variable (s : State)

theorem makes_takeWithdraw (c : Nat) : Makes s (takeWithdraw c s).1 :=
  onCarrier_either (.refl s) fun k => by
    split
    · exact .refl s
    · split_ifs with allows
      · exact makes_closeSlot_plain (closes_withdrawn ‹_› (isOpen_of_withdrawable allows))
      · exact .refl s

theorem makes_carryOutRuling {k : SlotId} (r : Ruling) (state : (s.slot k).state = .referred) :
    Makes s (carryOutRuling k r s).1 := by
  cases r with
  | retest =>
    simp only [carryOutRuling]
    split_ifs
    · exact .refl s
    · exact .of_archive ((archive_enterUnheld _ k _).trans ((archive_updSlot _ rfl).trans (archive_leaveReferral s k)))
  | condemn => exact .of_archive ((archive_enterAwaitScrap _ k).trans ((archive_post _ k _).trans (archive_leaveReferral s k)))
  | withdraw =>
    simp only [carryOutRuling]
    split
    · exact .refl s
    · exact makes_closeSlot_plain (closes_withdrawn ‹_› (by rw [state]; rfl))

theorem makes_takeRule (a : RuleArgs) : Makes s (takeRule a s).1 := by
  unfold takeRule
  split
  · split_ifs with state
    · exact makes_carryOutRuling s _ state
    · exact .refl s
  · exact .refl s
  · exact .refl s

theorem makes_takeStamped {l : LinkId} (c : Nat) (adm : admits l .stamped = true) : Makes s (takeStamped l c s).1 := by
  obtain rfl : l = .L3 := by simpa [admits] using adm
  exact asHolder_either (.refl s) fun k held => makes_closeSlot_plain (.stamped held)

theorem makes_takeScrapped {l : LinkId} (a : ScrappedArgs) (adm : admits l .scrapped = true) : Makes s (takeScrapped l a s).1 := by
  obtain rfl : l = .L4 := by simpa [admits] using adm
  refine asHolder_either (.refl s) fun k held => ?_
  split
  · exact .refl s
  · exact makes_closeSlot (.scrapped held) _

theorem makes_takeDismount (n : Nat) : Makes s (takeDismount n s).1 :=
  onHead_either (.refl s) fun h => by
    dsimp only
    split
    · exact .refl s
    · split
      · exact .refl s
      · rename_i m _
        split_ifs
        · exact .of_archive (archive_enterUnheld (s.updHead h Head.toIdle) m.slot _)
        · exact fun c held => (holds_applyOutcome (s := s.updHead h Head.toIdle) held).imp_right fun made =>
            .proving ⟨m.slot, made⟩
        · exact .refl s

theorem makes_takeTurnPage (n : Nat) : Makes s (takeTurnPage n s).1 := by
  unfold takeTurnPage
  split_ifs
  · exact .refl s
  · split
    · exact .refl s
    · split_ifs
      · exact .refl s
      · exact (NoNew.turnPageOp _ s).makes

theorem makes_takeFinishPage (a : Unit) : Makes s (takeFinishPage a s).1 := by
  unfold takeFinishPage
  split
  · exact .refl s
  · split_ifs
    · exact .refl s
    · exact ((NoNew.finishPageOp _ s).trans (.moveRecords _)).makes

theorem archive_bindSlot (c : Fin 255) (k : SlotId) (x : Slot) : archive (bindSlot c k x s) = archive (s.setSlot k x) :=
  archive_reporting s _

/-- A FREE slot takes its cylinder without a closing record (R45, R48). -/
theorem makes_admitChecked {p : BindingParams} {proving : Bool} {make : Identity → Slot} (new : ∀ i, (make i).closing = none) :
    Makes s (admitChecked p proving make s).1 := by
  unfold admitChecked
  split
  · exact .refl s
  · split_ifs
    · exact .refl s
    · exact .refl s
    · exact .refl s
    · split
      · exact .refl s
      · exact ((NoNew.setSlot (new _)).trans (.of_archive (archive_bindSlot s _ _ _))).makes

theorem makes_takeAdmitOrdinary (a : AdmitArgs) : Makes s (takeAdmitOrdinary a s).1 := by
  unfold takeAdmitOrdinary
  split
  · exact .refl s
  · split
    · exact makes_admitChecked s fun _ => rfl
    · exact .refl s
    · exact .refl s

theorem makes_takeAdmitProving (a : AdmitProvingArgs) : Makes s (takeAdmitProving a s).1 := by
  unfold takeAdmitProving
  split
  · exact .refl s
  · split
    · exact makes_admitChecked s fun _ => rfl
    · exact .refl s

end

/-! #### Requests that leave the archive -/

/-- The archive stands from the one state to the other. -/
abbrev Leaves (s t : State) : Prop := archive t = archive s

theorem Leaves.refl (s : State) : Leaves s s := rfl

section
variable (s : State)

theorem leaves_takeNoticeSetup (l : LinkId) (a : NoticeSetupArgs) : Leaves s (takeNoticeSetup l a s).1 := by
  unfold takeNoticeSetup
  split_ifs <;> rfl

theorem leaves_takeLookup (a : LookupArgs) : Leaves s (takeLookup a s).1 := by
  unfold takeLookup
  split
  · rfl
  · split_ifs
    · rfl
    · exact onCarrier_either (.refl s) fun _ => rfl
  · split <;> rfl

theorem leaves_takeNextReferral (a : Unit) : Leaves s (takeNextReferral a s).1 := by
  unfold takeNextReferral
  split <;> rfl

theorem leaves_takeBreakClaim (c : Nat) : Leaves s (takeBreakClaim c s).1 :=
  onCarrier_either (.refl s) fun k => by
    split
    · rfl
    · rfl
    · exact archive_giveUpClaim s k

theorem leaves_takeStopLink (n : Nat) : Leaves s (takeStopLink n s).1 := by
  unfold takeStopLink
  split
  · rfl
  · split_ifs
    · rfl
    · rfl
    · exact (archive_updLink _ _ _).trans (archive_dropClaims s _)

theorem leaves_takeStartLink (n : Nat) : Leaves s (takeStartLink n s).1 := by
  unfold takeStartLink
  split <;> rfl

theorem leaves_takeForceNotice (a : ForceNoticeArgs) : Leaves s (takeForceNotice a s).1 := by
  unfold takeForceNotice
  split
  · rfl
  · split_ifs
    · rfl
    · exact archive_raiseTo s _ _

theorem leaves_takeSetDate (l : LinkId) (a : DateArgs) : Leaves s (takeSetDate l a s).1 := by
  unfold takeSetDate
  split
  · rfl
  · dsimp only
    split_ifs <;> rfl

theorem leaves_takeClaim (l : LinkId) (c : Nat) : Leaves s (takeClaim l c s).1 :=
  claimCheck_either (.refl s) fun k => archive_enterHeld s k _ _

theorem leaves_takeFinding (l : LinkId) (a : FindingArgs) : Leaves s (takeFinding l a s).1 :=
  asHolder_either (.refl s) fun k _ => by
    split
    · exact archive_post s k _
    · rfl

theorem leaves_takeWeigh (l : LinkId) (a : WeighArgs) : Leaves s (takeWeigh l a s).1 :=
  asHolder_either (.refl s) fun k _ => by
    dsimp only
    split_ifs with _ weighed
    · rfl
    · rfl
    · obtain ⟨-, -, -, closing, -⟩ := (noted_weighed _ _ (by simpa using weighed)).keeps
      exact archive_setSlot s closing

theorem archive_routeInspected (k : SlotId) : archive (routeInspected k s) = archive s := by
  unfold routeInspected
  split
  · exact archive_enterUnheld s k _
  · exact archive_enterUnheld s k _
  · exact archive_enterReferred s k
  · exact archive_enterAwaitScrap s k

theorem leaves_takeInspected (l : LinkId) (c : Nat) : Leaves s (takeInspected l c s).1 :=
  asHolder_either (.refl s) fun k _ => by
    dsimp only
    split_ifs
    · rfl
    · refine (archive_routeInspected _ k).trans ?_
      unfold ageCheck
      split_ifs
      · exact archive_post s k _
      · rfl

theorem leaves_takeRelease (l : LinkId) (c : Nat) : Leaves s (takeRelease l c s).1 :=
  asHolder_either (.refl s) fun k _ => archive_giveUpClaim s k

theorem leaves_takeMount (a : MountArgs) : Leaves s (takeMount a s).1 :=
  onHead_either (.refl s) fun h => onCarrier_either (.refl s) fun k => by
    dsimp only
    split_ifs
    · rfl
    · rfl
    · rfl
    · exact archive_enterHeld s k _ _

theorem archive_countProving (h : HeadId) : archive (countProving h s) = archive s := by
  unfold countProving
  split
  · rfl
  · dsimp only
    split_ifs
    · exact archive_lapse _ h
    · rfl

theorem archive_beginTest (h : HeadId) (k : SlotId) (ps : Pressures) : archive (beginTest h k ps s) = archive s := by
  have begun : archive (Heads.testBegun h k ps s) = archive s := archive_setSlot s rfl
  rw [Heads.beginTest_eq]
  split_ifs
  · exact begun
  · exact (archive_countProving _ h).trans begun

theorem leaves_takeBegin (n : Nat) : Leaves s (takeBegin n s).1 :=
  onHead_either (.refl s) fun h => by
    dsimp only
    split
    · split_ifs
      · rfl
      · split
        · rfl
        · split
          · rfl
          · exact archive_beginTest s h _ _
    · rfl

theorem leaves_takeAbort (n : Nat) : Leaves s (takeAbort n s).1 :=
  onHead_either (.refl s) fun h => by
    dsimp only
    split
    · exact archive_endByCause s h _ _
    · rfl

theorem leaves_takeHeadSetup (a : HeadSetupArgs) : Leaves s (takeHeadSetup a s).1 :=
  onHead_either (.refl s) fun h => by split_ifs <;> rfl

theorem archive_takeStampClaim (l : LinkId) (k : SlotId) : archive (takeStampClaim l k s) = archive s :=
  (archive_updSlot _ rfl).trans (archive_enterHeld s k _ _)

theorem leaves_takeClaimStamp (l : LinkId) (c : Nat) : Leaves s (takeClaimStamp l c s).1 :=
  claimCheck_either (.refl s) fun k => by
    split_ifs
    · rfl
    · exact archive_takeStampClaim s l k

theorem leaves_takeClaimScrap (l : LinkId) (c : Nat) : Leaves s (takeClaimScrap l c s).1 :=
  claimCheck_either (.refl s) fun k => archive_enterHeld s k _ _

theorem leaves_takeLoadType (a : LoadTypeArgs) : Leaves s (takeLoadType a s).1 := by
  unfold takeLoadType
  split
  · rfl
  · split_ifs <;> rfl

theorem leaves_takeDropType (n : Nat) : Leaves s (takeDropType n s).1 := by
  unfold takeDropType
  split
  · rfl
  · dsimp only
    split_ifs <;> rfl

theorem leaves_takeReadType (n : Nat) : Leaves s (takeReadType n s).1 := by
  unfold takeReadType
  split
  · rfl
  · split <;> rfl

theorem leaves_takeSetMark (t : Text) : Leaves s (takeSetMark t s).1 := by
  unfold takeSetMark
  split <;> rfl

theorem leaves_takeSetLimits (a : LimitsArgs) : Leaves s (takeSetLimits a s).1 := by
  unfold takeSetLimits
  split
  · rfl
  · dsimp only
    exact (archive_loseSilentLinks _).trans (archive_lapseExpired _)

theorem leaves_takeReadPage (i : Nat) : Leaves s (takeReadPage i s).1 := by
  unfold takeReadPage
  split_ifs
  · rfl
  · split
    · rfl
    · split <;> rfl

end

/-! #### Every command -/

section
variable (s : State)

theorem makes_lineReset : Makes s (lineReset s) := fun _ h => (holds_lineReset h).imp_right .proving

theorem makes_answerSent (l : LinkId) : Makes s (answerSent l s) := by
  obtain ⟨-, e⟩ | ⟨o, -, e⟩ := answerSent_cases l s
  · rw [e]
    exact .refl s
  · rw [e]
    split_ifs
    · exact makes_lineReset (s.updLink l _)
    · exact .refl s

end

/-- What a command does to the closing records, whatever the state it meets. -/
theorem makes_exec {c : Instr} {s t : State} (e : exec c s = .next t) : Makes s t := by
  cases c with
  | status | notices | clearErrors | readStats | lineReset | snapshot => exact makes_request e fun _ u _ => .refl u
  | headStatus => exact makes_request e fun _ u _ => onHead_either (.refl u) fun _ => .refl u
  | noticeSetup l => exact makes_request e fun a u _ => .of_archive (leaves_takeNoticeSetup u l a)
  | lookup => exact makes_request e fun a u _ => .of_archive (leaves_takeLookup u a)
  | nextReferral => exact makes_request e fun a u _ => .of_archive (leaves_takeNextReferral u a)
  | rule => exact makes_request e fun a u _ => makes_takeRule u a
  | withdraw => exact makes_request e fun a u _ => makes_takeWithdraw u a
  | breakClaim => exact makes_request e fun a u _ => .of_archive (leaves_takeBreakClaim u a)
  | stopLink => exact makes_request e fun a u _ => .of_archive (leaves_takeStopLink u a)
  | startLink => exact makes_request e fun a u _ => .of_archive (leaves_takeStartLink u a)
  | setDate l => exact makes_request e fun a u _ => .of_archive (leaves_takeSetDate u l a)
  | forceNotice => exact makes_request e fun a u _ => .of_archive (leaves_takeForceNotice u a)
  | admitOrdinary => exact makes_request e fun a u _ => makes_takeAdmitOrdinary u a
  | admitProving => exact makes_request e fun a u _ => makes_takeAdmitProving u a
  | claim l => exact makes_request e fun a u _ => .of_archive (leaves_takeClaim u l a)
  | finding l => exact makes_request e fun a u _ => .of_archive (leaves_takeFinding u l a)
  | weigh l => exact makes_request e fun a u _ => .of_archive (leaves_takeWeigh u l a)
  | inspected l => exact makes_request e fun a u _ => .of_archive (leaves_takeInspected u l a)
  | release l => exact makes_request e fun a u _ => .of_archive (leaves_takeRelease u l a)
  | mount => exact makes_request e fun a u _ => .of_archive (leaves_takeMount u a)
  | begin => exact makes_request e fun a u _ => .of_archive (leaves_takeBegin u a)
  | abort => exact makes_request e fun a u _ => .of_archive (leaves_takeAbort u a)
  | dismount => exact makes_request e fun a u _ => makes_takeDismount u a
  | headSetup => exact makes_request e fun a u _ => .of_archive (leaves_takeHeadSetup u a)
  | claimStamp l => exact makes_request e fun a u _ => .of_archive (leaves_takeClaimStamp u l a)
  | stamped => exact makes_request e fun a u adm => makes_takeStamped u a adm
  | claimScrap l => exact makes_request e fun a u _ => .of_archive (leaves_takeClaimScrap u l a)
  | scrapped => exact makes_request e fun a u adm => makes_takeScrapped u a adm
  | loadType => exact makes_request e fun a u _ => .of_archive (leaves_takeLoadType u a)
  | dropType => exact makes_request e fun a u _ => .of_archive (leaves_takeDropType u a)
  | readType => exact makes_request e fun a u _ => .of_archive (leaves_takeReadType u a)
  | setMark => exact makes_request e fun a u _ => .of_archive (leaves_takeSetMark u a)
  | setLimits => exact makes_request e fun a u _ => .of_archive (leaves_takeSetLimits u a)
  | readPage => exact makes_request e fun a u _ => .of_archive (leaves_takeReadPage u a)
  | turnPage => exact makes_request e fun a u _ => makes_takeTurnPage u a
  | finishPage => exact makes_request e fun a u _ => makes_takeFinishPage u a
  | resetPushbutton => exact makes_event e (makes_lineReset s)
  | answerSent l => exact makes_event e (makes_answerSent s l)
  | moveRecords => exact makes_event e (NoNew.moveRecords s).makes
  | unitClockAdvance => exact makes_event e (.of_archive (archive_advanceClock s))
  | silenceTimeout | lapseByTime =>
    refine makes_event e ?_
    split_ifs
    exacts [.of_archive (archive_advanceClock s), .refl s]
  | overrun => exact makes_event e (by split_ifs <;> exact .refl s)
  | parity | framing => exact makes_event e (.refl s)
  | fragment | check | gapOver20ms => exact makes_event (f := fun s => s.updLink _ _) e (.refl s)
  | readingPair h p j => exact makes_event e (.of_archive (archive_takePair s h p j))
  | zeroTimeout | rampTimeout | holdComplete | tailEnd | releaseTimeout | settleTimeout =>
    obtain rfl := Host.Outcome.next.inj e
    exact .of_archive (archive_takePairAs s _ _ _ _)
  | unknownCode | lengthByteFault =>
    obtain rfl := Host.Outcome.next.inj e
    unfold onFrame
    split_ifs <;> exact .refl s
  | powerOn =>
    obtain rfl := Host.Outcome.next.inj e
    exact ((NoNew.restart s).trans (.fillFirstPage _)).makes
  | powerLoss =>
    obtain rfl := Host.Outcome.next.inj e
    exact (NoNew.restart s).makes

/-- What a step does to the closing records: what the command at the front does, or nothing on an empty queue. -/
theorem makes_step {s t : State} (e : step s = .next t) : Makes s t := by
  cases q : s.pending with
  | nil =>
    rw [step_empty q] at e
    obtain rfl := Host.Outcome.next.inj e
    exact .of_archive (by rw [idle_keeps]; rfl)
  | cons c rest =>
    rw [step_front q] at e
    exact makes_exec (s := { s with pending := rest }) e

/-! ### The outcome and the worst severity of a record that is made (R13, R156) -/

/-- What the roll's law and the verdict's law say of the slots that may be closed is what a record shows. -/
theorem Made.sound {s : State} {c : ClosingRecord} (roll : RollLaw s) (verdict : VerdictLaw s) (made : Made s.slot c) :
    RecordSound c := by
  unfold RecordSound
  cases made with
  | proving record =>
    obtain ⟨k, kind, outcome, worst⟩ := record
    obtain ⟨clean, -⟩ := verdict.proving k kind
    simp [outcome, worst, clean]
  | closes k o by_ shown test =>
    rw [shown.outcome, shown.worst, test]
    cases by_ with
    | stamped held =>
      have state : (s.slot k).state = .stamping := by simpa using held_cases ((roll.linkHolder k .L3).mp held)
      obtain ⟨below, pass⟩ := verdict.stamp k (.inr state)
      exact ⟨iff_of_false (by simp) below, fun _ => pass⟩
    | scrapped held =>
      have state : (s.slot k).state = .scrapping := by simpa using held_cases ((roll.linkHolder k .L4).mp held)
      exact ⟨iff_of_true rfl (verdict.scrap k (.inr state)), by simp⟩
    | withdrawn vacant below isOpen => exact ⟨iff_of_false (by simp) below, by simp⟩

/-- Settles O17: a record is an old one or is made of a slot that may be closed, whose state says what the record shows. -/
theorem stepKeepsRecordsLaw : Obligations.StepKeepsRecordsLaw := by
  intro s t roll verdict records e
  rw [recordsLaw_iff] at records ⊢
  exact fun c held => (makes_step e c held).elim (records c) (Made.sound roll verdict)

end Sys2Proof.Closing

namespace Sys2Proof.Closing

open Sys2Proof.Machine Sys2Proof.Safety Sys2Proof.Laws Sys2Proof.Roll

/-! ### CLAIM_STAMP (R146 to R148) -/

/-- The items of CLAIM_STAMP as they are sent (R147). -/
theorem claimStampItems_sent (u : State) (k : SlotId) :
    let x := u.slot k
    claimStampItems u k =
      sent1 k.val ++ sentOr 16 (fun i => sentText 16 i.serial) x.ident ++
      sentOr 8 (fun t => sentText 8 t.fields.name) (x.ident.bind fun i => (u.typeEntry i.typeIdx).loaded) ++
      sentOr 14 (fun p => sentText 12 p.line ++ sentMonth p.due) x.stamp ++
      sentOr 1 (fun r => sentYes (r.star = true)) x.test ++ sentOr 3 sentDate (x.test.bind TestRecord.date) ++
      sentOr 1 (fun r => sent1 r.attempt) x.test := by
  simp only [claimStampItems, Slot.serialBytes, State.nameBytes, opt_eq_sentOr, sentOr_typeOfSlot, yesNo_eq_sentYes]
  rfl

/-- The composer's line and due date for a slot with a dated test and a LOADED type (R115, R146). -/
theorem compose_eq {s : State} {x : Slot} {r : TestRecord} {d : Date} {ty : TypeFields} (test : x.test = some r)
    (date : r.date = some d) (type : s.typeOfSlot x = some ty) :
    s.compose x = some ⟨stampLine s.mark d r.star, dueDate d (if r.star then ty.starInterval else ty.interval)⟩ := by
  simp [State.compose, test, date, type]

/-- A stamp claim taken, as one write of the slot (R147). -/
theorem takeStampClaim_eq {l : LinkId} {k : SlotId} {s : State} {p : Stamp} (composed : s.compose (s.slot k) = some p) :
    takeStampClaim l k s =
      s.setSlot k { s.slot k with state := .stamping, holder := some (.link l), stamp := some p } := by
  have unread : s.compose { s.slot k with state := .stamping, holder := some (.link l) } = some p := composed
  simp [takeStampClaim, unread]

section
variable (mark : Text) (d : Date) (star : Bool)

/-- A mark of up to four characters gives a line of ten, and the star two more (R146). -/
theorem length_stampLine (short : mark.length ≤ 4) : (stampLine mark d star).length = if star then 12 else 10 := by
  have padded : (padRight 4 mark).length = 4 := by
    rw [padRight, List.length_append, List.length_replicate]
    omega
  cases star <;> simp [stampLine, padded, twoDigits]

theorem inDieSet_digit {n : Nat} (h : n < 10) : inDieSet (BitVec.ofNat 8 (0x30 + n)) = true := by
  interval_cases n <;> decide

theorem inDieSet_twoDigits (n : Nat) : ∀ b ∈ twoDigits n, inDieSet b = true := by
  simp only [twoDigits, List.mem_cons, List.not_mem_nil, or_false, forall_eq_or_imp, forall_eq]
  exact ⟨inDieSet_digit (Nat.mod_lt _ (by decide)), inDieSet_digit (Nat.mod_lt _ (by decide))⟩

/-- The dies strike every character of a line whose mark they strike (R34, R146). -/
theorem inDieSet_stampLine (struck : ∀ b ∈ mark, inDieSet b = true) : ∀ b ∈ stampLine mark d star, inDieSet b = true := by
  have space : inDieSet spaceChar = true := by decide
  have padded : ∀ b ∈ padRight 4 mark, inDieSet b = true := by
    simp only [padRight, List.mem_append, List.mem_replicate]
    rintro b (m | ⟨-, rfl⟩)
    · exact struck b m
    · exact space
  have starred : ∀ b ∈ (if star then [spaceChar, 0x2A] else [] : Text), inDieSet b = true := by cases star <;> decide
  simp only [stampLine, List.forall_mem_append, List.forall_mem_singleton]
  exact ⟨⟨⟨⟨⟨padded, space⟩, inDieSet_twoDigits _⟩, by decide⟩, inDieSet_twoDigits _⟩, starred⟩

end

/-- What CLAIM_STAMP's block does with a bound carrier: the checks of a claim, then NO_DATE, then the claim taken (R147). -/
theorem takeClaimStamp_bound {s : State} {l : LinkId} {c : Nat} {k : SlotId} (bound : s.bound c = some k) :
    takeClaimStamp l c s =
      if (s.slot k).holder = some (.link l) then (s, okWith (claimStampItems s k))
      else if (s.slot k).holder ≠ none then (s, refusal .held)
      else if (s.slot k).state = .awaitStamp then
        if s.calendar = none then (s, refusal .noDate)
        else (takeStampClaim l k s, okWith (claimStampItems (takeStampClaim l k s) k))
      else (s, refusal .state) :=
  claimCheck_cases _ _ bound

/-- Settles O44: the checks of the block one after the other, and the claim taken as one write of the slot. -/
theorem stampClaimComposesTheLine : Obligations.StampClaimComposesTheLine := by
  refine ⟨claimStampItems_sent, fun s c k can bound => ?_⟩
  have block := takeClaimStamp_bound (s := heard s .L3) (l := .L3) (c := c) (k := k) bound
  rw [heard_slot, heard_calendar] at block
  have refused {st : Status} (check : takeClaimStamp .L3 c (heard s .L3) = (heard s .L3, refusal st)) :
      exec (.claimStamp .L3 (.fields c)) s = .next (refusedWith s .L3 29 st) :=
    request_refused .claimStamp c (takeClaimStamp .L3) can rfl st check
  have taken {t : State} {body : List Byte} (check : takeClaimStamp .L3 c (heard s .L3) = (t, okWith body)) :
      exec (.claimStamp .L3 (.fields c)) s = .next (answered t .L3 29 .ok body) :=
    request_ok .claimStamp c (takeClaimStamp .L3) body can rfl check
  refine ⟨fun own => taken ?_, fun held other => refused ?_, fun free state => refused ?_, fun free state date => refused ?_, ?_⟩
  · rw [block, if_pos own]
    rfl
  · rw [block, if_neg other, if_pos held]
  · rw [block, free, if_neg (by simp), if_neg (by simp), if_neg state]
  · rw [block, free, if_neg (by simp), if_neg (by simp), if_pos state, if_pos date]
  · intro r d ty free state date test dated type
    have composed : (heard s .L3).compose ((heard s .L3).slot k) = some _ := compose_eq test dated type
    refine ⟨taken ?_, length_stampLine s.mark d r.star, inDieSet_stampLine s.mark d r.star⟩
    rw [block, free, if_neg (by simp), if_neg (by simp), if_pos state, if_neg date, takeStampClaim_eq composed]
    rfl

/-! ### STAMPED, SCRAPPED and WITHDRAW (R142, R149, R152) -/

/-- The scrap reason is the code of the first stored CONDEMN, or UNLISTED (R151). -/
theorem scrapReason_eq (x : Slot) :
    x.scrapReason = (((x.findings.filter fun f => decide (f.severity = .condemn)).head?.map Finding.code).getD 209) := by
  rw [Slot.scrapReason, reasonFinding_eq]

theorem methodByte_sent (m : ScrapMethod) : u8 (methodByte m) = sentPlace [ScrapMethod.cut, .crush, .punch] m := by
  cases m <;> rfl

theorem withdrawable_iff (x : SlotState) : x.withdrawable = true ↔ x ∈ [.admitted, .awaitTest, .referred, .awaitStamp] := by
  simp [SlotState.withdrawable]

section
variable {s : State} {c : Nat} {k : SlotId} (bound : s.bound c = some k)
include bound

/-- STAMPED of the slot that L3 holds (R149). -/
theorem takeStamped_held (held : (s.slot k).holder = some (.link .L3)) :
    takeStamped .L3 c s =
      (closeSlot k .stamped s,
       okWith (u8 k.val ++ u8 1 ++ sentOr 14 (fun p => sentText 12 p.line ++ sentMonth p.due) (s.slot k).stamp)) := by
  rw [takeStamped, asHolder_held _ bound held, opt_eq_sentOr]
  rfl

/-- SCRAPPED of the slot that L4 holds, its method outside the list (R152). -/
theorem takeScrapped_noMethod (held : (s.slot k).holder = some (.link .L4)) :
    takeScrapped .L4 ⟨c, none⟩ s = (s, refusal .field) := asHolder_held _ bound held

/-- SCRAPPED of the slot that L4 holds: the method is written, then the slot closes (R152). -/
theorem takeScrapped_method (d : ScrapMethod) (held : (s.slot k).holder = some (.link .L4)) :
    takeScrapped .L4 ⟨c, some d⟩ s =
      (closeSlot k .scrapped (s.setSlot k { s.slot k with method := some d }),
       okWith (u8 k.val ++ u8 2 ++ sentPlace [ScrapMethod.cut, .crush, .punch] d ++
         sent1 ((((s.slot k).findings.filter fun f => decide (f.severity = .condemn)).head?.map Finding.code).getD 209))) := by
  rw [← methodByte_sent, ← scrapReason_eq]
  exact asHolder_held _ bound held

/-- WITHDRAW of a slot that fails a check of a withdrawal (R13). -/
theorem takeWithdraw_refused {st : Status} (check : withdrawalCheck (s.slot k) = some st) :
    takeWithdraw c s = (s, refusal st) := by
  rw [takeWithdraw, onCarrier_some _ bound]
  simp only [check]

/-- WITHDRAW of a slot that passes them: STATE, or the closing (R142). -/
theorem takeWithdraw_passed (check : withdrawalCheck (s.slot k) = none) :
    takeWithdraw c s =
      if (s.slot k).state ∈ [.admitted, .awaitTest, .referred, .awaitStamp] then
        (closeSlot k .withdrawn s, okWith (u8 k.val ++ u8 3))
      else (s, refusal .state) := by
  rw [takeWithdraw, onCarrier_some _ bound]
  simp only [check, withdrawable_iff]
  rfl

end

/-- Settles O27: the checks of each block in their order, and the closing of a slot that passes them. -/
theorem completionsCloseTheSlot : Obligations.CompletionsCloseTheSlot := by
  intro s c k bound
  have bound (l : LinkId) : (heard s l).bound c = some k := bound
  refine ⟨fun can => ?stamped, fun can m => ?scrapped, fun can => ?withdraw⟩
  case stamped =>
    exact ⟨fun other => request_refused .stamped c (takeStamped .L3) can rfl .notHolder (asHolder_other _ (bound .L3) other),
      fun held => request_ok .stamped c (takeStamped .L3) _ can rfl (takeStamped_held (bound .L3) held)⟩
  case scrapped =>
    refine ⟨fun other => ?_, fun held => ?_⟩
    · exact request_refused .scrapped ⟨c, m⟩ (takeScrapped .L4) can rfl .notHolder (asHolder_other _ (bound .L4) other)
    · cases m with
      | none => exact request_refused .scrapped ⟨c, none⟩ (takeScrapped .L4) can rfl .field (takeScrapped_noMethod (bound .L4) held)
      | some d => exact request_ok .scrapped ⟨c, some d⟩ (takeScrapped .L4) _ can rfl (takeScrapped_method (bound .L4) d held)
  case withdraw =>
    refine ⟨fun held => ?_, fun free worst => ?_, fun free below => ?_⟩
    · exact request_refused .withdraw c takeWithdraw can rfl .held
        (takeWithdraw_refused (bound .L0) (Supervisor.withdrawalCheck_held held))
    · exact request_refused .withdraw c takeWithdraw can rfl .condemned
        (takeWithdraw_refused (bound .L0) ((Supervisor.withdrawalCheck_free free).trans (if_pos worst)))
    · have passed := takeWithdraw_passed (bound .L0) ((Supervisor.withdrawalCheck_free free).trans (if_neg below))
      exact ⟨fun state => request_refused .withdraw c takeWithdraw can rfl .state (passed.trans (if_neg state)),
        fun state => request_ok .withdraw c takeWithdraw _ can rfl (passed.trans (if_pos state))⟩

end Sys2Proof.Closing

/-! ## The archive pages (chapter 9) -/

namespace Sys2Proof.Pages

open Sys2Proof.Machine Sys2Proof.Safety Sys2Proof.Laws Sys2Proof.Roll Sys2Proof.Closing

/-! ### Record numbers (R42, R162) -/

theorem followedBy_nextNumber (n : Nat) : followedBy n (nextNumber n) := by
  unfold followedBy nextNumber
  split_ifs <;> rfl

theorem nextNumber_range {n : Nat} (h : 1 ≤ n ∧ n ≤ 99999999) : 1 ≤ nextNumber n ∧ nextNumber n ≤ 99999999 := by
  unfold nextNumber Config.maxRecord
  split_ifs <;> omega

theorem runsTo_tail {a n : Nat} {xs : List Nat} (h : RunsTo (a :: xs) n) : RunsTo xs n := by
  cases xs with
  | nil => trivial
  | cons b xs => exact h.2

/-- A stretch of numbers may start later. -/
theorem runsTo_of_append {xs ys : List Nat} {n : Nat} (h : RunsTo (xs ++ ys) n) : RunsTo ys n := by
  induction xs with
  | nil => exact h
  | cons a xs ih => exact ih (runsTo_tail h)

/-- Numbers that run on to the counter run on over the counter's own. -/
theorem runsTo_enter {xs : List Nat} {n : Nat} (h : RunsTo xs n) : RunsTo (xs ++ [n]) (nextNumber n) := by
  induction xs with
  | nil => exact followedBy_nextNumber n
  | cons a xs ih =>
    cases xs with
    | nil => exact ⟨h, followedBy_nextNumber n⟩
    | cons b xs => exact ⟨h.1, ih h.2⟩

/-! ### The FILLING page (R163) -/

theorem fillingPage_some {s : State} {p : PageId} (h : s.fillingPage = some p) : (s.page p).state = .filling := by
  unfold State.fillingPage at h
  split_ifs at h with a b <;> obtain rfl := Option.some.inj h
  · exact a
  · exact b

theorem fillingPage_none {s : State} : s.fillingPage = none ↔ ∀ p, (s.page p).state ≠ .filling := by
  constructor
  · intro h p
    unfold State.fillingPage at h
    split_ifs at h with a b
    cases p with
    | A => exact a
    | B => exact b
  · intro h
    have a : s.pageA.state ≠ .filling := h .A
    have b : s.pageB.state ≠ .filling := h .B
    rw [State.fillingPage, if_neg a, if_neg b]

/-! ### The shelf -/

/-- What the pages' law reads: the pages, their marker and their counter (R160, R161, R42). -/
structure Shelf where
  pages : PageId → Page
  presented : Option PageId
  counter : Nat

/-- That part of a state. -/
def shelf (s : State) : Shelf := ⟨s.page, s.presented, s.recordCounter⟩

theorem shelf_of_archive {s t : State} (same : archive t = archive s) : shelf t = shelf s :=
  congrArg (fun a : Archive => ({ pages := a.pages, presented := a.presented, counter := a.counter } : Shelf)) same

theorem shelf_reporting (f : State → State) (s : State) : shelf (reporting f s) = shelf (f s) :=
  shelf_of_archive (archive_reporting s f)

theorem pagesLaw_of_shelf {s t : State} (same : shelf t = shelf s) (law : PagesLaw s) : PagesLaw t := by
  have pages : t.page = s.page := congrArg Shelf.pages same
  have pageA : t.pageA = s.pageA := congrFun pages .A
  have pageB : t.pageB = s.pageB := congrFun pages .B
  have presented : t.presented = s.presented := congrArg Shelf.presented same
  have counter : t.recordCounter = s.recordCounter := congrArg Shelf.counter same
  unfold PagesLaw at law ⊢
  rw [pages, pageA, pageB, presented, counter]
  exact law

theorem fillingPage_of_shelf {s t : State} (same : shelf t = shelf s) : t.fillingPage = s.fillingPage := by
  have pageA : t.pageA = s.pageA := congrFun (congrArg Shelf.pages same) .A
  have pageB : t.pageB = s.pageB := congrFun (congrArg Shelf.pages same) .B
  rw [State.fillingPage, State.fillingPage, pageA, pageB]

/-- The combinations of R162 with their marker (R161) and the order of their records, said of either page: no page presented,
one FILLING and the other EMPTY; or a FINISHED page presented, its records before those of the other, which is not EMPTY. -/
inductive Standing (s : State) : Prop
  | unpresented (p : PageId) (marked : s.presented = none) (filling : (s.page p).state = .filling)
      (empty : (s.page p.other).state = .empty)
      (runs : RunsTo (pageNumbers (s.page p)) s.recordCounter)
  | presented (p : PageId) (marked : s.presented = some p) (finished : (s.page p).state = .finished)
      (other : (s.page p.other).state ≠ .empty)
      (runs : RunsTo (pageNumbers (s.page p) ++ pageNumbers (s.page p.other)) s.recordCounter)

theorem pageSound_empty {x : Page} (sound : PageSound x) (state : x.state = .empty) : x.records = [] := by
  have held := sound.2
  rwa [state] at held

theorem pageNumbers_nil {x : Page} (none : x.records = []) : pageNumbers x = [] := by
  rw [pageNumbers, none]
  rfl

theorem pageNumbers_empty {x : Page} (sound : PageSound x) (state : x.state = .empty) : pageNumbers x = [] :=
  pageNumbers_nil (pageSound_empty sound state)

theorem length_of_filling {x : Page} (sound : PageSound x) (state : x.state = .filling) : x.records.length < 8 := by
  have held := sound.2
  rwa [state] at held

/-- The pages' law, said of either page. -/
theorem pagesLaw_iff (s : State) :
    PagesLaw s ↔
      (∀ p, PageSound (s.page p)) ∧ (1 ≤ s.recordCounter ∧ s.recordCounter ≤ 99999999) ∧ Standing s := by
  have pages : (PageSound s.pageA ∧ PageSound s.pageB) ↔ ∀ p, PageSound (s.page p) :=
    ⟨fun ⟨a, b⟩ p => by cases p with | A => exact a | B => exact b, fun h => ⟨h .A, h .B⟩⟩
  unfold PagesLaw
  rw [← and_assoc, pages, ← and_assoc (a := 1 ≤ _)]
  refine and_congr_right fun sound => and_congr_right fun _ => ?_
  cases marked : s.presented with
  | some p =>
    constructor
    · rintro ⟨finished, other, runs⟩
      exact .presented p marked finished other runs
    · rintro (⟨p, none, -, -, -⟩ | ⟨q, some, finished, other, runs⟩)
      · cases marked.symm.trans none
      · obtain rfl := Option.some.inj (marked.symm.trans some)
        exact ⟨finished, other, runs⟩
  | none =>
    have append (filling : s.pageA.state = .filling ∧ s.pageB.state = .empty) :
        pageNumbers s.pageA ++ pageNumbers s.pageB = pageNumbers s.pageA := by
      rw [show pageNumbers s.pageB = [] from pageNumbers_empty (sound .B) filling.2, List.append_nil]
    have prepend (filling : s.pageA.state = .empty ∧ s.pageB.state = .filling) :
        pageNumbers s.pageA ++ pageNumbers s.pageB = pageNumbers s.pageB := by
      rw [show pageNumbers s.pageA = [] from pageNumbers_empty (sound .A) filling.1, List.nil_append]
    constructor
    · rintro ⟨filling | filling, runs⟩
      · rw [append filling] at runs
        exact .unpresented .A marked filling.1 filling.2 runs
      · rw [prepend filling] at runs
        exact .unpresented .B marked filling.2 filling.1 runs
    · rintro (⟨p, -, filling, empty, runs⟩ | ⟨q, some, -, -, -⟩)
      · cases p with
        | A =>
          refine ⟨.inl ⟨filling, empty⟩, ?_⟩
          rw [append ⟨filling, empty⟩]
          exact runs
        | B =>
          refine ⟨.inr ⟨empty, filling⟩, ?_⟩
          rw [prepend ⟨empty, filling⟩]
          exact runs
      · cases marked.symm.trans some

/-! ### The page that takes records

Between a record's entry and the finish that an eighth one brings about, the FILLING page may be full. -/

/-- The page is FILLING, full or not, and stands in order with the other page, which is EMPTY, or FINISHED and presented with
its records before (R161, R162). -/
structure Takes (s : State) (p : PageId) : Prop where
  filling : (s.page p).state = .filling
  first : (s.page p).first = (pageNumbers (s.page p)).head?
  room : (s.page p).records.length ≤ 8
  other : PageSound (s.page p.other)
  counter : 1 ≤ s.recordCounter ∧ s.recordCounter ≤ 99999999
  order : (s.presented = none ∧ (s.page p.other).state = .empty) ∨
    (s.presented = some p.other ∧ (s.page p.other).state = .finished)
  runs : RunsTo (pageNumbers (s.page p.other) ++ pageNumbers (s.page p)) s.recordCounter

/-- Every page is the one or the other. -/
theorem eq_or_other (p q : PageId) : q = p ∨ q = p.other := by cases p <;> cases q <;> simp [PageId.other]

/-- A FILLING page of a lawful archive takes records, and is not full. -/
theorem takes_of_law {s : State} {p : PageId} (law : PagesLaw s) (filling : (s.page p).state = .filling) :
    Takes s p ∧ (s.page p).records.length < 8 := by
  obtain ⟨sound, counter, standing⟩ := (pagesLaw_iff s).mp law
  have room := length_of_filling (sound p) filling
  refine ⟨?_, room⟩
  have stands := Takes.mk (s := s) filling (sound p).1 room.le (sound p.other) counter
  cases standing with
  | unpresented q marked takes empty runs =>
    obtain rfl | rfl := eq_or_other q p
    · refine stands (.inl ⟨marked, empty⟩) ?_
      rw [pageNumbers_empty (sound p.other) empty]
      exact runs
    · cases filling.symm.trans empty
  | presented q marked finished other runs =>
    obtain rfl | rfl := eq_or_other q p
    · cases filling.symm.trans finished
    · rw [← PageId.other_other q] at marked finished
      exact stands (.inr ⟨marked, finished⟩) (by rwa [PageId.other_other])

/-- A page that takes records and is not full stands in a lawful archive. -/
theorem Takes.law {s : State} {p : PageId} (takes : Takes s p) (room : (s.page p).records.length < 8) : PagesLaw s := by
  obtain ⟨filling, first, -, other, counter, order, runs⟩ := takes
  refine (pagesLaw_iff s).mpr ⟨fun q => ?_, counter, ?_⟩
  · obtain rfl | rfl := eq_or_other p q
    · refine ⟨first, ?_⟩
      rw [show (s.page q).state = .filling from filling]
      exact room
    · exact other
  · obtain ⟨marked, empty⟩ | ⟨marked, finished⟩ := order
    · rw [pageNumbers_empty other empty] at runs
      exact .unpresented p marked filling empty runs
    · refine .presented p.other marked finished ?_ ?_ <;> rw [PageId.other_other]
      · rw [filling]
        decide
      · exact runs

/-! ### What the operations do to the pages (R163, R164, R167) -/

section
variable (s : State) (p : PageId)

/-- A page with one record more: its first number is its first record's (R163). -/
def withRecord (r : PageRecord) (x : Page) : Page :=
  { x with records := x.records ++ [r], first := if x.records = [] then some r.number else x.first }

theorem enterPage_page (c : ClosingRecord) :
    (enterPage p c s).page p = withRecord ⟨s.recordCounter, s.manualDate, c⟩ (s.page p) := by
  simp only [withRecord, ← List.isEmpty_iff]
  cases p <;> rfl

theorem enterPage_other (c : ClosingRecord) : (enterPage p c s).page p.other = s.page p.other := by cases p <;> rfl

theorem enterPage_presented (c : ClosingRecord) : (enterPage p c s).presented = s.presented := by cases p <;> rfl

/-- A page finished, before the other page may take records: the marker names it if it named none (R161, R164). -/
def markFinished (p : PageId) (s : State) : State :=
  { s.setPage p { s.page p with state := .finished } with
    presented := if s.presented = none then some p else s.presented }

theorem finishChanges_eq :
    finishChanges p s =
      if (s.page p.other).state = .empty then (markFinished p s).setPage p.other { s.page p.other with state := .filling }
      else markFinished p s := by cases p <;> rfl

theorem finishChanges_page : (finishChanges p s).page p = { s.page p with state := .finished } := by
  rw [finishChanges_eq]
  split_ifs <;> cases p <;> rfl

theorem finishChanges_other : (finishChanges p s).page p.other =
    if (s.page p.other).state = .empty then { s.page p.other with state := .filling } else s.page p.other := by
  rw [finishChanges_eq]
  split_ifs <;> cases p <;> rfl

theorem finishChanges_presented :
    (finishChanges p s).presented = if s.presented = none then some p else s.presented := by
  rw [finishChanges_eq]
  split_ifs <;> cases p <;> simp [markFinished, *]

theorem finishChanges_counter : (finishChanges p s).recordCounter = s.recordCounter := by
  rw [finishChanges_eq]
  split_ifs <;> cases p <;> rfl

theorem turnChanges_page :
    (turnChanges p s).page p = ⟨if s.fillingPage = none then .filling else .empty, [], none⟩ := by cases p <;> rfl

theorem turnChanges_other : (turnChanges p s).page p.other = s.page p.other := by cases p <;> rfl

theorem turnChanges_counter : (turnChanges p s).recordCounter = s.recordCounter := by cases p <;> rfl

end

theorem pageNumbers_withRecord (r : PageRecord) (x : Page) : pageNumbers (withRecord r x) = pageNumbers x ++ [r.number] := by
  simp [pageNumbers, withRecord]

/-- A page's first number stays its first record's when a record enters (R163). -/
theorem first_withRecord {r : PageRecord} {x : Page} (first : x.first = (pageNumbers x).head?) :
    (withRecord r x).first = (pageNumbers (withRecord r x)).head? := by
  rw [pageNumbers_withRecord]
  cases records : x.records with
  | nil => simp [withRecord, pageNumbers, records]
  | cons a rest => simpa [withRecord, pageNumbers, records] using first

/-- A page that is not full takes a record, and may be full then (R163). -/
theorem Takes.enter {s : State} {p : PageId} (takes : Takes s p) (room : (s.page p).records.length < 8)
    (c : ClosingRecord) : Takes (enterPage p c s) p := by
  obtain ⟨filling, first, -, other, counter, order, runs⟩ := takes
  have next : (enterPage p c s).recordCounter = nextNumber s.recordCounter := by cases p <;> rfl
  constructor <;> simp only [enterPage_page, enterPage_other, enterPage_presented, next]
  case filling => exact filling
  case first => exact first_withRecord first
  case room => simpa [withRecord] using room
  case other => exact other
  case counter => exact nextNumber_range counter
  case order => exact order
  case runs =>
    rw [pageNumbers_withRecord, ← List.append_assoc]
    exact runsTo_enter runs

/-- What the pages' law asks for is a sound page and a sound other. -/
theorem pageSound_each {s : State} {p : PageId} (here : PageSound (s.page p)) (other : PageSound (s.page p.other)) (q : PageId) :
    PageSound (s.page q) := by
  obtain rfl | rfl := eq_or_other p q
  · exact here
  · exact other

/-- A page that takes records and holds some is finished: the other page becomes FILLING if it was EMPTY, and the marker
names the older of the two (R161, R164, R168). -/
theorem Takes.finish {s : State} {p : PageId} (takes : Takes s p) (holds : (s.page p).records ≠ []) :
    PagesLaw (finishChanges p s) := by
  obtain ⟨filling, first, room, other, counter, order, runs⟩ := takes
  have here : PageSound ((finishChanges p s).page p) := by
    rw [finishChanges_page]
    exact ⟨first, List.length_pos_iff.mpr holds, room⟩
  have counter : 1 ≤ (finishChanges p s).recordCounter ∧ (finishChanges p s).recordCounter ≤ 99999999 := by
    rwa [finishChanges_counter]
  rw [pagesLaw_iff]
  obtain ⟨marked, state⟩ | ⟨marked, state⟩ := order
  · have opened : (finishChanges p s).page p.other = { s.page p.other with state := .filling } := by
      rw [finishChanges_other, if_pos state]
    have empty : (s.page p.other).records = [] := pageSound_empty other state
    refine ⟨pageSound_each here ?sound, counter, .presented p ?_ ?_ ?_ ?runs⟩
    case sound =>
      rw [opened]
      exact ⟨other.1, by simp [empty]⟩
    case runs =>
      have none : pageNumbers { s.page p.other with state := .filling } = [] := pageNumbers_nil empty
      rw [finishChanges_page, opened, finishChanges_counter, none, List.append_nil]
      exact runsTo_of_append runs
    · rw [finishChanges_presented, if_pos marked]
    · rw [finishChanges_page]
    · simp [opened]
  · have stands : (finishChanges p s).page p.other = s.page p.other := by
      rw [finishChanges_other, if_neg (by rw [state]; decide)]
    refine ⟨pageSound_each here (by rwa [stands]), counter, .presented p.other ?_ ?_ ?_ ?runs⟩
    case runs =>
      rw [PageId.other_other, finishChanges_page, stands, finishChanges_counter]
      exact runs
    · rw [finishChanges_presented, if_neg (by simp [marked]), marked]
    · rwa [stands]
    · simp [finishChanges_page]

section
variable {s : State} {p : PageId}

theorem turnChanges_presented :
    (turnChanges p s).presented = if (s.page p.other).state = .finished then some p.other else none := rfl

/-- A page turned while the other is FINISHED: no page was FILLING, so it takes records itself, behind the other (R167). -/
theorem takes_turned (sound : PageSound (s.page p.other)) (counter : 1 ≤ s.recordCounter ∧ s.recordCounter ≤ 99999999)
    (blocked : s.fillingPage = none) (finished : (s.page p.other).state = .finished)
    (runs : RunsTo (pageNumbers (s.page p.other)) s.recordCounter) : Takes (turnChanges p s) p := by
  have emptied : (turnChanges p s).page p = ⟨.filling, [], none⟩ := by rw [turnChanges_page, if_pos blocked]
  constructor <;> simp only [emptied, turnChanges_other, turnChanges_counter, turnChanges_presented, if_pos finished]
  case first => rfl
  case room => exact Nat.zero_le 8
  case other => exact sound
  case counter => exact counter
  case order => exact .inr ⟨trivial, finished⟩
  case runs =>
    show RunsTo (_ ++ []) _
    rwa [List.append_nil]

/-- A page turned while the other is FILLING: it is EMPTY, and the other goes on taking records (R167). -/
theorem takes_beside_turned (sound : PageSound (s.page p.other)) (counter : 1 ≤ s.recordCounter ∧ s.recordCounter ≤ 99999999)
    (filling : (s.page p.other).state = .filling) (runs : RunsTo (pageNumbers (s.page p.other)) s.recordCounter) :
    Takes (turnChanges p s) p.other := by
  have busy : s.fillingPage ≠ none := fun none => fillingPage_none.mp none p.other filling
  have emptied : (turnChanges p s).page p.other.other = ⟨.empty, [], none⟩ := by
    rw [PageId.other_other, turnChanges_page, if_neg busy]
  have unmarked : (turnChanges p s).presented = none := by rw [turnChanges_presented, if_neg (by simp [filling])]
  constructor <;> simp only [emptied, turnChanges_other, turnChanges_counter, unmarked]
  case filling => exact filling
  case first => exact sound.1
  case room => exact (length_of_filling sound filling).le
  case other => exact ⟨rfl, rfl⟩
  case counter => exact counter
  case order => exact .inl ⟨trivial, trivial⟩
  case runs => exact runs

/-- A turn empties the presented page, the older of the two: the other page takes records alone, or it is presented and the
emptied page takes records (R161, R167). -/
theorem pagesLaw_turnChanges (law : PagesLaw s) (marked : s.presented = some p) : PagesLaw (turnChanges p s) := by
  obtain ⟨sound, counter, standing⟩ := (pagesLaw_iff s).mp law
  cases standing with
  | unpresented q none => cases marked.symm.trans none
  | presented q named finished other runs =>
    obtain rfl := Option.some.inj (marked.symm.trans named)
    have runs := runsTo_of_append runs
    cases state : (s.page p.other).state with
    | empty => exact (other state).elim
    | filling =>
      refine (takes_beside_turned (sound _) counter state runs).law ?_
      rw [turnChanges_other]
      exact length_of_filling (sound _) state
    | finished =>
      have blocked : s.fillingPage = none := fillingPage_none.mpr fun q => by
        obtain rfl | rfl := eq_or_other p q <;> simp [finished, state]
      refine (takes_turned (sound _) counter blocked state runs).law ?_
      rw [turnChanges_page]
      exact Nat.zero_lt_succ 7

end

theorem pagesLaw_finishPageOp {s : State} {p : PageId} (law : PagesLaw (finishChanges p s)) : PagesLaw (finishPageOp p s) :=
  pagesLaw_of_shelf ((shelf_of_archive (archive_raise _ _)).trans (shelf_reporting _ s)) law

theorem shelf_freeSlot (k : SlotId) (rest : List SlotId) (s : State) : shelf (freeSlot k rest s) = shelf s :=
  shelf_reporting _ s

theorem page_freeSlot (k : SlotId) (rest : List SlotId) (s : State) : (freeSlot k rest s).page = s.page :=
  congrArg Shelf.pages (shelf_freeSlot k rest s)

/-- Being in order to take records is read from the shelf. -/
theorem Takes.of_shelf {s t : State} {p : PageId} (same : shelf t = shelf s) (takes : Takes s p) : Takes t p := by
  have pages : t.page = s.page := congrArg Shelf.pages same
  have presented : t.presented = s.presented := congrArg Shelf.presented same
  have counter : t.recordCounter = s.recordCounter := congrArg Shelf.counter same
  obtain ⟨filling, first, room, other, range, order, runs⟩ := takes
  constructor <;> simpa only [pages, presented, counter]

/-- A record moved onto the FILLING page keeps the pages' law: an eighth finishes the page at once (R163, R164). -/
theorem pagesLaw_moveOne {s : State} {p : PageId} (law : PagesLaw s) (filling : s.fillingPage = some p) (k : SlotId)
    (c : ClosingRecord) (rest : List SlotId) : PagesLaw (moveOne p k c rest s) := by
  obtain ⟨takes, room⟩ := takes_of_law law (fillingPage_some filling)
  have entered : Takes (freeSlot k rest (enterPage p c s)) p := (takes.enter room c).of_shelf (shelf_freeSlot k rest _)
  rw [moveOne_eq]
  dsimp only
  split_ifs with full
  · exact pagesLaw_finishPageOp (entered.finish fun none => by simp [none] at full)
  · exact entered.law (Nat.lt_of_not_le full)

/-- Moving records keeps the pages' law (R163). -/
theorem pagesLaw_moveRecords {s : State} (law : PagesLaw s) : PagesLaw (moveRecords s) := by
  suffices ∀ n s, PagesLaw s → PagesLaw (moveUpTo n s) from this _ s law
  intro n
  induction n with
  | zero => exact fun s law => law
  | succ n ih =>
    intro s law
    unfold moveUpTo
    split
    · split
      · exact ih _ (pagesLaw_moveOne law ‹_› _ _ _)
      · exact law
    · exact law

end Sys2Proof.Pages

namespace Sys2Proof.Pages

open Sys2Proof.Machine Sys2Proof.Safety Sys2Proof.Laws Sys2Proof.Roll Sys2Proof.Closing

/-! ### The closing queue drains (R163) -/

/-- The slots that wait in the closing queue are different slots, each with its record. -/
def Waits (s : State) : Prop := s.closingQueue.Nodup ∧ ∀ k ∈ s.closingQueue, (s.slot k).closing.isSome = true

theorem waits_of_roll {s : State} (roll : RollLaw s) : Waits s :=
  ⟨roll.closingOnce, fun k waiting => (roll.record k).mpr ((roll.closing k).mp waiting)⟩

theorem closingQueue_of_view {s t : State} (same : view t = view s) : t.closingQueue = s.closingQueue :=
  congrArg RollView.closing same

theorem closingQueue_moveOne (p : PageId) (k : SlotId) (c : ClosingRecord) (rest : List SlotId) (s : State) :
    (moveOne p k c rest s).closingQueue = rest := congrArg RollView.closing (view_moveOne p k c rest s)

/-- What waits behind the slot that gives its record still waits. -/
theorem waits_moveOne {s : State} {k : SlotId} {rest : List SlotId} (waits : Waits s) (queue : s.closingQueue = k :: rest)
    (p : PageId) (c : ClosingRecord) : Waits (moveOne p k c rest s) := by
  obtain ⟨once, records⟩ := waits
  rw [queue] at once records
  obtain ⟨new, once⟩ := List.nodup_cons.mp once
  refine ⟨by rwa [closingQueue_moveOne], fun j waiting => ?_⟩
  rw [closingQueue_moveOne] at waiting
  have other : j ≠ k := fun e => new (e ▸ waiting)
  have stands : (moveOne p k c rest s).slot j = s.slot j := by
    rw [← view_slots, view_moveOne]
    simp [RollView.free, other]
  rw [stands]
  exact records j (List.mem_cons_of_mem k waiting)

/-- The moving ends with the queue empty or no page FILLING. -/
theorem drainLaw_moveRecords {s : State} (waits : Waits s) : DrainLaw (moveRecords s) := by
  suffices ∀ n s, s.closingQueue.length ≤ n → Waits s → DrainLaw (moveUpTo n s) from this _ s le_rfl waits
  intro n
  induction n with
  | zero => exact fun s short _ _ => List.length_eq_zero_iff.mp (Nat.le_zero.mp short)
  | succ n ih =>
    intro s short waits
    unfold moveUpTo
    split
    · rename_i p k rest _ queue
      split
      · refine ih _ ?_ (waits_moveOne waits queue p _)
        rw [closingQueue_moveOne]
        simpa [queue] using short
      · rename_i record
        have waiting := waits.2 k (by simp [queue])
        rw [record] at waiting
        cases waiting
    · rename_i stops
      intro filling
      obtain ⟨p, takes⟩ := Option.ne_none_iff_exists'.mp filling
      cases queue : s.closingQueue with
      | nil => rfl
      | cons k rest => exact (stops p k rest takes queue).elim

/-- While the queue is empty or no page is FILLING, there is nothing to move. -/
theorem moveRecords_of_drainLaw {s : State} (drain : DrainLaw s) : moveRecords s = s := by
  by_cases filling : s.fillingPage = none
  · exact moveUpTo_blocked _ s filling
  · exact moveUpTo_empty _ s (drain filling)

/-! ### Closing and routing (R12, R14) -/

theorem shelf_setAside (k : SlotId) (o : ClosingOutcome) (s : State) : shelf (setAside k o s) = shelf s := by
  rw [setAside_keeps]
  rfl

theorem pagesLaw_closeSlot {s : State} (k : SlotId) (o : ClosingOutcome) (law : PagesLaw s) : PagesLaw (closeSlot k o s) :=
  pagesLaw_moveRecords (pagesLaw_of_shelf (shelf_setAside k o s) law)

/-- A slot with an identity closes: where a page is FILLING its record is alone in the queue, and moves. -/
theorem drainLaw_closeSlot {s : State} {k : SlotId} (o : ClosingOutcome) (ident : (s.slot k).ident.isSome = true)
    (drain : DrainLaw s) : DrainLaw (closeSlot k o s) := by
  rw [closeSlot_eq]
  by_cases filling : s.fillingPage = none
  · have blocked : (setAside k o s).fillingPage = none := (fillingPage_of_shelf (shelf_setAside k o s)).trans filling
    rw [moveRecords, moveUpTo_blocked _ _ blocked]
    exact fun busy => (busy blocked).elim
  · have alone : (setAside k o s).closingQueue = [k] := by
      rw [← view_closing, view_setAside, RollView.close, view_closing, drain filling, List.nil_append]
    have record : ((setAside k o s).slot k).closing = s.closingRecord (s.slot k) o := by
      rw [← view_slots, view_setAside]
      simp [RollView.close, closed]
    refine drainLaw_moveRecords ⟨by simp [alone], fun j waiting => ?_⟩
    obtain rfl : j = k := by simpa [alone] using waiting
    rw [record, closingRecord_isSome, ident]

/-- An ordinary slot is routed without a closing (R12). -/
theorem archive_applyOutcome {k : SlotId} {s : State} (kind : (s.slot k).isProving = false) :
    archive (applyOutcome k s) = archive s := by
  simp only [applyOutcome, kind, Bool.false_eq_true, if_false]
  split
  case h_3 => split_ifs <;> simp only [archive_enterUnheld, archive_enterReferred, archive_post]
  all_goals simp only [archive_enterAwaitStamp, archive_enterAwaitScrap, archive_enterUnheld]

theorem closing_of_routes {k : SlotId} {v w : RollView} (routes : Routes k v w) (kind : (v.slots k).isProving = false) :
    w.closing = v.closing := by
  cases routes with
  | proving _ was => rw [kind] at was; cases was
  | ordinary =>
    obtain ⟨-, e⟩ | ⟨-, e⟩ | ⟨-, -, e⟩ | ⟨-, -, -, e⟩ := v.routeOrdinary_cases k <;> rw [e] <;> rfl

/-! ### What keeps both laws, whatever the roll -/

/-- From the one state to the other both laws are kept. -/
structure Keeps (s t : State) : Prop where
  pages : PagesLaw s → PagesLaw t
  drain : DrainLaw s → DrainLaw t

namespace Keeps
variable {s t u : State}

theorem refl (s : State) : Keeps s s := ⟨id, id⟩

theorem trans (f : Keeps s t) (g : Keeps t u) : Keeps s u := ⟨g.pages ∘ f.pages, g.drain ∘ f.drain⟩

/-- The laws read the shelf and the closing queue. -/
theorem of_same (same : shelf t = shelf s) (queue : t.closingQueue = s.closingQueue) : Keeps s t := by
  refine ⟨pagesLaw_of_shelf same, fun drain => ?_⟩
  unfold DrainLaw
  rw [fillingPage_of_shelf same, queue]
  exact drain

theorem foldl {α : Type} {f : State → α → State} (one : ∀ s a, Keeps s (f s a)) (xs : List α) (s : State) :
    Keeps s (xs.foldl f s) := by
  induction xs generalizing s with
  | nil => exact .refl s
  | cons a xs ih => exact (one s a).trans (ih (f s a))

theorem moveRecords (s : State) : Keeps s (moveRecords s) :=
  ⟨pagesLaw_moveRecords, fun drain => by rwa [moveRecords_of_drainLaw drain]⟩

/-- Routing by the outcome closes a proving slot, and leaves the pages and the queue otherwise (R12). -/
theorem applyOutcome (k : SlotId) (s : State) : Keeps s (applyOutcome k s) := by
  cases kind : (s.slot k).isProving with
  | true =>
    rw [Machine.applyOutcome, if_pos kind]
    exact ⟨pagesLaw_closeSlot k .proving, drainLaw_closeSlot .proving (ident_of_isProving kind)⟩
  | false => exact .of_same (shelf_of_archive (archive_applyOutcome kind)) (closing_of_routes (routes_applyOutcome k s) kind)

theorem resetSlot (s : State) (k : SlotId) : Keeps s (resetSlot s k) := by
  cases held : (s.slot k).holder with
  | none => rw [resetSlot_free held]; exact .refl s
  | some w =>
    cases w with
    | link l =>
      rw [resetSlot_claim held]
      exact .of_same (shelf_of_archive (archive_giveUpClaim s k)) (congrArg RollView.closing (view_giveUpClaim k s))
    | head h =>
      obtain phase | phase | phase | fly := phase_cases (s.head h).phase
      · rw [resetSlot_idle held phase]; exact .refl s
      · rw [resetSlot_mounted held phase]; exact .of_same rfl rfl
      · rw [resetSlot_done held phase]; exact .applyOutcome k s
      · rw [resetSlot_cut held fly]
        exact .trans (t := cutShort h k s) (.of_same rfl rfl) (.applyOutcome k _)

/-- A line reset: the slots, some of them closed, and then the heads (R24). -/
theorem lineReset (s : State) : Keeps s (lineReset s) := by
  have head (u : State) (h : HeadId) : Keeps u (resetHead u h) :=
    .of_same (shelf_of_archive (archive_lapse (u.updHead h _) h)) (closingQueue_of_view (s := u.updHead h _) (view_lapse h _))
  rw [lineReset_eq]
  exact .trans (t := linksReset s) (.of_same rfl rfl) (.trans (.foldl resetSlot allSlots _) (.foldl head allHeads _))

theorem answerSent (l : LinkId) (s : State) : Keeps s (answerSent l s) := by
  obtain ⟨-, e⟩ | ⟨o, -, e⟩ := answerSent_cases l s <;> rw [e]
  · exact .refl s
  · split_ifs
    · exact .trans (t := s.updLink l _) (.of_same rfl rfl) (.lineReset _)
    · exact .of_same rfl rfl

/-- FINISH_PAGE: where a page was FILLING nothing waited, so nothing moves (R168). -/
theorem finish {p : PageId} (filling : s.fillingPage = some p) (holds : (s.page p).records ≠ []) :
    Keeps s (Machine.moveRecords (finishPageOp p s)) := by
  have taken (law : PagesLaw s) : PagesLaw (finishPageOp p s) :=
    pagesLaw_finishPageOp ((takes_of_law law (fillingPage_some filling)).1.finish holds)
  refine ⟨fun law => pagesLaw_moveRecords (taken law), fun drain => ?_⟩
  have empty : (finishPageOp p s).closingQueue = [] :=
    (closingQueue_of_view (view_finishPageOp p s)).trans (drain (by simp [filling]))
  have none : DrainLaw (finishPageOp p s) := fun _ => empty
  rwa [moveRecords_of_drainLaw none]

end Keeps

/-! ### What a command does to the pages and the queue, on a lawful roll -/

theorem rollLaw_of_view {s t : State} (same : view t = view s) (roll : RollLaw s) : RollLaw t := by
  rw [rollLaw_iff, same]
  exact (rollLaw_iff s).mp roll

/-- On a lawful roll the slots that wait are those that hold a record, so the queue is empty when none does. -/
theorem closingQueue_nil_iff {s : State} (roll : RollLaw s) : s.closingQueue = [] ↔ ∀ k, (s.slot k).closing = none := by
  have waits (k : SlotId) : (s.slot k).closing = none ↔ k ∉ s.closingQueue := by
    rw [roll.closing, ← roll.record, Bool.not_eq_true, Option.isSome_eq_false_iff, Option.isNone_iff_eq_none]
  simp only [waits, List.eq_nil_iff_forall_not_mem]

/-- From the one state to the other both laws are kept, the closing queue's while the roll is lawful. -/
structure Files (s t : State) : Prop where
  pages : PagesLaw s → PagesLaw t
  drain : RollLaw s → RollLaw t → DrainLaw s → DrainLaw t

theorem Keeps.files {s t : State} (keeps : Keeps s t) : Files s t := ⟨keeps.pages, fun _ _ => keeps.drain⟩

namespace Files
variable {s t u : State}

theorem refl (s : State) : Files s s := (Keeps.refl s).files

/-- The pages stand, and no slot comes to wait. -/
theorem of_waiting (same : shelf t = shelf s)
    (waiting : ∀ k, (t.slot k).closing = (s.slot k).closing ∨ (t.slot k).closing = none) : Files s t := by
  refine ⟨pagesLaw_of_shelf same, fun roll roll' drain filling => (closingQueue_nil_iff roll').mpr fun k => ?_⟩
  rw [fillingPage_of_shelf same] at filling
  obtain stands | gone := waiting k
  · exact stands.trans ((closingQueue_nil_iff roll).mp (drain filling) k)
  · exact gone

theorem of_leaves (same : Leaves s t) : Files s t :=
  of_waiting (shelf_of_archive same) fun k => .inl (congrFun (congrArg Archive.waiting same) k)

/-- What the frame and the answer do to their link is nothing to the two laws. -/
theorem on_link {l : LinkId} {f g : Link → Link} (step : Files (s.updLink l f) u) : Files s (u.updLink l g) :=
  ⟨step.pages, fun roll roll' =>
    step.drain (rollLaw_of_view (view_updLink s l f) roll) (rollLaw_of_view (view_updLink u l g).symm roll')⟩

theorem request {α : Type} {l : LinkId} {r : Request} {b : Body α} {take : α → State → State × Reply}
    (e : request l r b take s = .next t) (step : ∀ a u, admits l r = true → Files u (take a u).1) : Files s t := by
  obtain rfl : onFrame l (takeGood l r.code (checked l r b take)) s = t := by simpa [Machine.request] using e
  unfold onFrame takeGood checked
  split_ifs with _ _ adm
  · cases b with
    | fields a => exact (step a (s.updLink l Link.goodFrame) adm).on_link
    | wrongLength => exact (refl _).on_link
  · exact (refl _).on_link
  · exact .of_leaves rfl
  · exact .refl s

theorem event {f : State → State} (e : event f s = .next t) (step : Files s (f s)) : Files s t := by
  obtain rfl | rfl := event_next e
  · exact step
  · exact .refl t

/-- A closing by somebody who may close the slot, the method of a scrapping written first: the slot has an identity (R14). -/
theorem closeSlot {k : SlotId} {o : ClosingOutcome} (by_ : Closes (s.slot k) o) (m : Option ScrapMethod) :
    Files s (closeSlot k o (s.setSlot k { s.slot k with method := m })) := by
  refine ⟨fun law => pagesLaw_closeSlot k o law, fun roll _ drain => drainLaw_closeSlot o ?_ drain⟩
  have state : (s.slot k).state ≠ .free := by
    cases by_ with
    | stamped held => intro free; have owner := (roll.linkHolder k .L3).mp held; rw [free] at owner; cases owner
    | scrapped held => intro free; have owner := (roll.linkHolder k .L4).mp held; rw [free] at owner; cases owner
    | withdrawn _ _ isOpen => intro free; rw [free] at isOpen; cases isOpen
  rw [State.slot_setSlot_self]
  exact (roll.identity k).mpr state

end Files

end Sys2Proof.Pages

namespace Sys2Proof.Pages

open Sys2Proof.Machine Sys2Proof.Safety Sys2Proof.Laws Sys2Proof.Roll Sys2Proof.Closing

/-! ### Requests that close slots, fill slots or turn pages -/

section
variable (s : State)

theorem files_closeSlot_plain {k : SlotId} {o : ClosingOutcome} (by_ : Closes (s.slot k) o) : Files s (closeSlot k o s) := by
  have step := Files.closeSlot by_ (s.slot k).method
  rwa [State.setSlot_slot] at step

theorem files_takeWithdraw (c : Nat) : Files s (takeWithdraw c s).1 :=
  onCarrier_either (.refl s) fun k => by
    split
    · exact .refl s
    · split_ifs with allows
      · exact files_closeSlot_plain s (closes_withdrawn ‹_› (isOpen_of_withdrawable allows))
      · exact .refl s

theorem files_carryOutRuling {k : SlotId} (r : Ruling) (state : (s.slot k).state = .referred) :
    Files s (carryOutRuling k r s).1 := by
  cases r with
  | retest =>
    simp only [carryOutRuling]
    split_ifs
    · exact .refl s
    · exact .of_leaves ((archive_enterUnheld _ k _).trans ((archive_updSlot _ rfl).trans (archive_leaveReferral s k)))
  | condemn => exact .of_leaves ((archive_enterAwaitScrap _ k).trans ((archive_post _ k _).trans (archive_leaveReferral s k)))
  | withdraw =>
    simp only [carryOutRuling]
    split
    · exact .refl s
    · exact files_closeSlot_plain s (closes_withdrawn ‹_› (by rw [state]; rfl))

theorem files_takeRule (a : RuleArgs) : Files s (takeRule a s).1 := by
  unfold takeRule
  split
  · split_ifs with state
    · exact files_carryOutRuling s _ state
    · exact .refl s
  · exact .refl s
  · exact .refl s

theorem files_takeStamped {l : LinkId} (c : Nat) (adm : admits l .stamped = true) : Files s (takeStamped l c s).1 := by
  obtain rfl : l = .L3 := by simpa [admits] using adm
  exact asHolder_either (.refl s) fun k held => files_closeSlot_plain s (.stamped held)

theorem files_takeScrapped {l : LinkId} (a : ScrappedArgs) (adm : admits l .scrapped = true) : Files s (takeScrapped l a s).1 := by
  obtain rfl : l = .L4 := by simpa [admits] using adm
  refine asHolder_either (.refl s) fun k held => ?_
  split
  · exact .refl s
  · exact .closeSlot (.scrapped held) _

theorem files_takeDismount (n : Nat) : Files s (takeDismount n s).1 :=
  onHead_either (.refl s) fun h => by
    dsimp only
    split
    · exact .refl s
    · split
      · exact .refl s
      · rename_i m _
        split_ifs
        · exact .of_leaves (archive_enterUnheld (s.updHead h Head.toIdle) m.slot _)
        · exact (Keeps.trans (s := s) (t := s.updHead h Head.toIdle) (.of_same rfl rfl) (.applyOutcome m.slot _)).files
        · exact .refl s

/-- A FREE slot takes its cylinder without a closing record (R45, R48). -/
theorem files_admitChecked {p : BindingParams} {proving : Bool} {make : Identity → Slot} (new : ∀ i, (make i).closing = none) :
    Files s (admitChecked p proving make s).1 := by
  have bound (k : SlotId) (x : Slot) (none : x.closing = none) : Files s (bindSlot p.carrier k x s) := by
    have same := archive_bindSlot s p.carrier k x
    have pages : shelf (bindSlot p.carrier k x s) = shelf (s.setSlot k x) := shelf_of_archive same
    refine .of_waiting pages fun j => ?_
    have waiting : ((bindSlot p.carrier k x s).slot j).closing = ((s.setSlot k x).slot j).closing :=
      congrFun (congrArg Archive.waiting same) j
    rw [waiting, State.slot_setSlot]
    split_ifs
    · exact .inr none
    · exact .inl rfl
  unfold admitChecked
  split
  · exact .refl s
  · split_ifs
    · exact .refl s
    · exact .refl s
    · exact .refl s
    · split
      · exact .refl s
      · exact bound _ _ (new _)

theorem files_takeAdmitOrdinary (a : AdmitArgs) : Files s (takeAdmitOrdinary a s).1 := by
  unfold takeAdmitOrdinary
  split
  · exact .refl s
  · split
    · exact files_admitChecked s fun _ => rfl
    · exact .refl s
    · exact .refl s

theorem files_takeAdmitProving (a : AdmitProvingArgs) : Files s (takeAdmitProving a s).1 := by
  unfold takeAdmitProving
  split
  · exact .refl s
  · split
    · exact files_admitChecked s fun _ => rfl
    · exact .refl s

/-- TURN_PAGE may make a page FILLING while slots wait, and what waits then moves (R163, R167). -/
theorem files_takeTurnPage (n : Nat) : Files s (takeTurnPage n s).1 := by
  unfold takeTurnPage
  split_ifs
  · exact .refl s
  · split
    · exact .refl s
    · rename_i p marked
      split_ifs
      · exact .refl s
      · refine ⟨fun law => pagesLaw_moveRecords (pagesLaw_of_shelf (shelf_reporting _ s) (pagesLaw_turnChanges law marked)),
          fun roll _ _ => drainLaw_moveRecords (waits_of_roll (rollLaw_of_view ?_ roll))⟩
        rw [view_reporting, view_turnChanges]

theorem files_takeFinishPage (a : Unit) : Files s (takeFinishPage a s).1 := by
  unfold takeFinishPage
  split
  · exact .refl s
  · rename_i p filling
    split_ifs with holds
    · exact .refl s
    · exact (Keeps.finish filling (by simpa using holds)).files

end

/-! ### Every command -/

/-- A start keeps the pages and empties the queue (R22, R25). -/
theorem keeps_restart (s : State) : Keeps s s.restart :=
  ⟨pagesLaw_of_shelf rfl, fun _ _ => congrArg RollView.closing (view_restart s)⟩

/-- A power-on makes no page FILLING that stands in a combination of R162, where the two are never both EMPTY. -/
theorem keeps_powerOn (s : State) : Keeps s (fillFirstPage s.restart) := by
  refine ⟨fun law => ?_, fun _ _ => congrArg RollView.closing ((view_fillFirstPage _).trans (view_restart s))⟩
  have law := (keeps_restart s).pages law
  rw [fillFirstPage, if_neg]
  · exact law
  · rintro ⟨a, b⟩
    have empty (p : PageId) : (s.restart.page p).state = .empty := by cases p <;> assumption
    cases ((pagesLaw_iff _).mp law).2.2 with
    | unpresented p _ filling => cases filling.symm.trans (empty p)
    | presented p _ finished => cases finished.symm.trans (empty p)

/-- What a command does to the pages and the closing queue, whatever the state it meets. -/
theorem files_exec {c : Instr} {s t : State} (e : exec c s = .next t) : Files s t := by
  cases c with
  | status | notices | clearErrors | readStats | lineReset | snapshot => exact .request e fun _ u _ => .of_leaves rfl
  | headStatus => exact .request e fun _ u _ => onHead_either (.refl u) fun _ => .refl u
  | noticeSetup l => exact .request e fun a u _ => .of_leaves (leaves_takeNoticeSetup u l a)
  | lookup => exact .request e fun a u _ => .of_leaves (leaves_takeLookup u a)
  | nextReferral => exact .request e fun a u _ => .of_leaves (leaves_takeNextReferral u a)
  | rule => exact .request e fun a u _ => files_takeRule u a
  | withdraw => exact .request e fun a u _ => files_takeWithdraw u a
  | breakClaim => exact .request e fun a u _ => .of_leaves (leaves_takeBreakClaim u a)
  | stopLink => exact .request e fun a u _ => .of_leaves (leaves_takeStopLink u a)
  | startLink => exact .request e fun a u _ => .of_leaves (leaves_takeStartLink u a)
  | setDate l => exact .request e fun a u _ => .of_leaves (leaves_takeSetDate u l a)
  | forceNotice => exact .request e fun a u _ => .of_leaves (leaves_takeForceNotice u a)
  | admitOrdinary => exact .request e fun a u _ => files_takeAdmitOrdinary u a
  | admitProving => exact .request e fun a u _ => files_takeAdmitProving u a
  | claim l => exact .request e fun a u _ => .of_leaves (leaves_takeClaim u l a)
  | finding l => exact .request e fun a u _ => .of_leaves (leaves_takeFinding u l a)
  | weigh l => exact .request e fun a u _ => .of_leaves (leaves_takeWeigh u l a)
  | inspected l => exact .request e fun a u _ => .of_leaves (leaves_takeInspected u l a)
  | release l => exact .request e fun a u _ => .of_leaves (leaves_takeRelease u l a)
  | mount => exact .request e fun a u _ => .of_leaves (leaves_takeMount u a)
  | begin => exact .request e fun a u _ => .of_leaves (leaves_takeBegin u a)
  | abort => exact .request e fun a u _ => .of_leaves (leaves_takeAbort u a)
  | dismount => exact .request e fun a u _ => files_takeDismount u a
  | headSetup => exact .request e fun a u _ => .of_leaves (leaves_takeHeadSetup u a)
  | claimStamp l => exact .request e fun a u _ => .of_leaves (leaves_takeClaimStamp u l a)
  | stamped => exact .request e fun a u adm => files_takeStamped u a adm
  | claimScrap l => exact .request e fun a u _ => .of_leaves (leaves_takeClaimScrap u l a)
  | scrapped => exact .request e fun a u adm => files_takeScrapped u a adm
  | loadType => exact .request e fun a u _ => .of_leaves (leaves_takeLoadType u a)
  | dropType => exact .request e fun a u _ => .of_leaves (leaves_takeDropType u a)
  | readType => exact .request e fun a u _ => .of_leaves (leaves_takeReadType u a)
  | setMark => exact .request e fun a u _ => .of_leaves (leaves_takeSetMark u a)
  | setLimits => exact .request e fun a u _ => .of_leaves (leaves_takeSetLimits u a)
  | readPage => exact .request e fun a u _ => .of_leaves (leaves_takeReadPage u a)
  | turnPage => exact .request e fun a u _ => files_takeTurnPage u a
  | finishPage => exact .request e fun a u _ => files_takeFinishPage u a
  | resetPushbutton => exact .event e (Keeps.lineReset s).files
  | answerSent l => exact .event e (Keeps.answerSent l s).files
  | moveRecords => exact .event e (Keeps.moveRecords s).files
  | unitClockAdvance => exact .event e (.of_leaves (archive_advanceClock s))
  | silenceTimeout | lapseByTime =>
    refine .event e ?_
    split_ifs
    exacts [.of_leaves (archive_advanceClock s), .refl s]
  | overrun => exact .event e (by split_ifs <;> exact .of_leaves rfl)
  | parity | framing => exact .event e (.of_leaves rfl)
  | fragment | check | gapOver20ms => exact .event (f := fun s => s.updLink _ _) e (.of_leaves rfl)
  | readingPair h p j => exact .event e (.of_leaves (archive_takePair s h p j))
  | zeroTimeout | rampTimeout | holdComplete | tailEnd | releaseTimeout | settleTimeout =>
    obtain rfl := Host.Outcome.next.inj e
    exact .of_leaves (archive_takePairAs s _ _ _ _)
  | unknownCode | lengthByteFault =>
    obtain rfl := Host.Outcome.next.inj e
    unfold onFrame
    split_ifs <;> exact .of_leaves rfl
  | powerOn =>
    obtain rfl := Host.Outcome.next.inj e
    exact (keeps_powerOn s).files
  | powerLoss =>
    obtain rfl := Host.Outcome.next.inj e
    have off : Keeps s.restart { s.restart with powered := false } := .of_same rfl rfl
    exact ((keeps_restart s).trans off).files

/-- What a step does to them: what the command at the front does, or nothing on an empty queue. -/
theorem files_step {s t : State} (e : step s = .next t) : Files s t := by
  cases q : s.pending with
  | nil =>
    rw [step_empty q] at e
    obtain rfl := Host.Outcome.next.inj e
    exact .of_leaves (by rw [idle_keeps]; rfl)
  | cons c rest =>
    rw [step_front q] at e
    have step := files_exec e
    exact ⟨step.pages, fun roll => step.drain (rollLaw_of_view (s := s) rfl roll)⟩

/-- Settles O14: every command keeps the pages' law, and the queue's on a roll that is lawful before and after. -/
theorem stepKeepsPagesAndDrainLaws : Obligations.StepKeepsPagesAndDrainLaws :=
  ⟨fun _ _ law e => (files_step e).pages law,
    fun s t roll drain e => (files_step e).drain roll (stepKeepsRollLaw s t roll e) drain⟩

end Sys2Proof.Pages

namespace Sys2Proof.Pages

open Sys2Proof.Machine Sys2Proof.Safety Sys2Proof.Laws Sys2Proof.Roll Sys2Proof.Closing

/-! ### MOVE_RECORDS (R163, R164) -/

/-- What a record that enters writes, spelled out (R42, R163). -/
theorem enterPage_eq (p : PageId) (c : ClosingRecord) (s : State) :
    enterPage p c s =
      { s.setPage p
          { state := (s.page p).state, records := (s.page p).records ++ [⟨s.recordCounter, s.manualDate, c⟩]
            first := if (s.page p).records = [] then some s.recordCounter else (s.page p).first } with
        recordCounter := if s.recordCounter = 99999999 then 1 else s.recordCounter + 1 } := by
  simp only [enterPage, List.isEmpty_iff]
  rfl

/-- The slot at the head of the queue gives its record, and the moving goes on. -/
theorem moveRecords_cons {s : State} {p : PageId} {k : SlotId} {rest : List SlotId} {c : ClosingRecord}
    (filling : s.fillingPage = some p) (queue : s.closingQueue = k :: rest) (record : (s.slot k).closing = some c) :
    moveRecords s = moveRecords (moveOne p k c rest s) := by
  rw [moveRecords, queue, List.length_cons, moveUpTo_succ _ s p k rest c filling queue record, moveRecords, closingQueue_moveOne]

/-- A record entered makes one more on the page, whatever slot is then freed. -/
theorem length_entered (p : PageId) (k : SlotId) (c : ClosingRecord) (rest : List SlotId) (s : State) :
    ((freeSlot k rest (enterPage p c s)).page p).records.length = (s.page p).records.length + 1 := by
  rw [page_freeSlot, enterPage_page]
  simp [withRecord]

theorem powered_finishPageOp (p : PageId) (s : State) : (finishPageOp p s).powered = s.powered := by
  rw [finishPageOp, raise_powered, reporting_powered, finishChanges_eq]
  split_ifs <;> simp [markFinished]

/-- Settles O26: one turn of the moving, the finish told by the length that the page had. -/
theorem recordsMoveOntoTheFillingPage : Obligations.RecordsMoveOntoTheFillingPage := by
  intro s powered
  have move {u : State} (on : u.powered = true) : exec .moveRecords u = .next (moveRecords u) := event_powered moveRecords on
  refine ⟨move powered, fun stops => ?_, fun p k rest c filling queue record => ?_⟩
  · rw [move powered, moveRecords_of_drainLaw stops.resolve_left]
  · intro old entered freed
    have spelled : freeSlot k rest (enterPage p c s) = freed := by rw [enterPage_eq]; rfl
    have on : freed.powered = true := by simpa [freed, entered] using powered
    have length : (freed.page p).records.length = old.records.length + 1 := by rw [← spelled, length_entered]
    rw [move powered, moveRecords_cons filling queue record, moveOne_eq, spelled]
    dsimp only
    rw [length]
    refine ⟨fun room => ?_, fun full => ?_⟩
    · rw [move on, if_neg (by omega)]
    · rw [move ((powered_finishPageOp p freed).trans on), if_pos (by omega)]

/-! ### TURN_PAGE and FINISH_PAGE (R167, R168) -/

/-- A report reads what its change leaves of the state it is given. -/
theorem reporting_congr {f g : State → State} {s : State} (same : f s = g s) : reporting f s = reporting g s := by
  rw [reporting, reporting, same]

section
variable {s : State} {n : Nat}

theorem takeTurnPage_outside (out : n = 0 ∨ 99999999 < n) : takeTurnPage n s = (s, refusal .field) := by
  have outside : inRange 1 Config.maxRecord n = false := by
    simp only [inRange, Config.maxRecord, decide_eq_false_iff_not]
    omega
  rw [takeTurnPage, outside]
  rfl

/-- Past the range check: EMPTY without a presented page, STALE for another first number, else the turn (R167). -/
theorem takeTurnPage_inside (low : 1 ≤ n) (high : n ≤ 99999999) :
    takeTurnPage n s =
      match s.presented with
      | none => (s, refusal .empty)
      | some p =>
        if (s.page p).first = some n then
          (turnPageOp p s, okWith (u8 (pageByte p) ++ opt 6 (pageItems (turnPageOp p s)) (turnPageOp p s).presented))
        else (s, refusal .stale) := by
  have inside : inRange 1 Config.maxRecord n = true := by simp [inRange, low, high]
  rw [takeTurnPage, inside]
  cases s.presented <;> simp

/-- FINISH_PAGE: EMPTY for a page without a record, else the finish and the moving that it resumes (R168). -/
theorem takeFinishPage_filling {p : PageId} (filling : s.fillingPage = some p) :
    takeFinishPage () s =
      if (s.page p).records = [] then (s, refusal .empty) else (moveRecords (finishPageOp p s), okWith (pageItems s p)) := by
  simp [takeFinishPage, filling]

end

/-- Settles O50: the checks of the two blocks in their order, and the changes of a turn and of a finish spelled out. -/
theorem pagesTurnAndFinish : Obligations.PagesTurnAndFinish := by
  intro s
  refine ⟨fun can => ⟨fun n out => ?field, fun n low high none => ?empty,
    fun n p low high marked => ⟨fun other => ?stale, ?turned⟩, fun none => ?nothing,
    fun p filling => ⟨fun bare => ?bare, fun holds => ?finished⟩⟩,
    fun p => ?finish⟩
  case field => exact request_refused .turnPage n takeTurnPage can rfl .field (takeTurnPage_outside out)
  case empty =>
    refine request_refused .turnPage n takeTurnPage can rfl .empty ?_
    rw [takeTurnPage_inside low high, heard_presented, none]
  case stale =>
    refine request_refused .turnPage n takeTurnPage can rfl .stale ?_
    rw [takeTurnPage_inside low high, heard_presented, marked]
    simp only [heard_page, if_neg other]
  case turned =>
    intro first t
    have spelled : turnPageOp p (heard s .L5) = t :=
      congrArg moveRecords (reporting_congr (by cases p <;> rfl))
    refine request_ok .turnPage n takeTurnPage _ can rfl ?_
    rw [takeTurnPage_inside low high, heard_presented, marked]
    simp only [heard_page, if_pos first, spelled]
    cases t.presented <;> rfl
  case nothing => exact request_refused .finishPage () takeFinishPage can rfl .empty (by simp [takeFinishPage, none])
  case bare =>
    refine request_refused .finishPage () takeFinishPage can rfl .empty ?_
    rw [takeFinishPage_filling (p := p) (by simpa using filling), heard_page, if_pos bare]
  case finished =>
    refine request_ok .finishPage () takeFinishPage _ can rfl ?_
    rw [takeFinishPage_filling (p := p) (by simpa using filling), heard_page, if_neg holds, pageItems, heard_page]
  case finish => exact congrArg (raise .pageFinished) (reporting_congr (finishChanges_eq s p))

end Sys2Proof.Pages

/-! ## The station links and their notices (chapter 10) -/

namespace Sys2Proof.Links

open Sys2Proof.Machine Sys2Proof.Safety Sys2Proof.Laws Sys2Proof.Roll Sys2Proof.Settings

/-! ### The receiver, condition by condition (R173, R177, R178) -/

section
variable {k : Link}

theorem startByte_stopped (stopped : k.state = .stopped) : k.startByte = k := by simp [Link.startByte, stopped]

/-- A start byte on a free line begins a frame. -/
theorem startByte_free (listens : k.state ≠ .stopped) (hunts : k.rx = .hunting) (free : k.tx = none) :
    k.startByte = { k with rx := .inFrame } := by
  cases state : k.state <;> simp_all [Link.startByte]

/-- A start byte on an occupied line is an overrun. -/
theorem startByte_busy (listens : k.state ≠ .stopped) (hunts : k.rx = .hunting) (busy : k.tx ≠ none) :
    k.startByte = Link.fault .overrun { k with rx := .discarding } := by
  have occupied : k.tx.isSome = true := Option.isSome_iff_ne_none.mpr busy
  cases state : k.state <;> simp_all [Link.startByte]

/-- A receiver that does not hunt takes a start byte as a character like any other. -/
theorem startByte_not_hunting (other : k.rx ≠ .hunting) : k.startByte = k := by
  cases state : k.state <;> cases rx : k.rx <;> simp_all [Link.startByte]

theorem gap_stopped (stopped : k.state = .stopped) : k.gap = k := by simp [Link.gap, stopped]

theorem gap_hunting (hunts : k.rx = .hunting) : k.gap = k := by cases state : k.state <;> simp [Link.gap, state, hunts]

/-- A gap ends a discarding. -/
theorem gap_discarding (listens : k.state ≠ .stopped) (discards : k.rx = .discarding) : k.gap = { k with rx := .hunting } := by
  cases state : k.state <;> simp_all [Link.gap]

/-- A gap inside a frame is a fragment. -/
theorem gap_inFrame (listens : k.state ≠ .stopped) (inside : k.rx = .inFrame) :
    k.gap = Link.fault .fragment { k with rx := .hunting } := by
  cases state : k.state <;> simp_all [Link.gap]

theorem badCharacter_stopped (f : LinkFault) (stopped : k.state = .stopped) : k.badCharacter f = k := by
  simp [Link.badCharacter, stopped]

/-- A bad character counts, and discards the frame that it lies in. -/
theorem badCharacter_listening (f : LinkFault) (listens : k.state ≠ .stopped) :
    k.badCharacter f = Link.fault f { k with rx := if k.rx = .inFrame then .discarding else k.rx } := by
  cases state : k.state <;> simp_all [Link.badCharacter]

theorem checkFault_eq (k : Link) :
    k.checkFault =
      if k.startByte.state ≠ .stopped ∧ k.startByte.rx = .inFrame then Link.fault .check { k.startByte with rx := .hunting }
      else k.startByte := rfl

theorem fragmentThen_stopped (c : Byte) (stopped : k.state = .stopped) : k.fragmentThen c = k := by
  simp [Link.fragmentThen, stopped]

theorem fragmentThen_listening (c : Byte) (listens : k.state ≠ .stopped) :
    k.fragmentThen c = Link.firstOfHunt c k.startByte.gap := by
  cases state : k.state <;> simp_all [Link.fragmentThen]

end

/-! ### What a link's law says of its receiver and of its items -/

/-- What is so of a receiver: of a STOPPED link's, of one inside a frame, and of the five counts (R178, R179, R181). -/
structure ReceiverSound (k : Link) : Prop where
  stopped : k.state = .stopped → k.timer = 0 ∧ k.rx = .hunting ∧ ∀ o, k.tx = some o → o.stage = .sending
  inFrame : k.rx = .inFrame → k.tx = none
  counts : ∀ f, k.counts.get f ≤ 255

/-- What is so of a pending set: each item once, each directed to its link, none on a STOPPED link (R181, R182). -/
structure ItemsSound (l : LinkId) (k : Link) : Prop where
  once : k.pending.Nodup
  directed : ∀ n ∈ k.pending, l ∈ towards n.kind ∧ n ≠ .linkLost .L0
  stopped : k.state = .stopped → k.pending = []

/-- A link that is sound, and RUNNING if it is the supervisor's (R180, R181). -/
structure Stands (l : LinkId) (k : Link) : Prop where
  receiver : ReceiverSound k
  items : ItemsSound l k
  supervisor : l = .L0 → k.state = .running

/-- A timed link that is RUNNING is below a limit that is not 0 (R180). -/
def Below (limit : Nat) (l : LinkId) (k : Link) : Prop := l ≠ .L0 → k.state = .running → limit ≠ 0 → k.timer < limit

theorem linkSound_iff (l : LinkId) (k : Link) : LinkSound l k ↔ ReceiverSound k ∧ ItemsSound l k := by
  constructor
  · rintro ⟨once, directed, stopped, inFrame, counts⟩
    exact ⟨⟨fun h => (stopped h).2, inFrame, counts⟩, once, directed, fun h => (stopped h).1⟩
  · rintro ⟨⟨quiet, inFrame, counts⟩, once, directed, empty⟩
    exact ⟨once, directed, fun h => ⟨empty h, quiet h⟩, inFrame, counts⟩

/-- The links' law is a law of each link. -/
theorem linksLaw_iff (s : State) : LinksLaw s ↔ ∀ l, Stands l (s.link l) ∧ Below s.limits.silence l (s.link l) := by
  constructor
  · rintro ⟨sound, supervisor, timed⟩ l
    obtain ⟨receiver, items⟩ := (linkSound_iff l _).mp (sound l)
    exact ⟨⟨receiver, items, by rintro rfl; exact supervisor⟩, timed l⟩
  · intro law
    exact ⟨fun l => (linkSound_iff l _).mpr ⟨(law l).1.receiver, (law l).1.items⟩, (law .L0).1.supervisor rfl, fun l => (law l).2⟩

/-- A change of one link alone. -/
theorem linksLaw_updLink {s : State} {l : LinkId} {f : Link → Link} (law : LinksLaw s)
    (here : Stands l (s.link l) → Below s.limits.silence l (s.link l) → Stands l (f (s.link l)) ∧ Below s.limits.silence l (f (s.link l))) :
    LinksLaw (s.updLink l f) := by
  rw [linksLaw_iff] at law ⊢
  intro m
  rw [State.link_updLink]
  split_ifs with e
  · subst e
    exact here (law m).1 (law m).2
  · exact law m

/-! ### What a receiver does on its own -/

/-- An event of the receiver: the link's state, its timer and its pending set stand, and what is so of a receiver stays so. -/
structure Receives (k k' : Link) : Prop where
  state : k'.state = k.state
  timer : k'.timer = k.timer
  pending : k'.pending = k.pending
  sound : ReceiverSound k → ReceiverSound k'

namespace Receives
variable {k k' k'' : Link} {l : LinkId}

theorem refl (k : Link) : Receives k k := ⟨rfl, rfl, rfl, id⟩

theorem trans (f : Receives k k') (g : Receives k' k'') : Receives k k'' :=
  ⟨g.state.trans f.state, g.timer.trans f.timer, g.pending.trans f.pending, g.sound ∘ f.sound⟩

theorem items (f : Receives k k') (sound : ItemsSound l k) : ItemsSound l k' := by
  obtain ⟨once, directed, stopped⟩ := sound
  constructor <;> simpa only [f.pending, f.state]

theorem stands (f : Receives k k') (stands : Stands l k) : Stands l k' :=
  ⟨f.sound stands.receiver, f.items stands.items, by rw [f.state]; exact stands.supervisor⟩

theorem below (f : Receives k k') {limit : Nat} (below : Below limit l k) : Below limit l k' := by
  unfold Below
  rwa [f.state, f.timer]

/-- A fault sets its flag and raises its count, which stays at most 255 (R179). -/
theorem fault (f : LinkFault) (k : Link) : Receives k (Link.fault f k) := by
  refine ⟨rfl, rfl, rfl, fun sound => ⟨sound.stopped, sound.inFrame, fun g => ?_⟩⟩
  by_cases e : g = f
  · subst e
    rw [fault_keeps, PerFault.get_set_self]
    exact min_le_right _ _
  · rw [fault_keeps, PerFault.get_set_other _ _ _ _ e]
    exact sound.counts g

/-- A receiver that hunts again. -/
theorem hunts (k : Link) : Receives k { k with rx := .hunting } :=
  ⟨rfl, rfl, rfl, fun sound => ⟨fun h => ⟨(sound.stopped h).1, rfl, (sound.stopped h).2.2⟩, by rintro ⟨⟩, sound.counts⟩⟩

/-- A receiver of a link that is not STOPPED discards. -/
theorem discards (listens : k.state ≠ .stopped) : Receives k { k with rx := .discarding } :=
  ⟨rfl, rfl, rfl, fun sound => ⟨fun h => absurd h listens, by rintro ⟨⟩, sound.counts⟩⟩

theorem startByte (k : Link) : Receives k k.startByte := by
  by_cases listens : k.state = .stopped
  · rw [startByte_stopped listens]; exact refl k
  by_cases hunts : k.rx = .hunting
  · by_cases free : k.tx = none
    · rw [startByte_free listens hunts free]
      exact ⟨rfl, rfl, rfl, fun sound => ⟨fun h => absurd h listens, fun _ => free, sound.counts⟩⟩
    · rw [startByte_busy listens hunts free]
      exact (discards listens).trans (fault _ _)
  · rw [startByte_not_hunting hunts]; exact refl k

theorem gap (k : Link) : Receives k k.gap := by
  by_cases listens : k.state = .stopped
  · rw [gap_stopped listens]; exact refl k
  cases rx : k.rx with
  | hunting => rw [gap_hunting rx]; exact refl k
  | discarding => rw [gap_discarding listens rx]; exact hunts k
  | inFrame => rw [gap_inFrame listens rx]; exact (hunts k).trans (fault _ _)

theorem badCharacter (f : LinkFault) (k : Link) : Receives k (k.badCharacter f) := by
  by_cases listens : k.state = .stopped
  · rw [badCharacter_stopped f listens]; exact refl k
  · rw [badCharacter_listening f listens]
    split_ifs
    · exact (discards listens).trans (fault f _)
    · exact fault f k

theorem firstOfHunt (c : Byte) (k : Link) : Receives k (k.firstOfHunt c) := by
  unfold Link.firstOfHunt
  split_ifs
  · exact (hunts k).trans (startByte _)
  · exact hunts k

theorem fragmentThen (c : Byte) (k : Link) : Receives k (k.fragmentThen c) := by
  by_cases listens : k.state = .stopped
  · rw [fragmentThen_stopped c listens]; exact refl k
  · rw [fragmentThen_listening c listens]
    exact ((startByte k).trans (gap _)).trans (firstOfHunt c _)

theorem checkFault (k : Link) : Receives k k.checkFault := by
  rw [checkFault_eq]
  split_ifs
  · exact ((startByte k).trans (hunts _)).trans (fault _ _)
  · exact startByte k

/-- An answer that was awaited is being sent, and one being sent still is. -/
theorem beginAnswer (k : Link) : Receives k k.beginAnswer := by
  refine ⟨rfl, rfl, rfl, fun sound => ⟨fun h => ?_, fun h => ?_, sound.counts⟩⟩
  · obtain ⟨timer, rx, -⟩ := sound.stopped h
    refine ⟨timer, rx, fun o sent => ?_⟩
    obtain ⟨⟨stage, answer⟩, -, rfl⟩ := Option.map_eq_some_iff.mp sent
    cases stage <;> rfl
  · rw [beginAnswer_tx, sound.inFrame h]
    rfl

/-- The line is free. -/
theorem lineFreed (k : Link) : Receives k { k with tx := none } :=
  ⟨rfl, rfl, rfl, fun sound => ⟨fun h => ⟨(sound.stopped h).1, (sound.stopped h).2.1, by rintro _ ⟨⟩⟩, fun _ => rfl, sound.counts⟩⟩

/-- An answer to a frame taken, on a link that is not STOPPED and whose receiver is out of the frame. -/
theorem answer (code : Nat) (r : Reply) (listens : k.state ≠ .stopped) (out : k.rx ≠ .inFrame) : Receives k (k.answer code r) :=
  ⟨rfl, rfl, rfl, fun sound => ⟨fun h => absurd h listens, fun h => absurd h out, sound.counts⟩⟩

theorem badLength (listens : k.state ≠ .stopped) : Receives k k.badLength :=
  ((discards listens).trans (answer 0 (refusal .length) listens (by rintro ⟨⟩))).trans (beginAnswer _)

end Receives

/-- An event of one receiver keeps the links' law. -/
theorem linksLaw_receives {s : State} {l : LinkId} {f : Link → Link} (law : LinksLaw s) (event : Receives (s.link l) (f (s.link l))) :
    LinksLaw (s.updLink l f) := linksLaw_updLink law fun stands below => ⟨event.stands stands, event.below below⟩

end Sys2Proof.Links

namespace Sys2Proof.Links

open Sys2Proof.Machine Sys2Proof.Safety Sys2Proof.Laws Sys2Proof.Roll Sys2Proof.Settings

/-! ### What the other blocks do to the links

They raise items and report conditions; link states, receivers, timers and settings they leave, and the queue and the limits. -/

theorem nodup_withNotice (n : Notice) (p : List Notice) : (withNotice n p).Nodup := allNotices_nodup.filter _

theorem itemsSound_noted {l : LinkId} {k : Link} {n : Notice} (sound : ItemsSound l k) (reached : l ∈ towards n.kind)
    (named : n ≠ .linkLost .L0) : ItemsSound l (noted n k) := by
  unfold noted
  split_ifs with stopped
  · exact sound
  · refine ⟨nodup_withNotice n _, fun m mem => ?_, fun h => absurd h stopped⟩
    obtain rfl | old := (mem_withNotice n m _).mp mem
    · exact ⟨reached, named⟩
    · exact sound.directed m old

theorem itemsSound_reported {l : LinkId} {k : Link} (c : Condition) (was now : Bool) (sound : ItemsSound l k) :
    ItemsSound l (reported c was now l k) := by
  unfold reported
  split_ifs with h
  · exact itemsSound_noted sound h.2.1 (by cases c <;> rintro ⟨⟩)
  · exact sound

theorem receiverSound_of_bare {k k' : Link} (same : bare k' = bare k) (sound : ReceiverSound k) : ReceiverSound k' := by
  obtain ⟨stopped, inFrame, counts⟩ := sound
  obtain ⟨⟩ := k
  obtain ⟨⟩ := k'
  simp only [bare, Link.mk.injEq] at same
  obtain ⟨rfl, rfl, rfl, rfl, rfl, rfl, -, rfl, rfl⟩ := same
  exact ⟨stopped, inFrame, counts⟩

/-- An operation that raises items at most, and only items that there are, leaving the queue and the limits. -/
structure Raises (s t : State) : Prop where
  queue : t.pending = s.pending
  limits : t.limits = s.limits
  link : ∀ l, bare (t.link l) = bare (s.link l)
  items : ∀ l, ItemsSound l (s.link l) → ItemsSound l (t.link l)

namespace Raises
variable {s t u : State}

theorem refl (s : State) : Raises s s := ⟨rfl, rfl, fun _ => rfl, fun _ => id⟩

theorem trans (f : Raises s t) (g : Raises t u) : Raises s u :=
  ⟨g.queue.trans f.queue, g.limits.trans f.limits, fun l => (g.link l).trans (f.link l), fun l => g.items l ∘ f.items l⟩

theorem foldl {α : Type} {f : State → α → State} (one : ∀ s a, Raises s (f s a)) (xs : List α) (s : State) :
    Raises s (xs.foldl f s) := by
  induction xs generalizing s with
  | nil => exact refl s
  | cons a xs ih => exact (one s a).trans (ih (f s a))

/-- Operations that leave the links, the queue and the limits raise nothing. -/
theorem of_same (queue : t.pending = s.pending) (limits : t.limits = s.limits) (links : t.links = s.links) : Raises s t := by
  have same (l : LinkId) : t.link l = s.link l := by rw [State.link, links, State.link]
  exact ⟨queue, limits, fun l => by rw [same], fun l => by rw [same]; exact id⟩

theorem state (f : Raises s t) (l : LinkId) : (t.link l).state = (s.link l).state := (congrArg Link.state (f.link l) :)
theorem rx (f : Raises s t) (l : LinkId) : (t.link l).rx = (s.link l).rx := (congrArg Link.rx (f.link l) :)
theorem timer (f : Raises s t) (l : LinkId) : (t.link l).timer = (s.link l).timer := (congrArg Link.timer (f.link l) :)

theorem stands (f : Raises s t) {l : LinkId} (stands : Stands l (s.link l)) : Stands l (t.link l) :=
  ⟨receiverSound_of_bare (f.link l) stands.receiver, f.items l stands.items, by rw [f.state]; exact stands.supervisor⟩

theorem below (f : Raises s t) {l : LinkId} (below : Below s.limits.silence l (s.link l)) :
    Below t.limits.silence l (t.link l) := by
  unfold Below
  rwa [f.state, f.timer, f.limits]

theorem law (f : Raises s t) (law : LinksLaw s) : LinksLaw t := by
  rw [linksLaw_iff] at law ⊢
  exact fun l => ⟨f.stands (law l).1, f.below (law l).2⟩

/-! #### Notices and conditions -/

theorem raise {n : Notice} (named : n ≠ .linkLost .L0) (s : State) : Raises s (Machine.raise n s) := by
  refine ⟨raise_pending n s, raise_limits n s, bare_raise n s, fun l sound => ?_⟩
  rw [raise_link]
  split_ifs with reached
  · exact itemsSound_noted sound reached named
  · exact sound

theorem raiseTo {n : Notice} {m : LinkId} (reached : m ∈ towards n.kind) (named : n ≠ .linkLost .L0) (s : State) :
    Raises s (Machine.raiseTo n m s) := by
  refine ⟨raiseTo_pending n m s, raiseTo_limits n m s, fun l => ?_, fun l sound => ?_⟩ <;>
    rw [raiseTo_link_eq] <;> split_ifs with e
  · unfold noted; split_ifs <;> rfl
  · rfl
  · subst e; exact itemsSound_noted sound reached named
  · exact sound

theorem reporting (f : State → State) (s : State) : Raises (f s) (Machine.reporting f s) := by
  refine ⟨reporting_pending f s, reporting_limits f s, fun l => ?_, fun l sound => ?_⟩ <;> rw [reporting_link]
  · simp only [Heads.bare_reported]
  · exact itemsSound_reported _ _ _ (itemsSound_reported _ _ _ (itemsSound_reported _ _ _ sound))

/-- A change of the roll or the pages, reported. -/
theorem reporting_of {f : State → State} (change : Raises s (f s)) : Raises s (Machine.reporting f s) :=
  change.trans (reporting f s)

/-! #### The roll -/

theorem setSlot (s : State) (k : SlotId) (x : Slot) : Raises s (s.setSlot k x) := of_same rfl rfl rfl
theorem updSlot (s : State) (k : SlotId) (f : Slot → Slot) : Raises s (s.updSlot k f) := of_same rfl rfl rfl
theorem setHead (s : State) (h : HeadId) (x : Head) : Raises s (s.setHead h x) := of_same rfl rfl rfl
theorem enterUnheld (k : SlotId) (st : SlotState) (s : State) : Raises s (enterUnheld k st s) := of_same rfl rfl rfl
theorem enterHeld (k : SlotId) (st : SlotState) (w : Holder) (s : State) : Raises s (enterHeld k st w s) := of_same rfl rfl rfl
theorem post (k : SlotId) (f : Finding) (s : State) : Raises s (post k f s) := of_same rfl rfl rfl
theorem updTest (k : SlotId) (f : TestRecord → TestRecord) (s : State) : Raises s (updTest k f s) := of_same rfl rfl rfl

theorem enterAwaitStamp (k : SlotId) (s : State) : Raises s (enterAwaitStamp k s) :=
  (enterUnheld k _ s).trans (raise (by rintro ⟨⟩) _)

theorem enterAwaitScrap (k : SlotId) (s : State) : Raises s (enterAwaitScrap k s) :=
  (enterUnheld k _ s).trans (raise (by rintro ⟨⟩) _)

theorem enterReferred (k : SlotId) (s : State) : Raises s (enterReferred k s) := reporting_of (of_same rfl rfl rfl)

theorem leaveReferral (k : SlotId) (s : State) : Raises s (leaveReferral k s) := reporting_of (of_same rfl rfl rfl)

theorem giveUpClaim (k : SlotId) (s : State) : Raises s (giveUpClaim k s) := by
  obtain ⟨-, e⟩ | ⟨-, e⟩ | ⟨-, e⟩ | ⟨-, -, -, e⟩ := giveUpClaim_cases k s <;> rw [e]
  · exact enterUnheld k _ s
  · exact enterAwaitStamp k s
  · exact enterAwaitScrap k s
  · exact refl s

theorem dropClaims (l : LinkId) (s : State) : Raises s (dropClaims l s) :=
  foldl (fun u k => by unfold dropIfHeld; split_ifs; exacts [giveUpClaim k u, refl u]) allSlots s

theorem finishPageOp (p : PageId) (s : State) : Raises s (finishPageOp p s) := by
  refine (reporting_of ?_).trans (raise (by rintro ⟨⟩) _)
  simp only [finishChanges]
  split_ifs <;> cases p <;> exact of_same rfl rfl rfl

theorem moveOne (p : PageId) (k : SlotId) (c : ClosingRecord) (rest : List SlotId) (s : State) :
    Raises s (moveOne p k c rest s) := by
  have entered : Raises s (enterPage p c s) := by cases p <;> exact of_same rfl rfl rfl
  have freed : Raises s (freeSlot k rest (enterPage p c s)) := entered.trans (reporting_of (of_same rfl rfl rfl))
  rw [moveOne_eq]
  dsimp only
  split_ifs
  · exact freed.trans (finishPageOp p _)
  · exact freed

theorem moveRecords (s : State) : Raises s (moveRecords s) := by
  suffices ∀ n s, Raises s (moveUpTo n s) from this _ s
  intro n
  induction n with
  | zero => exact refl
  | succ n ih =>
    intro s
    unfold moveUpTo
    split
    · split
      · exact (moveOne _ _ _ _ s).trans (ih _)
      · exact refl s
    · exact refl s

theorem closeSlot (k : SlotId) (o : ClosingOutcome) (s : State) : Raises s (closeSlot k o s) := by
  have left (x : Slot) (u : State) : Raises u (leaveIfReferred x k u) := by
    unfold leaveIfReferred
    split_ifs
    · exact leaveReferral k u
    · exact refl u
  have unbound (x : Slot) (u : State) : Raises u (unbindOf x u) := by rw [unbindOf_keeps]; exact of_same rfl rfl rfl
  have joined (u : State) : Raises u (joinClosing k u) := of_same rfl rfl rfl
  rw [closeSlot_eq, setAside]
  exact (((setSlot s k _).trans (unbound _ _)).trans (left _ _)).trans ((joined _).trans (moveRecords _))

theorem applyOutcome (k : SlotId) (s : State) : Raises s (applyOutcome k s) := by
  unfold Machine.applyOutcome
  dsimp only
  split
  · exact closeSlot k _ s
  · split
    · exact enterAwaitStamp k s
    · exact enterAwaitScrap k s
    · split
      · exact enterUnheld k _ s
      · exact (post k _ s).trans (enterReferred k _)
    all_goals exact enterUnheld k _ s

/-! #### The heads -/

theorem lapse (h : HeadId) (s : State) : Raises s (lapse h s) := by
  rw [lapse_cases]
  split_ifs
  · exact refl s
  · exact (setHead s h _).trans (raise (by rintro ⟨⟩) _)

theorem lapseExpired (s : State) : Raises s (lapseExpired s) :=
  foldl (fun u h => by unfold lapseIfExpired; split_ifs; exacts [lapse h u, refl u]) allHeads s

theorem setProving (h : HeadId) (o : TestOutcome) (s : State) : Raises s (setProving h o s) := by
  cases o with
  | proved => exact setHead s h _
  | notProved => exact lapse h s
  | pass | condemn | invalid => exact refl s

theorem enterDone (h : HeadId) (k : SlotId) (o : TestOutcome) (rs : List Reason) (s : State) : Raises s (enterDone h k o rs s) :=
  (((updTest k _ s).trans (setHead _ h _)).trans (setProving h o _)).trans (raise (by rintro ⟨⟩) _)

theorem endByCause (h : HeadId) (k : SlotId) (c : EndCause) (s : State) : Raises s (endByCause h k c s) := by
  have posted : Raises s (postOrdinary k c.finding (s.updHead h (Head.countLoss c.reason))) := by
    rw [postOrdinary_eq]
    exact (setHead s h _).trans (setSlot _ k _)
  exact posted.trans (enterDone h k _ _ _)

theorem evaluate (h : HeadId) (k : SlotId) (ty : TypeFields) (p : Int) (s : State) : Raises s (evaluate h k ty p s) :=
  ((updTest k _ s).trans (foldl (fun u f => post k f u) _ _)).trans (enterDone h k _ _ _)

theorem carryOut (h : HeadId) (k : SlotId) (ty : TypeFields) (a : PairAction) (s : State) : Raises s (carryOut h k ty a s) := by
  cases a with
  | goesOn x => exact setHead s h x
  | zeroed x z => exact (setHead s h x).trans (updTest k _ _)
  | tailEnds x t => exact ((setHead s h x).trans (updTest k _ _)).trans (raise (by rintro ⟨⟩) _)
  | settles x p => exact (setHead s h x).trans (evaluate h k ty p _)
  | ends x c => exact (setHead s h x).trans (endByCause h k c _)

theorem takePair (h : HeadId) (p j : Reading) (s : State) : Raises s (takePair h p j s) := by
  unfold Machine.takePair
  split
  · exact carryOut h _ _ _ s
  · exact setHead s h _

theorem takePairAs (h : HeadId) (p j : Reading) (is : PairAction → Bool) (s : State) : Raises s (takePairAs h p j is s) := by
  unfold Machine.takePairAs
  split_ifs
  · exact takePair h p j s
  · exact refl s

theorem countProving (h : HeadId) (s : State) : Raises s (countProving h s) := by
  unfold Machine.countProving
  split
  · exact refl s
  · dsimp only
    split_ifs
    · exact (setHead s h _).trans (lapse h _)
    · exact setHead s h _

theorem beginTest (h : HeadId) (k : SlotId) (ps : Pressures) (s : State) : Raises s (beginTest h k ps s) := by
  have begun : Raises s (Heads.testBegun h k ps s) := of_same rfl rfl rfl
  rw [Heads.beginTest_eq]
  split_ifs
  · exact begun
  · exact begun.trans (countProving h _)

/-! #### A line reset, past its links (R24, R93) -/

theorem resetSlot (s : State) (k : SlotId) : Raises s (resetSlot s k) := by
  cases held : (s.slot k).holder with
  | none => rw [resetSlot_free held]; exact refl s
  | some w =>
    cases w with
    | link l => rw [resetSlot_claim held]; exact giveUpClaim k s
    | head h =>
      obtain phase | phase | phase | fly := phase_cases (s.head h).phase
      · rw [resetSlot_idle held phase]; exact refl s
      · rw [resetSlot_mounted held phase]; exact enterUnheld k _ s
      · rw [resetSlot_done held phase]; exact applyOutcome k s
      · have cut : Raises s (cutShort h k s) := of_same rfl rfl rfl
        rw [resetSlot_cut held fly]
        exact cut.trans (applyOutcome k _)

theorem resetHead (s : State) (h : HeadId) : Raises s (resetHead s h) := (setHead s h _).trans (lapse h _)

theorem lineReset (s : State) : Raises (linksReset s) (lineReset s) := by
  rw [lineReset_eq]
  exact (foldl resetSlot allSlots _).trans (foldl resetHead allHeads _)

end Raises

end Sys2Proof.Links

namespace Sys2Proof.Links

open Sys2Proof.Machine Sys2Proof.Safety Sys2Proof.Laws Sys2Proof.Roll Sys2Proof.Settings Sys2Proof.Closing

/-! ### Blocks that raise items at most -/

namespace Raises
variable (s : State)

theorem takeLookup (a : LookupArgs) : Raises s (takeLookup a s).1 := by
  unfold Machine.takeLookup
  split
  · exact refl s
  · split_ifs
    · exact refl s
    · exact onCarrier_either (refl s) fun _ => refl s
  · split <;> exact refl s

theorem takeNextReferral (a : Unit) : Raises s (takeNextReferral a s).1 := by
  unfold Machine.takeNextReferral
  split <;> exact refl s

theorem carryOutRuling (k : SlotId) (r : Ruling) : Raises s (carryOutRuling k r s).1 := by
  cases r with
  | retest =>
    simp only [Machine.carryOutRuling]
    split_ifs
    · exact refl s
    · exact ((leaveReferral k s).trans (updSlot _ k _)).trans (enterUnheld k _ _)
  | condemn => exact ((leaveReferral k s).trans (post k _ _)).trans (enterAwaitScrap k _)
  | withdraw =>
    simp only [Machine.carryOutRuling]
    split
    · exact refl s
    · exact closeSlot k _ s

theorem takeRule (a : RuleArgs) : Raises s (takeRule a s).1 := by
  unfold Machine.takeRule
  split
  · split_ifs
    · exact carryOutRuling s _ _
    · exact refl s
  · exact refl s
  · exact refl s

theorem takeWithdraw (c : Nat) : Raises s (takeWithdraw c s).1 :=
  onCarrier_either (refl s) fun k => by
    split
    · exact refl s
    · split_ifs
      · exact closeSlot k _ s
      · exact refl s

theorem takeBreakClaim (c : Nat) : Raises s (takeBreakClaim c s).1 :=
  onCarrier_either (refl s) fun k => by
    split
    · exact refl s
    · exact refl s
    · exact giveUpClaim k s

theorem takeSetDate (l : LinkId) (a : DateArgs) : Raises s (takeSetDate l a s).1 := by
  unfold Machine.takeSetDate
  split
  · exact refl s
  · dsimp only
    split_ifs <;> exact of_same rfl rfl rfl

/-- The number of a link names it, and no other number does. -/
theorem linkOf_eq_some (n : Nat) (l : LinkId) : linkOf n = some l ↔ n = linkNumber l := by
  constructor
  · intro place
    have least : n < 6 := by
      by_contra above
      rw [linkOf_none n (by omega)] at place
      cases place
    interval_cases n <;> (obtain rfl := Option.some.inj place; rfl)
  · rintro rfl
    exact linkOf_linkNumber l

/-- An item of FORCE_NOTICE is one that there is, directed to the link named (R184). -/
theorem readForced_some {a : ForceNoticeArgs} {m : LinkId} {n : Notice} (read : readForced a = some (m, n)) :
    m ∈ towards n.kind ∧ n ≠ .linkLost .L0 := by
  obtain ⟨link, kind, number⟩ := a
  simp only [readForced, Option.bind_eq_bind, Option.bind_eq_some_iff, Option.ite_none_right_eq_some, Option.some.injEq,
    Prod.mk.injEq] at read
  obtain ⟨m', -, k, rfl, n', forced, reached, rfl, rfl⟩ := read
  have made : n'.kind = k ∧ n' ≠ .linkLost .L0 := by
    cases k with
    | linkLost =>
      simp only [forcedNotice, Option.ite_none_left_eq_some, Option.map_eq_some_iff] at forced
      obtain ⟨named, l, place, rfl⟩ := forced
      refine ⟨rfl, ?_⟩
      rintro ⟨⟩
      exact named ((linkOf_eq_some _ _).mp place)
    | holdDone | testDone | headUnproved =>
      obtain ⟨h, -, rfl⟩ := Option.map_eq_some_iff.mp forced
      exact ⟨rfl, by rintro ⟨⟩⟩
    | _ =>
      obtain rfl := Option.some.inj forced
      exact ⟨rfl, by rintro ⟨⟩⟩
  exact ⟨made.1 ▸ reached, made.2⟩

theorem takeForceNotice (a : ForceNoticeArgs) : Raises s (takeForceNotice a s).1 := by
  unfold Machine.takeForceNotice
  split
  · exact refl s
  · rename_i m n read
    obtain ⟨reached, named⟩ := readForced_some read
    split_ifs
    · exact refl s
    · exact raiseTo reached named s

theorem bindSlot (c : Fin 255) (k : SlotId) (x : Slot) : Raises s (bindSlot c k x s) := by
  have bound : Raises s ((s.setSlot k x).bind c (some k)) := of_same rfl rfl rfl
  exact reporting_of bound

theorem admitChecked (p : BindingParams) (proving : Bool) (make : Identity → Slot) : Raises s (admitChecked p proving make s).1 := by
  unfold Machine.admitChecked
  split
  · exact refl s
  · split_ifs
    · exact refl s
    · exact refl s
    · exact refl s
    · split
      · exact refl s
      · exact bindSlot s _ _ _

theorem takeAdmitOrdinary (a : AdmitArgs) : Raises s (takeAdmitOrdinary a s).1 := by
  unfold Machine.takeAdmitOrdinary
  split
  · exact refl s
  · split
    · exact admitChecked s _ _ _
    · exact refl s
    · exact refl s

theorem takeAdmitProving (a : AdmitProvingArgs) : Raises s (takeAdmitProving a s).1 := by
  unfold Machine.takeAdmitProving
  split
  · exact refl s
  · split
    · exact admitChecked s _ _ _
    · exact refl s

theorem takeClaim (l : LinkId) (c : Nat) : Raises s (takeClaim l c s).1 :=
  claimCheck_either (refl s) fun k => enterHeld k _ _ s

theorem takeFinding (l : LinkId) (a : FindingArgs) : Raises s (takeFinding l a s).1 :=
  asHolder_either (refl s) fun k _ => by
    split
    · exact post k _ s
    · exact refl s

theorem takeWeigh (l : LinkId) (a : WeighArgs) : Raises s (takeWeigh l a s).1 :=
  asHolder_either (refl s) fun k _ => by
    dsimp only
    split_ifs
    · exact refl s
    · exact refl s
    · exact setSlot s k _

theorem routeInspected (k : SlotId) : Raises s (routeInspected k s) := by
  unfold Machine.routeInspected
  split
  · exact enterUnheld k _ s
  · exact enterUnheld k _ s
  · exact enterReferred k s
  · exact enterAwaitScrap k s

theorem takeInspected (l : LinkId) (c : Nat) : Raises s (takeInspected l c s).1 :=
  asHolder_either (refl s) fun k _ => by
    dsimp only
    split_ifs
    · exact refl s
    · refine .trans ?_ (routeInspected _ k)
      unfold ageCheck
      split_ifs
      · exact post k _ s
      · exact refl s

theorem takeRelease (l : LinkId) (c : Nat) : Raises s (takeRelease l c s).1 :=
  asHolder_either (refl s) fun k _ => giveUpClaim k s

theorem takeMount (a : MountArgs) : Raises s (takeMount a s).1 :=
  onHead_either (refl s) fun h => onCarrier_either (refl s) fun k => by
    dsimp only
    split_ifs
    · exact refl s
    · exact refl s
    · exact refl s
    · exact (enterHeld k _ _ s).trans (setHead _ h _)

theorem takeBegin (n : Nat) : Raises s (takeBegin n s).1 :=
  onHead_either (refl s) fun h => by
    dsimp only
    split
    · split_ifs
      · exact refl s
      · split
        · exact refl s
        · split
          · exact refl s
          · exact beginTest h _ _ s
    · exact refl s

theorem takeAbort (n : Nat) : Raises s (takeAbort n s).1 :=
  onHead_either (refl s) fun h => by
    dsimp only
    split
    · exact endByCause h _ _ s
    · exact refl s

theorem takeDismount (n : Nat) : Raises s (takeDismount n s).1 :=
  onHead_either (refl s) fun h => by
    dsimp only
    split
    · exact refl s
    · split
      · exact refl s
      · rename_i m _
        split_ifs
        · exact (setHead s h _).trans (enterUnheld m.slot _ _)
        · exact (setHead s h _).trans (applyOutcome m.slot _)
        · exact refl s

theorem takeHeadSetup (a : HeadSetupArgs) : Raises s (takeHeadSetup a s).1 :=
  onHead_either (refl s) fun h => by
    split_ifs
    · exact refl s
    · exact setHead s h _

theorem takeClaimStamp (l : LinkId) (c : Nat) : Raises s (takeClaimStamp l c s).1 :=
  claimCheck_either (refl s) fun k => by
    split_ifs
    · exact refl s
    · have claimed : Raises s (takeStampClaim l k s) := (enterHeld k _ _ s).trans (updSlot _ k _)
      exact claimed

theorem takeStamped (l : LinkId) (c : Nat) : Raises s (takeStamped l c s).1 :=
  asHolder_either (refl s) fun k _ => closeSlot k _ s

theorem takeClaimScrap (l : LinkId) (c : Nat) : Raises s (takeClaimScrap l c s).1 :=
  claimCheck_either (refl s) fun k => enterHeld k _ _ s

theorem takeScrapped (l : LinkId) (a : ScrappedArgs) : Raises s (takeScrapped l a s).1 :=
  asHolder_either (refl s) fun k _ => by
    split
    · exact refl s
    · exact (updSlot s k _).trans (closeSlot k _ _)

theorem takeLoadType (a : LoadTypeArgs) : Raises s (takeLoadType a s).1 := by
  unfold Machine.takeLoadType
  split
  · exact refl s
  · split_ifs
    · exact refl s
    · exact of_same rfl rfl rfl

theorem takeDropType (n : Nat) : Raises s (takeDropType n s).1 := by
  unfold Machine.takeDropType
  split
  · exact refl s
  · dsimp only
    split_ifs
    · exact refl s
    · exact refl s
    · exact of_same rfl rfl rfl

theorem takeReadType (n : Nat) : Raises s (takeReadType n s).1 := by
  unfold Machine.takeReadType
  split
  · exact refl s
  · split <;> exact refl s

theorem takeSetMark (t : Text) : Raises s (takeSetMark t s).1 := by
  unfold Machine.takeSetMark
  split
  · exact refl s
  · exact of_same rfl rfl rfl

theorem takeReadPage (i : Nat) : Raises s (takeReadPage i s).1 := by
  unfold Machine.takeReadPage
  split_ifs
  · exact refl s
  · split
    · exact refl s
    · split <;> exact refl s

theorem takeTurnPage (n : Nat) : Raises s (takeTurnPage n s).1 := by
  unfold Machine.takeTurnPage
  split_ifs
  · exact refl s
  · split
    · exact refl s
    · rename_i p _
      split_ifs
      · exact refl s
      · exact (reporting_of (by cases p <;> exact of_same rfl rfl rfl)).trans (moveRecords _)

theorem takeFinishPage (a : Unit) : Raises s (takeFinishPage a s).1 := by
  unfold Machine.takeFinishPage
  split
  · exact refl s
  · split_ifs
    · exact refl s
    · exact (finishPageOp _ s).trans (moveRecords _)

end Raises

end Sys2Proof.Links

namespace Sys2Proof.Links

open Sys2Proof.Machine Sys2Proof.Safety Sys2Proof.Laws Sys2Proof.Roll Sys2Proof.Settings Sys2Proof.Closing

/-! ### Links lost (R180)

The loss of every silent link restores what the timed links must be below, whatever their timers and the limit were before. -/

theorem stands_loseLink {m : LinkId} (timed : m ≠ .L0) {s : State} (stands : ∀ l, Stands l (s.link l)) :
    ∀ l, Stands l ((loseLink m s).link l) := by
  have marked : ∀ l, Stands l ((s.updLink m fun k => { k with state := .lost }).link l) := by
    intro l
    rw [State.link_updLink]
    split_ifs with e
    · subst e
      obtain ⟨⟨-, inFrame, counts⟩, ⟨once, directed, -⟩, -⟩ := stands l
      exact ⟨⟨by rintro ⟨⟩, inFrame, counts⟩, ⟨once, directed, by rintro ⟨⟩⟩, fun h => absurd h timed⟩
    · exact stands l
  have raises : Raises (s.updLink m fun k => { k with state := .lost }) (loseLink m s) :=
    (Raises.dropClaims m _).trans (.raise (by simpa using timed) _)
  exact fun l => raises.stands (marked l)

theorem stands_loseSilentLinks {s : State} (stands : ∀ l, Stands l (s.link l)) : ∀ l, Stands l ((loseSilentLinks s).link l) := by
  suffices ∀ ms : List LinkId, (∀ m ∈ ms, m ≠ .L0) → ∀ s : State, (∀ l, Stands l (s.link l)) →
      ∀ l, Stands l ((ms.foldl loseIfSilent s).link l) from this timedLinks (fun m => (mem_timedLinks m).mp) s stands
  intro ms
  induction ms with
  | nil => exact fun _ _ stands => stands
  | cons m ms ih =>
    intro timed s stands
    refine ih (fun a mem => timed a (List.mem_cons_of_mem m mem)) _ ?_
    unfold loseIfSilent
    split_ifs
    · exact stands_loseLink (timed m List.mem_cons_self) stands
    · exact stands

theorem sameButLine_loseSilentLinks (s : State) : SameButLine s (loseSilentLinks s) := .foldl sameButLine_loseIfSilent timedLinks s

theorem below_loseSilentLinks (s : State) (l : LinkId) :
    Below (loseSilentLinks s).limits.silence l ((loseSilentLinks s).link l) := by
  classical
  intro timed runs limit
  have link := bare_loseSilentLinks s l
  rw [(sameButLine_loseSilentLinks s).limits] at limit ⊢
  have state : ((loseSilentLinks s).link l).state = _ := (congrArg Link.state link :)
  have timer : ((loseSilentLinks s).link l).timer = _ := (congrArg Link.timer link :)
  split_ifs at state timer with silent
  · rw [state] at runs; cases runs
  · rw [timer]
    by_contra reached
    exact silent ⟨timed, (silentAt_iff s l).mpr ⟨state.symm.trans runs, limit, not_lt.mp reached⟩⟩

/-- Links that stand are lawful once the silent ones are lost. -/
theorem linksLaw_loseSilentLinks {s : State} (stands : ∀ l, Stands l (s.link l)) : LinksLaw (loseSilentLinks s) :=
  (linksLaw_iff _).mpr fun l => ⟨stands_loseSilentLinks stands l, below_loseSilentLinks s l⟩

theorem queue_of_sameButLine {s t : State} (same : SameButLine s t) : t.pending = s.pending := by rw [same]

theorem stands_of_law {s : State} (law : LinksLaw s) (l : LinkId) : Stands l (s.link l) := ((linksLaw_iff s).mp law l).1

/-! ### Blocks that act on the links themselves -/

/-- A link that is not STOPPED and whose receiver is out of a frame: its answer can be awaited (R174, R178). -/
def Hears (k : Link) : Prop := k.state ≠ .stopped ∧ k.rx ≠ .inFrame

/-- What a block does for link l: the queue and the links' law are kept, and the link can be answered as before. -/
structure Serves (l : LinkId) (s t : State) : Prop where
  queue : t.pending = s.pending
  law : LinksLaw s → LinksLaw t
  hears : Hears (s.link l) → Hears (t.link l)

theorem Raises.serves {s t : State} (f : Raises s t) (l : LinkId) : Serves l s t :=
  ⟨f.queue, f.law, by unfold Hears; rw [f.state, f.rx]; exact id⟩

namespace Serves
variable {l : LinkId} (s : State)

theorem refl : Serves l s s := (Raises.refl s).serves l

/-- A change of one link that keeps its receiver's and its items' law, its state and its timer. -/
theorem updLink {m : LinkId} {f : Link → Link} (state : (f (s.link m)).state = (s.link m).state)
    (rx : (f (s.link m)).rx = (s.link m).rx) (timer : (f (s.link m)).timer = (s.link m).timer)
    (receiver : ReceiverSound (s.link m) → ReceiverSound (f (s.link m)))
    (items : ItemsSound m (s.link m) → ItemsSound m (f (s.link m))) : Serves l s (s.updLink m f) := by
  refine ⟨rfl, fun law => linksLaw_updLink law fun stands below => ⟨⟨receiver stands.receiver, items stands.items, ?_⟩, ?_⟩, ?_⟩
  · rw [state]; exact stands.supervisor
  · unfold Below; rwa [state, timer]
  · rw [State.link_updLink]
    split_ifs with e
    · subst e; unfold Hears; rw [state, rx]; exact id
    · exact id

theorem takeNotices (a : Unit) : Serves l s (takeNotices l a s).1 :=
  updLink (f := fun k => { k with pending := [] }) s rfl rfl rfl (fun R => ⟨R.stopped, R.inFrame, R.counts⟩)
    fun _ => ⟨List.nodup_nil, by rintro _ ⟨⟩, fun _ => rfl⟩

theorem takeNoticeSetup (a : NoticeSetupArgs) : Serves l s (takeNoticeSetup l a s).1 := by
  unfold Machine.takeNoticeSetup
  split_ifs
  · exact updLink (f := fun k => { k with enables := _, edges := _ }) s rfl rfl rfl
      (fun R => ⟨R.stopped, R.inFrame, R.counts⟩) fun I => ⟨I.once, I.directed, I.stopped⟩
  · exact refl s

theorem takeClearErrors (names : BitVec 8) : Serves l s (takeClearErrors l names s).1 :=
  updLink (f := fun k => { k with flags := clearNamed names k.flags }) s rfl rfl rfl
    (fun R => ⟨R.stopped, R.inFrame, R.counts⟩) fun I => ⟨I.once, I.directed, I.stopped⟩

/-- STOP_LINK of a link but L0, sent on L0 (R181). -/
theorem takeStopLink (n : Nat) : Serves .L0 s (takeStopLink n s).1 := by
  unfold Machine.takeStopLink
  split
  · exact refl s
  · rename_i m _
    split_ifs with self
    · exact refl s
    · exact refl s
    · have dropped := Raises.dropClaims m s
      have stopped {u : State} (law : LinksLaw u) : LinksLaw (u.updLink m Link.stop) := by
        refine linksLaw_updLink law fun stands _ => ⟨⟨⟨fun _ => ⟨rfl, rfl, fun o sent => ?_⟩, ?_, stands.receiver.counts⟩,
          ⟨List.nodup_nil, ?_, fun _ => rfl⟩, fun h => absurd h self⟩, ?_⟩
        · simpa using (Option.filter_eq_some_iff.mp sent).2
        · rintro ⟨⟩
        · rintro _ ⟨⟩
        · rintro _ ⟨⟩
      refine ⟨(State.updLink_pending _ m Link.stop).trans dropped.queue, stopped ∘ dropped.law, ?_⟩
      dsimp only
      rw [State.link_updLink_other _ _ _ _ (Ne.symm self)]
      exact (dropped.serves .L0).hears

/-- START_LINK leaves its link RUNNING and its timer below any limit (R181). -/
theorem takeStartLink (n : Nat) : Serves l s (takeStartLink n s).1 := by
  unfold Machine.takeStartLink
  split
  · exact refl s
  · refine ⟨rfl, fun law => linksLaw_updLink law fun stands _ => ⟨⟨?_, ?_, fun _ => rfl⟩, ?_⟩, ?_⟩
    · exact ⟨by rintro ⟨⟩, by rintro ⟨⟩, stands.receiver.counts⟩
    · exact ⟨stands.items.once, stands.items.directed, by rintro ⟨⟩⟩
    · exact fun _ _ limit => Nat.pos_of_ne_zero limit
    · rw [State.link_updLink]
      split_ifs
      · exact fun _ => ⟨by rintro ⟨⟩, by rintro ⟨⟩⟩
      · exact id

/-- The links lost to silence can be answered as before, no link being STOPPED and no receiver moved; whatever the limit was
(R38, R180). -/
theorem loseSilentLinks {l : LinkId} {s v u : State} (queue : v.pending = s.pending) (link : ∀ m, v.link m = s.link m)
    (raised : Raises v u) : Serves l s (loseSilentLinks u) := by
  classical
  refine ⟨(queue_of_sameButLine (sameButLine_loseSilentLinks u)).trans (raised.queue.trans queue),
    fun law => linksLaw_loseSilentLinks fun m => raised.stands (link m ▸ stands_of_law law m), fun hears => ?_⟩
  rw [← link] at hears
  obtain ⟨listens, out⟩ := (raised.serves l).hears hears
  have same := bare_loseSilentLinks u l
  have state : ((Machine.loseSilentLinks u).link l).state = _ := (congrArg Link.state same :)
  have rx : ((Machine.loseSilentLinks u).link l).rx = _ := (congrArg Link.rx same :)
  unfold Hears
  rw [state, rx]
  split_ifs
  · exact ⟨by rintro ⟨⟩, out⟩
  · exact ⟨listens, out⟩

theorem takeSetLimits {l : LinkId} (s : State) (a : LimitsArgs) : Serves l s (takeSetLimits a s).1 := by
  unfold Machine.takeSetLimits
  split
  · exact refl s
  · rename_i x _
    have lapsed : Raises { s with limits := x } (lapseExpired { s with limits := x }) := .lapseExpired _
    dsimp only
    exact loseSilentLinks (v := { s with limits := x }) rfl (fun _ => rfl) lapsed

end Serves

/-! ### Every command -/

/-- A command leaves the queue as it was and keeps the links' law. -/
structure Keeps (s t : State) : Prop where
  queue : t.pending = s.pending
  law : LinksLaw s → LinksLaw t

theorem Raises.keeps {s t : State} (f : Raises s t) : Keeps s t := ⟨f.queue, f.law⟩

/-- The timers of L1 to L5 rise. -/
theorem link_tickTimers (s : State) (l : LinkId) :
    (tickTimers s).link l = if l ∈ timedLinks then (s.link l).tick else s.link l := by
  rw [tickTimers, link_foldl (g := fun _ => Link.tick) (fun s l m => ?_) timedLinks_nodup]
  rw [State.link_updLink]
  split_ifs with e
  · rw [e]
  · rfl

namespace Keeps
variable {s t : State}

theorem refl (s : State) : Keeps s s := ⟨rfl, id⟩

theorem receives {l : LinkId} {f : Link → Link} (event : Receives (s.link l) (f (s.link l))) : Keeps s (s.updLink l f) :=
  ⟨rfl, fun law => linksLaw_receives law event⟩

/-- A link that is ready for a frame is not STOPPED. -/
theorem listens_of_ready {k : Link} (ready : k.ready = true) : k.state ≠ .stopped := (of_decide_eq_true ready).1

/-- A good frame on a link that is ready leaves the link lawful, and out of the frame (R173, R180). -/
theorem goodFrame {l : LinkId} (ready : (s.link l).ready = true) :
    Keeps s (s.updLink l Link.goodFrame) ∧ Hears ((s.updLink l Link.goodFrame).link l) := by
  have listens : (s.link l).goodFrame.state ≠ .stopped := by
    have was := listens_of_ready ready
    unfold Link.goodFrame
    split_ifs
    · rintro ⟨⟩
    · exact was
  refine ⟨⟨rfl, fun law => linksLaw_updLink law fun stands _ => ⟨⟨?_, ?_, fun e => ?_⟩, fun _ _ limit => Nat.pos_of_ne_zero limit⟩⟩, ?_⟩
  · exact ⟨fun h => absurd h listens, by rintro ⟨⟩, stands.receiver.counts⟩
  · exact ⟨stands.items.once, stands.items.directed, fun h => absurd h listens⟩
  · have runs := stands.supervisor e
    simp [Link.goodFrame, runs]
  · rw [State.link_updLink_self]
    exact ⟨listens, by rintro ⟨⟩⟩

/-- A frame taken: the good frame, what its block does, and the answer; any other frame is its start byte at most. -/
theorem onFrame {l : LinkId} {code : Nat} {handle : State → State × Reply} (step : ∀ u, Serves l u (handle u).1) :
    Keeps s (onFrame l (takeGood l code handle) s) := by
  unfold Machine.onFrame
  split_ifs with powered ready
  · obtain ⟨frame, hears⟩ := goodFrame ready
    have block := step (s.updLink l Link.goodFrame)
    refine ⟨block.queue.trans frame.queue, fun law => linksLaw_receives (block.law (frame.law law)) ?_⟩
    obtain ⟨listens, out⟩ := block.hears hears
    exact .answer code _ listens out
  · exact receives (.startByte _)
  · exact refl s

theorem request {α : Type} {l : LinkId} {r : Request} {b : Body α} {take : α → State → State × Reply}
    (e : request l r b take s = .next t) (step : ∀ a u, admits l r = true → Serves l u (take a u).1) : Keeps s t := by
  obtain rfl := Host.Outcome.next.inj e
  refine onFrame fun u => ?_
  unfold checked
  split_ifs with adm
  · cases b with
    | fields a => exact step a u adm
    | wrongLength => exact .refl u
  · exact .refl u

/-- A request whose block raises items at most. -/
theorem request_raises {α : Type} {l : LinkId} {r : Request} {b : Body α} {take : α → State → State × Reply}
    (e : Machine.request l r b take s = .next t) (step : ∀ a u, Raises u (take a u).1) : Keeps s t :=
  request e fun a u _ => (step a u).serves l

theorem event {f : State → State} (e : event f s = .next t) (step : Keeps s (f s)) : Keeps s t := by
  obtain rfl | rfl := event_next e
  · exact step
  · exact refl t

/-- Every link starts afresh, and the rest raises items at most (R185). -/
theorem lineReset (s : State) : Keeps s (lineReset s) := by
  have rest := Raises.lineReset s
  refine ⟨rest.queue, fun law => rest.law ((linksLaw_iff _).mpr fun l => ?_)⟩
  have stands := stands_of_law law l
  have link : (linksReset s).link l = (s.link l).lineReset := by cases l <;> rfl
  rw [link]
  exact ⟨⟨⟨by rintro ⟨⟩, by rintro ⟨⟩, stands.receiver.counts⟩, ⟨List.nodup_nil, by rintro _ ⟨⟩, fun _ => rfl⟩, fun _ => rfl⟩,
    fun _ _ limit => Nat.pos_of_ne_zero limit⟩

theorem answerSent (l : LinkId) (s : State) : Keeps s (answerSent l s) := by
  have freed : Keeps s (s.updLink l fun k => { k with tx := none }) := receives (.lineFreed _)
  obtain ⟨-, e⟩ | ⟨o, -, e⟩ := answerSent_cases l s <;> rw [e]
  · exact refl s
  · split_ifs
    · have reset := lineReset (s.updLink l fun k => { k with tx := none })
      exact ⟨reset.queue, reset.law ∘ freed.law⟩
    · exact freed

/-- A timer that rises leaves its link sound; whether it is below the limit the loss of the silent links sees to. -/
theorem stands_tick {l : LinkId} {k : Link} (stands : Stands l k) : Stands l k.tick := by
  unfold Link.tick
  split_ifs with stopped
  · exact stands
  · obtain ⟨⟨-, inFrame, counts⟩, ⟨once, directed, -⟩, supervisor⟩ := stands
    exact ⟨⟨fun h => absurd h stopped, inFrame, counts⟩, ⟨once, directed, fun h => absurd h stopped⟩, supervisor⟩

theorem stands_tickTimers {s : State} (stands : ∀ l, Stands l (s.link l)) : ∀ l, Stands l ((tickTimers s).link l) := by
  intro l
  rw [link_tickTimers]
  split_ifs
  · exact stands_tick (stands l)
  · exact stands l

/-- The timers rise, the links that have fallen silent are lost, and proving records lapse (R122, R180). -/
theorem advanceClock (s : State) : Keeps s (advanceClock s) := by
  unfold Machine.advanceClock
  split_ifs
  · generalize later : { s with clock := s.clock + 1 } = u
    have queue : u.pending = s.pending := by rw [← later]
    have link (l : LinkId) : u.link l = s.link l := by rw [← later]; rfl
    have lapsed := Raises.lapseExpired (loseSilentLinks (tickTimers u))
    refine ⟨?_, fun law => lapsed.law (linksLaw_loseSilentLinks (stands_tickTimers fun l => link l ▸ stands_of_law law l))⟩
    rw [lapsed.queue, queue_of_sameButLine (sameButLine_loseSilentLinks _), ← queue]
    exact foldl_keeps (fun s => s.pending) _ (fun _ _ => rfl) timedLinks u
  · exact refl s

theorem restart (s : State) : Keeps s s.restart := by
  have link := (restart_volatile s).2.2.1
  refine ⟨rfl, fun _ => (linksLaw_iff _).mpr fun l => ?_⟩
  obtain ⟨receiver, items⟩ := (linkSound_iff l _).mp (linkSound_initial l)
  rw [link]
  exact ⟨⟨receiver, items, fun _ => rfl⟩, fun _ _ limit => Nat.pos_of_ne_zero limit⟩

end Keeps

/-- What a command does to the queue and the links' law, whatever the state it meets. -/
theorem keeps_exec {c : Instr} {s t : State} (e : exec c s = .next t) : Keeps s t := by
  cases c with
  | status | readStats | lineReset => exact .request_raises e fun _ u => .refl u
  | snapshot => exact .request_raises e fun _ u => .of_same rfl rfl rfl
  | headStatus => exact .request_raises e fun _ u => onHead_either (.refl u) fun _ => .refl u
  | notices => exact .request e fun a u _ => .takeNotices u a
  | noticeSetup => exact .request e fun a u _ => .takeNoticeSetup u a
  | clearErrors => exact .request e fun a u _ => .takeClearErrors u a
  | stopLink l =>
    refine .request e fun a u adm => ?_
    obtain rfl : l = .L0 := by simpa [admits] using adm
    exact .takeStopLink u a
  | startLink => exact .request e fun a u _ => .takeStartLink u a
  | setLimits => exact .request e fun a u _ => .takeSetLimits u a
  | lookup => exact .request_raises e fun a u => .takeLookup u a
  | nextReferral => exact .request_raises e fun a u => .takeNextReferral u a
  | rule => exact .request_raises e fun a u => .takeRule u a
  | withdraw => exact .request_raises e fun a u => .takeWithdraw u a
  | breakClaim => exact .request_raises e fun a u => .takeBreakClaim u a
  | setDate l => exact .request_raises e fun a u => .takeSetDate u l a
  | forceNotice => exact .request_raises e fun a u => .takeForceNotice u a
  | admitOrdinary => exact .request_raises e fun a u => .takeAdmitOrdinary u a
  | admitProving => exact .request_raises e fun a u => .takeAdmitProving u a
  | claim l => exact .request_raises e fun a u => .takeClaim u l a
  | finding l => exact .request_raises e fun a u => .takeFinding u l a
  | weigh l => exact .request_raises e fun a u => .takeWeigh u l a
  | inspected l => exact .request_raises e fun a u => .takeInspected u l a
  | release l => exact .request_raises e fun a u => .takeRelease u l a
  | mount => exact .request_raises e fun a u => .takeMount u a
  | begin => exact .request_raises e fun a u => .takeBegin u a
  | abort => exact .request_raises e fun a u => .takeAbort u a
  | dismount => exact .request_raises e fun a u => .takeDismount u a
  | headSetup => exact .request_raises e fun a u => .takeHeadSetup u a
  | claimStamp l => exact .request_raises e fun a u => .takeClaimStamp u l a
  | stamped l => exact .request_raises e fun a u => .takeStamped u l a
  | claimScrap l => exact .request_raises e fun a u => .takeClaimScrap u l a
  | scrapped l => exact .request_raises e fun a u => .takeScrapped u l a
  | loadType => exact .request_raises e fun a u => .takeLoadType u a
  | dropType => exact .request_raises e fun a u => .takeDropType u a
  | readType => exact .request_raises e fun a u => .takeReadType u a
  | setMark => exact .request_raises e fun a u => .takeSetMark u a
  | readPage => exact .request_raises e fun a u => .takeReadPage u a
  | turnPage => exact .request_raises e fun a u => .takeTurnPage u a
  | finishPage => exact .request_raises e fun a u => .takeFinishPage u a
  | resetPushbutton => exact .event e (.lineReset s)
  | answerSent l => exact .event e (.answerSent l s)
  | moveRecords => exact .event e (Raises.moveRecords s).keeps
  | unitClockAdvance => exact .event e (.advanceClock s)
  | silenceTimeout | lapseByTime =>
    refine .event e ?_
    split_ifs
    exacts [.advanceClock s, .refl s]
  | overrun =>
    refine .event e ?_
    split_ifs
    exacts [.receives (.startByte _), .refl s]
  | parity l b =>
    refine .event e (.receives ?_)
    split_ifs
    exacts [(Receives.startByte _).trans (.badCharacter _ _), .badCharacter _ _]
  | framing l b =>
    refine .event e (.receives ?_)
    split_ifs
    exacts [(Receives.startByte _).trans (.badCharacter _ _), .badCharacter _ _]
  | fragment l c => exact .event (f := fun s => s.updLink l _) e (.receives (.fragmentThen c _))
  | check l => exact .event (f := fun s => s.updLink l _) e (.receives (.checkFault _))
  | gapOver20ms l => exact .event (f := fun s => s.updLink l _) e (.receives (.gap _))
  | readingPair h p j => exact .event e (Raises.takePair h p j s).keeps
  | zeroTimeout | rampTimeout | holdComplete | tailEnd | releaseTimeout | settleTimeout =>
    obtain rfl := Host.Outcome.next.inj e
    exact (Raises.takePairAs _ _ _ _ s).keeps
  | unknownCode l code =>
    obtain rfl := Host.Outcome.next.inj e
    exact .onFrame fun u => .refl u
  | lengthByteFault l n =>
    obtain rfl := Host.Outcome.next.inj e
    unfold onFrame
    split_ifs with _ ready
    exacts [.receives (.badLength (Keeps.listens_of_ready ready)), .receives (.startByte _), .refl s]
  | powerOn =>
    obtain rfl := Host.Outcome.next.inj e
    have filled : Raises s.restart (fillFirstPage s.restart) := by rw [fillFirstPage_eq]; exact .of_same rfl rfl rfl
    exact ⟨filled.queue, fun law => filled.law ((Keeps.restart s).law law)⟩
  | powerLoss =>
    obtain rfl := Host.Outcome.next.inj e
    have off : Raises s.restart { s.restart with powered := false } := .of_same rfl rfl rfl
    exact ⟨off.queue, fun law => off.law ((Keeps.restart s).law law)⟩

/-- Every command has a next state: each arm of `exec` is a request or an event of the unit. -/
theorem exec_next (c : Instr) (s : State) : ∃ t, exec c s = .next t := by cases c <;> exact ⟨_, rfl⟩

/-- Settles O2: every command has a next state, and what every command keeps includes the queue. -/
theorem everyCommandCompletes : Obligations.EveryCommandCompletes := fun c s => by
  obtain ⟨t, e⟩ := exec_next c s
  exact ⟨t, e, (keeps_exec e).queue⟩

/-- Settles O20: the command at the front keeps the law, and on an empty queue each link begins its awaited answer at most. -/
theorem stepKeepsLinksLaw : Obligations.StepKeepsLinksLaw := by
  intro s t law e
  cases q : s.pending with
  | nil =>
    rw [step_empty q] at e
    obtain rfl := Host.Outcome.next.inj e
    cases powered : s.powered with
    | false => rwa [idle_unpowered powered]
    | true =>
      rw [linksLaw_iff] at law ⊢
      have limits : (idle s).limits = s.limits := by rw [idle_keeps]
      intro l
      rw [idle_link powered, limits]
      exact ⟨(Receives.beginAnswer _).stands (law l).1, (Receives.beginAnswer _).below (law l).2⟩
  | cons c rest =>
    rw [step_front q] at e
    exact (keeps_exec e).law ⟨law.sound, law.supervisor, law.timed⟩

end Sys2Proof.Links

namespace Sys2Proof.Links

open Sys2Proof.Machine Sys2Proof.Safety Sys2Proof.Laws

/-! ### Steps (R174, R178) -/

/-- An answer that is awaited begins with the flags of the moment; one being sent stands. -/
theorem begin_eq (flags : PerFault Bool) (o : Outgoing) :
    Outgoing.begin flags o = if o.stage = .awaited then ⟨.sending, { o.answer with flags := flags }⟩ else o := by
  obtain ⟨stage, answer⟩ := o
  cases stage <;> rfl

/-- Settles O1: a step is the command at the front, or idling, which begins the answers that are awaited. -/
theorem stepTakesFrontCommand : Obligations.StepTakesFrontCommand := by
  refine ⟨fun s c rest => step_front, fun s empty => ⟨idle s, step_empty empty, idle_keeps s, fun l => ?_⟩⟩
  cases powered : s.powered with
  | false => rw [idle_unpowered powered, if_neg (by simp)]
  | true =>
    rw [idle_link powered, if_pos rfl, Link.beginAnswer]
    simp only [funext (begin_eq _)]

/-! ### Frames that a link takes or does not take (R173, R177, R178) -/

section
variable {s : State} {l : LinkId} {good : State → State}

theorem onFrame_unpowered (off : s.powered = false) : onFrame l good s = s := by simp [onFrame, off]

theorem onFrame_ready (powered : s.powered = true) (ready : (s.link l).ready = true) : onFrame l good s = good s := by
  simp [onFrame, powered, ready]

/-- A frame that its link does not take is its start byte. -/
theorem onFrame_unready (powered : s.powered = true) (busy : (s.link l).ready = false) :
    onFrame l good s = s.updLink l Link.startByte := by
  simp [onFrame, powered, busy]

theorem ready_iff (k : Link) : k.ready = true ↔ k.state ≠ .stopped ∧ k.rx ≠ .discarding ∧ (k.rx = .hunting → k.tx = none) :=
  decide_eq_true_iff

/-- A STOPPED link or a discarding receiver takes no notice of a frame. -/
theorem onFrame_deaf (deaf : (s.link l).state = .stopped ∨ (s.link l).rx = .discarding) : onFrame l good s = s := by
  cases powered : s.powered with
  | false => exact onFrame_unpowered powered
  | true =>
    have busy : (s.link l).ready = false := by
      rw [← Bool.not_eq_true, ready_iff]
      rintro ⟨listens, hunts, -⟩
      exact deaf.elim listens hunts
    rw [onFrame_unready powered busy]
    refine updLink_fixed ?_
    obtain stopped | discards := deaf
    · exact startByte_stopped stopped
    · exact startByte_not_hunting (by rw [discards]; rintro ⟨⟩)

/-- A frame on an occupied line is an overrun. -/
theorem onFrame_busy (powered : s.powered = true) (listens : (s.link l).state ≠ .stopped) (hunts : (s.link l).rx = .hunting)
    (busy : (s.link l).tx ≠ none) :
    onFrame l good s = s.updLink l fun k => Link.fault .overrun { k with rx := .discarding } := by
  have unready : (s.link l).ready = false := by
    rw [← Bool.not_eq_true, ready_iff]
    exact fun ready => busy (ready.2.2 hunts)
  rw [onFrame_unready powered unready]
  exact updLink_congr (startByte_busy listens hunts busy)

end

/-- A command that is written as a request's frame is a frame on its link. -/
theorem exec_encoded {i : Instr} {l : LinkId} {code : Nat} {b : List Byte} (e : encodeRequest i = some (l, code, b)) (s : State) :
    ∃ good, exec i s = .next (onFrame l good s) := by
  cases i with
  | resetPushbutton | readingPair | zeroTimeout | rampTimeout | holdComplete | tailEnd | releaseTimeout | settleTimeout
  | silenceTimeout | lapseByTime | moveRecords | powerOn | parity | framing | fragment | check | overrun | lengthByteFault
  | powerLoss | unitClockAdvance | answerSent | gapOver20ms => cases e
  | _ =>
    obtain rfl := (Prod.mk.inj (Option.some.inj e)).1
    exact ⟨_, rfl⟩

/-- Settles O6: a request is a frame on its link, whatever its block would do. -/
theorem frameNotTaken : Obligations.FrameNotTaken := by
  intro i l code b s e
  obtain ⟨good, frame⟩ := exec_encoded e s
  rw [frame]
  refine ⟨fun off => ?_, fun deaf => ?_, fun powered listens hunts busy => ?_⟩
  · rw [onFrame_unpowered off]
  · rw [onFrame_deaf deaf]
  · rw [onFrame_busy powered listens hunts busy]
    rfl

/-! ### Roles and body lengths (R172, R174, R175) -/

/-- A code names the request at its place, and no other code names it. -/
theorem code_of_ofCode {code : Nat} {r : Request} (named : Request.ofCode code = some r) : r.code = code := by
  have once : Request.all.Nodup := by decide
  simp only [Request.ofCode, fromList, Option.ite_none_left_eq_some] at named
  obtain ⟨positive, place⟩ := named
  obtain ⟨inside, rfl⟩ := List.getElem?_eq_some_iff.mp place
  rw [Request.code, once.idxOf_getElem]
  omega

theorem code_mem_admittedCodes (l : LinkId) (r : Request) : r.code ∈ admittedCodes l ↔ admits l r = true := by
  cases l <;> cases r <;> decide

/-- The codes that a link admits name requests. -/
theorem ofCode_admitted {l : LinkId} {code : Nat} (admitted : code ∈ admittedCodes l) : (Request.ofCode code).isSome = true := by
  revert code
  cases l <;> decide

/-- A code above 41, or 0, names no request. -/
theorem ofCode_none {code : Nat} (outside : code = 0 ∨ 41 < code) : Request.ofCode code = none := by
  obtain rfl | above := outside
  · rfl
  · have place : Request.all[code - 1]? = none := List.getElem?_eq_none (by simp only [Request.all, List.length_cons, List.length_nil]; omega)
    simp [Request.ofCode, fromList, place]

/-- A frame whose code names a request is that request, its body read at the length that R175 gives it. -/
theorem exec_decoded {code : Nat} {r : Request} (named : Request.ofCode code = some r) (l : LinkId) (b : List Byte) (s : State) :
    ∃ (α : Type) (body : Body α) (take : α → State → State × Reply),
      exec (decodeRequest l code b) s = request l r body take s ∧ (bodyFits code b = false → body = .wrongLength) := by
  rw [decodeRequest, named]
  obtain rfl := code_of_ofCode named
  cases r with
  | setMark =>
    refine ⟨_, _, _, rfl, fun misfits => ?_⟩
    cases b with
    | nil => rfl
    | cons c t =>
      refine if_neg fun fits => of_decide_eq_false misfits ⟨List.cons_ne_nil c t, ?_⟩
      show t.length + 1 = 1 + c.toNat
      omega
  | _ => exact ⟨_, _, _, rfl, fun misfits => if_neg (of_decide_eq_false misfits)⟩

theorem unknownCode_role {s : State} {l : LinkId} (can : CanTake s l) (code : Nat) :
    exec (.unknownCode l code) s = .next (refusedWith s l code .role) := by
  show Host.Outcome.next (onFrame l (takeGood l code fun s => (s, refusal .role)) s) = _
  rw [onFrame_ready can.powered (CanTake_ready can), takeGood, updLink_goodFrame can, updLink_answer]
  rfl

/-- Settles O7: a code names no request, or one that the link admits or not, whose body is read at its length. -/
theorem roleThenLengthRefused : Obligations.RoleThenLengthRefused := by
  intro s l code b can
  refine ⟨fun foreign => ?role, fun admitted misfits => ?length, fun _ => unknownCode_role can code⟩
  case role =>
    cases named : Request.ofCode code with
    | none => rw [decodeRequest, named]; exact unknownCode_role can code
    | some r =>
      obtain ⟨α, body, take, e, -⟩ := exec_decoded named l b s
      obtain rfl := code_of_ofCode named
      rw [code_mem_admittedCodes, Bool.not_eq_true] at foreign
      rw [e]
      exact request_role r body take can foreign
  case length =>
    obtain ⟨r, named⟩ := Option.isSome_iff_exists.mp (ofCode_admitted admitted)
    obtain ⟨α, body, take, e, wrong⟩ := exec_decoded named l b s
    obtain rfl := code_of_ofCode named
    rw [e, wrong misfits]
    exact request_wrongLength r take can ((code_mem_admittedCodes l r).mp admitted)

end Sys2Proof.Links

namespace Sys2Proof.Links

open Sys2Proof.Machine Sys2Proof.Safety Sys2Proof.Laws

/-! ### Faults on reception (R177 to R179) -/

/-- An overrun: the flag, the count, and the frame discarded (R178). -/
def overran (k : Link) : Link := Link.fault .overrun { k with rx := .discarding }

section
variable {k : Link}

theorem rx_hunting (hunts : k.rx = .hunting) : { k with rx := .hunting } = k := by rw [← hunts]

theorem rx_inFrame (inside : k.rx = .inFrame) : { k with rx := .inFrame } = k := by rw [← inside]

/-- A bad character outside a frame counts, and the receiver goes on as it did. -/
theorem badCharacter_outside (f : LinkFault) (listens : k.state ≠ .stopped) (outside : k.rx ≠ .inFrame) :
    k.badCharacter f = Link.fault f k := by
  rw [badCharacter_listening f listens, if_neg outside]

theorem badCharacter_inside (f : LinkFault) (listens : k.state ≠ .stopped) (inside : k.rx = .inFrame) :
    k.badCharacter f = Link.fault f { k with rx := .discarding } := by
  rw [badCharacter_listening f listens, if_pos inside]

theorem checkFault_stopped (stopped : k.state = .stopped) : k.checkFault = k := by
  rw [checkFault_eq, startByte_stopped stopped, if_neg fun h => h.1 stopped]

/-- What ends a gap is the first of the hunt: on a free line a start byte begins a frame. -/
theorem firstOfHunt_free (c : Byte) (listens : k.state ≠ .stopped) (free : k.tx = none) :
    k.firstOfHunt c = { k with rx := if c = 0xC3 then .inFrame else .hunting } := by
  unfold Link.firstOfHunt
  split_ifs
  · exact startByte_free (k := { k with rx := .hunting }) listens rfl free
  · rfl

/-- On an occupied line a start byte after a gap is an overrun. -/
theorem firstOfHunt_busy (c : Byte) (listens : k.state ≠ .stopped) (busy : k.tx ≠ none) :
    k.firstOfHunt c = if c = 0xC3 then overran k else { k with rx := .hunting } := by
  unfold Link.firstOfHunt
  split_ifs
  · exact startByte_busy (k := { k with rx := .hunting }) listens rfl busy
  · rfl

/-! #### A frame begun on a free line -/

section
variable (listens : k.state ≠ .stopped) (heard : k.rx ≠ .discarding) (free : k.tx = none)
include listens heard free

/-- On a free line a start byte leaves the receiver inside a frame, be it this frame or one begun before. -/
theorem startByte_begun : k.startByte = { k with rx := .inFrame } := by
  by_cases hunts : k.rx = .hunting
  · exact startByte_free listens hunts free
  · rw [startByte_not_hunting hunts, rx_inFrame]
    cases rx : k.rx <;> simp_all

theorem badCharacter_begun (f : LinkFault) : k.startByte.badCharacter f = Link.fault f { k with rx := .discarding } := by
  rw [startByte_begun listens heard free]
  exact badCharacter_inside f listens rfl

theorem fragmentThen_begun (c : Byte) :
    k.fragmentThen c = Link.fault .fragment { k with rx := if c = 0xC3 then .inFrame else .hunting } := by
  rw [fragmentThen_listening c listens, startByte_begun listens heard free,
    gap_inFrame (k := { k with rx := .inFrame }) listens rfl]
  exact firstOfHunt_free c listens free

theorem checkFault_begun : k.checkFault = Link.fault .check { k with rx := .hunting } := by
  rw [checkFault_eq, startByte_begun listens heard free, if_pos ⟨listens, rfl⟩]

end

/-! #### A frame on an occupied line -/

section
variable (listens : k.state ≠ .stopped) (hunts : k.rx = .hunting) (busy : k.tx ≠ none)
include listens hunts busy

theorem badCharacter_busy (f : LinkFault) : k.startByte.badCharacter f = Link.fault f (overran k) := by
  rw [startByte_busy listens hunts busy]
  exact badCharacter_outside f listens (by rintro ⟨⟩)

theorem fragmentThen_busy (c : Byte) :
    k.fragmentThen c = if c = 0xC3 then overran (overran k) else { overran k with rx := .hunting } := by
  rw [fragmentThen_listening c listens, startByte_busy listens hunts busy]
  change Link.firstOfHunt c (overran k).gap = _
  rw [gap_discarding (k := overran k) listens rfl]
  exact firstOfHunt_busy c listens busy

theorem checkFault_busy : k.checkFault = overran k := by
  rw [checkFault_eq, startByte_busy listens hunts busy, if_neg (by rintro ⟨-, ⟨⟩⟩), overran]

end

/-! #### A receiver that discards -/

section
variable (listens : k.state ≠ .stopped) (discards : k.rx = .discarding)
include listens discards

omit listens in
theorem startByte_discarding : k.startByte = k := startByte_not_hunting (by rw [discards]; rintro ⟨⟩)

theorem badCharacter_discarding (f : LinkFault) : k.startByte.badCharacter f = Link.fault f k := by
  rw [startByte_discarding discards]
  exact badCharacter_outside f listens (by rw [discards]; rintro ⟨⟩)

theorem fragmentThen_discarding (c : Byte) :
    k.fragmentThen c =
      if c = 0xC3 then (if k.tx = none then { k with rx := .inFrame } else overran k) else { k with rx := .hunting } := by
  rw [fragmentThen_listening c listens, startByte_discarding discards, gap_discarding listens discards]
  by_cases free : k.tx = none
  · rw [if_pos free]
    refine (firstOfHunt_free c listens free).trans ?_
    split_ifs <;> rfl
  · rw [if_neg free]
    exact firstOfHunt_busy c listens free

omit listens in
theorem checkFault_discarding : k.checkFault = k := by
  rw [checkFault_eq, startByte_discarding discards, if_neg (by rw [discards]; rintro ⟨-, ⟨⟩⟩)]

end

/-- A fault's count rises by one, and stays at 255 (R179). -/
theorem fault_counts (f : LinkFault) (k : Link) :
    (Link.fault f k).counts = k.counts.set f (if k.counts.get f < 255 then k.counts.get f + 1 else 255) := by
  have capped : min (k.counts.get f + 1) 255 = if k.counts.get f < 255 then k.counts.get f + 1 else 255 := by
    split_ifs <;> omega
  rw [fault_keeps, capped]

end

/-! #### The rows -/

section
variable {s : State} {l : LinkId}

/-- A row that changes its link as another change does. -/
theorem row_acts {i : Instr} {f g : Link → Link} (row : exec i s = .next (s.updLink l f)) (same : f (s.link l) = g (s.link l)) :
    exec i s = .next (s.updLink l g) := by rw [row, updLink_congr same]

/-- A row that leaves its link as it is. -/
theorem row_nothing {i : Instr} {f : Link → Link} (row : exec i s = .next (s.updLink l f)) (same : f (s.link l) = s.link l) :
    exec i s = .next s := by rw [row, updLink_fixed same]

variable (powered : s.powered = true)
include powered

theorem parity_row (b : Bool) :
    exec (.parity l b) s = .next (s.updLink l fun k => Link.badCharacter .parity (if b then k.startByte else k)) :=
  event_powered _ powered

theorem framing_row (b : Bool) :
    exec (.framing l b) s = .next (s.updLink l fun k => Link.badCharacter .framing (if b then k.startByte else k)) :=
  event_powered _ powered

theorem fragment_row (c : Byte) : exec (.fragment l c) s = .next (s.updLink l (Link.fragmentThen c)) :=
  event_powered (fun s => s.updLink l (Link.fragmentThen c)) powered

theorem check_row : exec (.check l) s = .next (s.updLink l Link.checkFault) :=
  event_powered (fun s => s.updLink l Link.checkFault) powered

theorem gap_row : exec (.gapOver20ms l) s = .next (s.updLink l Link.gap) :=
  event_powered (fun s => s.updLink l Link.gap) powered

theorem overrun_row :
    exec (.overrun l) s = .next (s.updLink l fun k => if k.tx = none then k else k.startByte) := by
  refine (event_powered _ powered).trans ?_
  by_cases free : (s.link l).tx = none
  · rw [if_neg (by simp [free]), updLink_fixed (by rw [if_pos free])]
  · rw [if_pos (Option.isSome_iff_ne_none.mpr free), updLink_congr]
    rw [if_neg free]

omit powered in
theorem lengthByteFault_row (n : Nat) : exec (.lengthByteFault l n) s = .next (onFrame l (fun s => s.updLink l Link.badLength) s) :=
  rfl

end

/-- Settles O12: each row is one change of its link, which each condition of the receiver and the line spells out. -/
theorem linkFaultsAct : Obligations.LinkFaultsAct := by
  intro s l powered
  have parity := parity_row (l := l) powered
  have framing := framing_row (l := l) powered
  have fragment := fragment_row (l := l) powered
  have check := check_row (l := l) powered
  have gap := gap_row (l := l) powered
  have overrun := overrun_row (l := l) powered
  refine ⟨fun stopped => ?stopped, fun listens => ⟨fun outside => ?outside, fun hunts free => ?begun, fun inside free => ?inside,
    fun hears free n => ?length, fun hunts busy => ?busy, fun free => ?free, fun hunts => ?hunts, fun discards => ?discards,
    fun inside => ?gapInside⟩, fun f k => ⟨rfl, rfl, fault_counts f k⟩⟩
  case stopped =>
    have bad (f : LinkFault) (b : Bool) : Link.badCharacter f (if b then (s.link l).startByte else s.link l) = s.link l := by
      rw [startByte_stopped stopped, ite_self, badCharacter_stopped f stopped]
    refine ⟨fun b => ⟨row_nothing (parity b) (bad _ b), row_nothing (framing b) (bad _ b)⟩,
      fun c => row_nothing (fragment c) (fragmentThen_stopped c stopped), fun n => ?_,
      row_nothing check (checkFault_stopped stopped), row_nothing overrun ?_, row_nothing gap (gap_stopped stopped)⟩
    · rw [lengthByteFault_row, onFrame_deaf (.inl stopped)]
    · rw [startByte_stopped stopped, ite_self]
  case outside =>
    exact ⟨row_acts (parity false) (badCharacter_outside _ listens outside),
      row_acts (framing false) (badCharacter_outside _ listens outside)⟩
  case begun =>
    have hears : (s.link l).rx ≠ .discarding := by rw [hunts]; rintro ⟨⟩
    refine ⟨row_acts (parity true) (badCharacter_begun listens hears free _),
      row_acts (framing true) (badCharacter_begun listens hears free _),
      fun c => row_acts (fragment c) (fragmentThen_begun listens hears free c), row_acts check ?_⟩
    rw [checkFault_begun listens hears free, rx_hunting hunts]
  case inside =>
    have hears : (s.link l).rx ≠ .discarding := by rw [inside]; rintro ⟨⟩
    have bad (f : LinkFault) (b : Bool) : Link.badCharacter f (if b then (s.link l).startByte else s.link l) =
        Link.fault f { s.link l with rx := .discarding } := by
      cases b with
      | true => exact badCharacter_begun listens hears free f
      | false => exact badCharacter_inside f listens inside
    exact ⟨fun b => ⟨row_acts (parity b) (bad _ b), row_acts (framing b) (bad _ b)⟩,
      fun c => row_acts (fragment c) (fragmentThen_begun listens hears free c),
      row_acts check (checkFault_begun listens hears free)⟩
  case length =>
    rw [lengthByteFault_row, onFrame_ready powered ((ready_iff _).mpr ⟨listens, hears, fun _ => free⟩)]
    rfl
  case busy =>
    refine ⟨row_acts overrun ?_, row_acts check (checkFault_busy listens hunts busy), fun n => ?_,
      row_acts (parity true) (badCharacter_busy listens hunts busy _), row_acts (framing true) (badCharacter_busy listens hunts busy _),
      fun c => row_acts (fragment c) (fragmentThen_busy listens hunts busy c)⟩
    · rw [if_neg busy, startByte_busy listens hunts busy]
    · rw [lengthByteFault_row, onFrame_busy powered listens hunts busy]
  case free => exact row_nothing overrun (if_pos free)
  case hunts => exact row_nothing gap (gap_hunting hunts)
  case discards =>
    refine ⟨row_acts gap (gap_discarding listens discards), row_nothing check (checkFault_discarding discards),
      row_nothing overrun ?_, fun n => ?_, row_acts (parity true) (badCharacter_discarding listens discards _),
      row_acts (framing true) (badCharacter_discarding listens discards _),
      fun c => row_acts (fragment c) (fragmentThen_discarding listens discards c)⟩
    · rw [startByte_discarding discards, ite_self]
    · rw [lengthByteFault_row, onFrame_deaf (.inr discards)]
  case gapInside => exact row_acts gap (gap_inFrame listens inside)

end Sys2Proof.Links

namespace Sys2Proof.Links

open Sys2Proof.Machine Sys2Proof.Safety Sys2Proof.Laws

/-! ### Requests written and read (R172 to R175) -/

/-! #### Numbers and values as bytes -/

@[simp] theorem byteAt_zero (x : Byte) (b : List Byte) : byteAt (x :: b) 0 = x.toNat := rfl

@[simp] theorem byteAt_succ (x : Byte) (b : List Byte) (i : Nat) : byteAt (x :: b) (i + 1) = byteAt b i := rfl

/-- What lies after an opening is read at its offset less the opening's length. -/
theorem byteAt_after {p : List Byte} {n : Nat} (long : p.length = n) (q : List Byte) {i : Nat} (after : n ≤ i) :
    byteAt (p ++ q) i = byteAt q (i - n) := by
  subst long
  simp [byteAt, List.getD_eq_getElem?_getD, List.getElem?_append_right after]

@[simp] theorem length_u8 (n : Nat) : (u8 n).length = 1 := rfl

@[simp] theorem length_u16 (n : Nat) : (u16 n).length = 2 := rfl

theorem byte_back {n : Nat} (fits : fitsByte n = true) : n % 256 = n := Nat.mod_eq_of_lt (of_decide_eq_true fits)

theorem word_back {n : Nat} (fits : fitsWord n = true) : n / 256 % 256 * 256 + n % 256 = n := by
  have bound : n < 65536 := of_decide_eq_true fits
  omega

theorem long_back {n : Nat} (fits : fitsLong n = true) :
    (n / 16777216 % 256 * 256 + n / 65536 % 256) * 65536 + (n / 256 % 256 * 256 + n % 256) = n := by
  have bound : n < 4294967296 := of_decide_eq_true fits
  omega

/-- A value of an enumeration is found at its position. -/
theorem fromList_toPosition {α : Type} [DecidableEq α] {xs : List α} (complete : ∀ x, x ∈ xs) (x : Option α) :
    fromList xs (toPosition xs x) = x := by
  cases x with
  | none => rfl
  | some x => simp [fromList, toPosition, List.getElem?_idxOf (complete x)]

/-- A position of a short enumeration fits its byte. -/
theorem toPosition_lt {α : Type} [DecidableEq α] {xs : List α} (short : xs.length < 254) (x : Option α) :
    toPosition xs x < 256 := by
  cases x with
  | none => exact Nat.zero_lt_succ 255
  | some x =>
    have place : xs.idxOf x ≤ xs.length := List.idxOf_le_length
    show xs.idxOf x + 1 < 256
    omega

/-- The byte of an enumerated value, read back. -/
theorem position_back {α : Type} [DecidableEq α] {xs : List α} (complete : ∀ x, x ∈ xs) (short : xs.length < 254) (x : Option α) :
    fromList xs (toPosition xs x % 256) = x := by
  rw [Nat.mod_eq_of_lt (toPosition_lt short x), fromList_toPosition complete]

theorem severity_back (v : Option Severity) : Severity.ofByte (Severity.toByte v % 256) = v := by
  obtain _ | v := v
  · rfl
  · cases v <;> rfl

theorem yesNo_back (v : Option Bool) : yesNoOfByte (yesNoToByte v % 256) = v := by
  obtain _ | v := v
  · rfl
  · cases v <;> rfl

/-! #### Bodies -/

/-- A body as written: it fits a frame, and reads back as it was. -/
def ReadsBack {α : Type} (read : List Byte → Body α) (b : Body α) (bytes : List Byte) : Prop :=
  bytes.length ≤ 249 ∧ read bytes = b

/-- Fields of a fixed length read back when what is written of them does. -/
theorem readsBack_exactly {α : Type} {n : Nat} {f : List Byte → α} {write : α → List Byte} {wrong : List Byte} {p : α → Bool}
    {b : Body α} (wf : b.wf p = true) (back : ∀ a, p a = true → (write a).length = n ∧ f (write a) = a)
    (small : n ≤ 249 := by decide) (short : wrong.length ≤ 249 := by decide) (other : wrong.length ≠ n := by decide) :
    ReadsBack (readExactly n f) b (b.bytes write wrong) := by
  cases b with
  | fields a =>
    obtain ⟨long, same⟩ := back a wf
    exact ⟨by rw [Body.bytes, long]; exact small, by rw [readExactly, Body.bytes, if_pos long, same]⟩
  | wrongLength => exact ⟨short, if_neg other⟩

theorem readsBack_nothing (b : Body Unit) : ReadsBack readNothing b (nothingBytes b) :=
  readsBack_exactly (p := fun _ => true) (by cases b <;> rfl) fun _ _ => ⟨rfl, rfl⟩

theorem readsBack_one {b : Body Nat} (wf : b.wf fitsByte = true) : ReadsBack readOne b (oneBytes b) :=
  readsBack_exactly wf fun _ fits => ⟨rfl, byte_back fits⟩

theorem readsBack_mark {b : Body Text} (wf : (b.wf fun t => decide (t.length ≤ 248)) = true) :
    ReadsBack readMark b (b.bytes (fun t => u8 t.length ++ t) []) := by
  cases b with
  | fields t =>
    have short : t.length ≤ 248 := of_decide_eq_true wf
    refine ⟨Nat.succ_le_succ short, if_pos ?_⟩
    show t.length = (BitVec.ofNat 8 t.length).toNat
    rw [BitVec.toNat_ofNat, Nat.mod_eq_of_lt (by omega)]
  | wrongLength => exact ⟨by decide, rfl⟩

/-- ADMIT's serial is its 16 characters, and the fields after it are read 17 bytes on. -/
theorem admit_back (a : AdmitArgs) (wf : a.wf = true) : (admitBytes a).length = 25 ∧ readAdmit (admitBytes a) = a := by
  obtain ⟨carrier, serial, type, year, month, tare, ree⟩ := a
  simp only [AdmitArgs.wf, Bool.and_eq_true, decide_eq_true_eq] at wf
  obtain ⟨⟨⟨⟨⟨⟨carrierFits, long⟩, typeFits⟩, yearFits⟩, monthFits⟩, tareFits⟩, reeFits⟩ := wf
  refine ⟨by simp [admitBytes, u8, u16, long], ?_⟩
  simp [readAdmit, admitBytes, u8, u16, textAt, wordAt, byteAt_after long, List.take_left' long, byte_back carrierFits,
    byte_back typeFits, word_back yearFits, byte_back monthFits, word_back tareFits, word_back reeFits]

/-- LOAD_TYPE's body: the index, the name, and the fields after it. -/
theorem loadTypeBytes_eq (a : LoadTypeArgs) :
    loadTypeBytes a = BitVec.ofNat 8 a.index :: (a.name ++ (u8 (yesNoToByte a.proving) ++ u16 a.pt ++ u8 a.holdSeconds ++ u8 a.w ++
      u8 a.lp ++ u16 a.ree ++ u8 a.lo ++ u8 a.ld ++ u8 a.lr ++ u8 a.lw ++ u8 a.lifeYears ++ u8 a.interval ++ u8 a.ls ++
      u8 a.starInterval ++ u16 a.rampLimit ++ u16 a.settleLimit ++ u16 a.tn ++ u8 a.lt)) := by
  unfold loadTypeBytes
  simp only [u8, List.append_assoc, List.cons_append, List.nil_append]

/-- LOAD_TYPE's name is its 8 characters, and the fields after it are read 9 bytes on. -/
theorem loadType_back (a : LoadTypeArgs) (wf : a.wf = true) :
    (loadTypeBytes a).length = 32 ∧ readLoadType (loadTypeBytes a) = a := by
  obtain ⟨index, name, proving, pt, holdSeconds, w, lp, ree, lo, ld, lr, lw, lifeYears, interval, ls, starInterval, rampLimit,
    settleLimit, tn, lt⟩ := a
  simp only [LoadTypeArgs.wf, Bool.and_eq_true, decide_eq_true_eq] at wf
  obtain ⟨⟨⟨⟨⟨⟨⟨⟨⟨⟨⟨⟨⟨⟨⟨⟨⟨⟨indexFits, long⟩, ptFits⟩, holdFits⟩, wFits⟩, lpFits⟩, reeFits⟩, loFits⟩, ldFits⟩,
    lrFits⟩, lwFits⟩, lifeFits⟩, intervalFits⟩, lsFits⟩, starFits⟩, rampFits⟩, settleFits⟩, tnFits⟩, ltFits⟩ := wf
  refine ⟨by simp [loadTypeBytes_eq, long], ?_⟩
  simp [readLoadType, loadTypeBytes_eq, u8, u16, textAt, wordAt, byteAt_after long, List.take_left' long, byte_back indexFits,
    yesNo_back, word_back ptFits, byte_back holdFits, byte_back wFits, byte_back lpFits, word_back reeFits, byte_back loFits,
    byte_back ldFits, byte_back lrFits, byte_back lwFits, byte_back lifeFits, byte_back intervalFits, byte_back lsFits,
    byte_back starFits, word_back rampFits, word_back settleFits, word_back tnFits, byte_back ltFits]

/-! #### Requests -/

/-- A request comes back from its code and the body written for it, and the body fits a frame. -/
def ComesBack (i : Instr) : Prop :=
  ∀ l code b, encodeRequest i = some (l, code, b) → code < 256 ∧ b.length ≤ 249 ∧ decodeRequest l code b = i

theorem comesBack_event {i : Instr} (event : encodeRequest i = none) : ComesBack i := by
  intro l code b e
  rw [event] at e
  cases e

theorem code_lt (r : Request) : r.code < 256 := by cases r <;> decide

/-- A request comes back when its body reads back. -/
theorem comesBack_request {α : Type} {read : List Byte → Body α} {bytes : Body α → List Byte} {l : LinkId} {b : Body α}
    (r : Request) (make : LinkId → Body α → Instr) (written : encodeRequest (make l b) = some (l, r.code, bytes b))
    (reads : ∀ c, decodeRequest l r.code c = make l (read c)) (back : ReadsBack read b (bytes b)) : ComesBack (make l b) := by
  intro l' code c e
  obtain ⟨rfl, rfl, rfl⟩ : l = l' ∧ r.code = code ∧ bytes b = c := by simpa [written] using e
  obtain ⟨short, same⟩ := back
  exact ⟨code_lt r, short, by rw [reads, same]⟩

theorem comesBack_nothing {l : LinkId} {b : Body Unit} (r : Request) (make : LinkId → Body Unit → Instr)
    (written : encodeRequest (make l b) = some (l, r.code, nothingBytes b) := by exact rfl)
    (reads : ∀ c, decodeRequest l r.code c = make l (readNothing c) := by exact fun _ => rfl) : ComesBack (make l b) :=
  comesBack_request r make written reads (readsBack_nothing b)

theorem comesBack_one {l : LinkId} {b : Body Nat} (wf : b.wf fitsByte = true) (r : Request) (make : LinkId → Body Nat → Instr)
    (written : encodeRequest (make l b) = some (l, r.code, oneBytes b) := by exact rfl)
    (reads : ∀ c, decodeRequest l r.code c = make l (readOne c) := by exact fun _ => rfl) : ComesBack (make l b) :=
  comesBack_request r make written reads (readsBack_one wf)

theorem comesBack (i : Instr) (wf : wellFormed i = true) : ComesBack i := by
  cases i with
  | status l b => exact comesBack_nothing .status .status
  | notices l b => exact comesBack_nothing .notices .notices
  | nextReferral l b => exact comesBack_nothing .nextReferral .nextReferral
  | lineReset l b => exact comesBack_nothing .lineReset .lineReset
  | readStats l b => exact comesBack_nothing .readStats .readStats
  | finishPage l b => exact comesBack_nothing .finishPage .finishPage
  | snapshot l b => exact comesBack_nothing .snapshot .snapshot
  | withdraw l b => exact comesBack_one wf .withdraw .withdraw
  | breakClaim l b => exact comesBack_one wf .breakClaim .breakClaim
  | stopLink l b => exact comesBack_one wf .stopLink .stopLink
  | startLink l b => exact comesBack_one wf .startLink .startLink
  | claim l b => exact comesBack_one wf .claim .claim
  | inspected l b => exact comesBack_one wf .inspected .inspected
  | release l b => exact comesBack_one wf .release .release
  | begin l b => exact comesBack_one wf .begin .begin
  | abort l b => exact comesBack_one wf .abort .abort
  | dismount l b => exact comesBack_one wf .dismount .dismount
  | headStatus l b => exact comesBack_one wf .headStatus .headStatus
  | claimStamp l b => exact comesBack_one wf .claimStamp .claimStamp
  | stamped l b => exact comesBack_one wf .stamped .stamped
  | claimScrap l b => exact comesBack_one wf .claimScrap .claimScrap
  | dropType l b => exact comesBack_one wf .dropType .dropType
  | readType l b => exact comesBack_one wf .readType .readType
  | readPage l b => exact comesBack_one wf .readPage .readPage
  | setMark l b => exact comesBack_request .setMark .setMark rfl (fun _ => rfl) (readsBack_mark wf)
  | admitOrdinary l b =>
    exact comesBack_request .admitOrdinary .admitOrdinary rfl (fun _ => rfl) (readsBack_exactly wf admit_back)
  | loadType l b => exact comesBack_request .loadType .loadType rfl (fun _ => rfl) (readsBack_exactly wf loadType_back)
  | admitProving l b =>
    refine comesBack_request .admitProving .admitProving rfl (fun _ => rfl) (readsBack_exactly wf fun a fits => ?_)
    simp only [Bool.and_eq_true, decide_eq_true_eq] at fits
    obtain ⟨⟨carrierFits, long⟩, typeFits⟩ := fits
    refine ⟨by simp [u8, long], ?_⟩
    simp [u8, textAt, byteAt_after long, List.take_left' long, byte_back carrierFits, byte_back typeFits]
  | noticeSetup l b =>
    refine comesBack_request .noticeSetup .noticeSetup rfl (fun _ => rfl)
      (readsBack_exactly (p := fun _ => true) (by cases b <;> rfl) fun a _ => ⟨rfl, ?_⟩)
    have word (v : BitVec 16) : v.toNat / 256 % 256 * 256 + v.toNat % 256 = v.toNat := word_back (decide_eq_true v.isLt)
    simp [u16, wordAt, word]
  | clearErrors l b =>
    exact comesBack_request .clearErrors .clearErrors rfl (fun _ => rfl)
      (readsBack_exactly (p := fun _ => true) (by cases b <;> rfl) fun a _ => ⟨rfl, rfl⟩)
  | lookup l b =>
    refine comesBack_request .lookup .lookup rfl (fun _ => rfl) (readsBack_exactly wf fun a fits => ⟨rfl, ?_⟩)
    have selector := position_back (xs := Selector.list) (by rintro ⟨⟩ <;> decide) (by decide) a.selector
    simp [u8, u16, wordAt, selector, word_back fits]
  | rule l b =>
    refine comesBack_request .rule .rule rfl (fun _ => rfl) (readsBack_exactly wf fun a fits => ⟨rfl, ?_⟩)
    have ruling := position_back (xs := Ruling.list) (by rintro ⟨⟩ <;> decide) (by decide) a.ruling
    simp [u8, ruling, byte_back fits]
  | setDate l b =>
    refine comesBack_request .setDate .setDate rfl (fun _ => rfl) (readsBack_exactly wf fun a fits => ⟨rfl, ?_⟩)
    simp only [Bool.and_eq_true] at fits
    obtain ⟨⟨yearFits, monthFits⟩, dayFits⟩ := fits
    simp [u8, u16, wordAt, word_back yearFits, byte_back monthFits, byte_back dayFits]
  | forceNotice l b =>
    refine comesBack_request .forceNotice .forceNotice rfl (fun _ => rfl) (readsBack_exactly wf fun a fits => ⟨rfl, ?_⟩)
    simp only [Bool.and_eq_true] at fits
    obtain ⟨linkFits, numberFits⟩ := fits
    have kind := position_back (xs := NoticeKind.list) (by rintro ⟨⟩ <;> decide) (by decide) a.kind
    simp [u8, kind, byte_back linkFits, byte_back numberFits]
  | finding l b =>
    refine comesBack_request .finding .finding rfl (fun _ => rfl) (readsBack_exactly wf fun a fits => ?_)
    obtain ⟨carrier, code, severity, value⟩ := a
    simp only [Bool.and_eq_true] at fits
    obtain ⟨⟨carrierFits, codeFits⟩, valueFits⟩ := fits
    cases value with
    | none => exact ⟨rfl, by simp [u8, u16, valueBytes, byte_back carrierFits, byte_back codeFits, severity_back]⟩
    | some v =>
      exact ⟨rfl, by simp [u8, u16, wordAt, valueBytes, byte_back carrierFits, byte_back codeFits, severity_back,
        word_back valueFits]⟩
  | weigh l b =>
    refine comesBack_request .weigh .weigh rfl (fun _ => rfl) (readsBack_exactly wf fun a fits => ⟨rfl, ?_⟩)
    simp only [Bool.and_eq_true] at fits
    obtain ⟨carrierFits, tareFits⟩ := fits
    simp [u8, u16, wordAt, byte_back carrierFits, word_back tareFits]
  | mount l b =>
    refine comesBack_request .mount .mount rfl (fun _ => rfl) (readsBack_exactly wf fun a fits => ⟨rfl, ?_⟩)
    simp only [Bool.and_eq_true] at fits
    obtain ⟨headFits, carrierFits⟩ := fits
    simp [u8, byte_back headFits, byte_back carrierFits]
  | headSetup l b =>
    refine comesBack_request .headSetup .headSetup rfl (fun _ => rfl) (readsBack_exactly wf fun a fits => ⟨rfl, ?_⟩)
    simp only [Bool.and_eq_true] at fits
    obtain ⟨⟨headFits, lagFits⟩, bandFits⟩ := fits
    simp [u8, u16, wordAt, byte_back headFits, byte_back lagFits, word_back bandFits]
  | scrapped l b =>
    refine comesBack_request .scrapped .scrapped rfl (fun _ => rfl) (readsBack_exactly wf fun a fits => ⟨rfl, ?_⟩)
    have method := position_back (xs := ScrapMethod.list) (by rintro ⟨⟩ <;> decide) (by decide) a.method
    simp [u8, method, byte_back fits]
  | setLimits l b =>
    refine comesBack_request .setLimits .setLimits rfl (fun _ => rfl) (readsBack_exactly wf fun a fits => ⟨rfl, ?_⟩)
    simp only [Bool.and_eq_true] at fits
    obtain ⟨⟨validityFits, testFits⟩, silenceFits⟩ := fits
    have mode := position_back (xs := SnapMode.list) (by rintro ⟨⟩ <;> decide) (by decide) a.mode
    simp [u8, u16, wordAt, word_back validityFits, word_back testFits, byte_back silenceFits, mode]
  | turnPage l b =>
    refine comesBack_request .turnPage .turnPage rfl (fun _ => rfl) (readsBack_exactly wf fun a fits => ⟨rfl, ?_⟩)
    simp [u32, longAt, wordAt, long_back fits]
  | unknownCode l code =>
    intro l' code' b e
    obtain ⟨rfl, rfl, rfl⟩ : l = l' ∧ code = code' ∧ [] = b := by simpa [encodeRequest] using e
    have outside : code = 0 ∨ (41 < code ∧ code < 256) := of_decide_eq_true wf
    exact ⟨by omega, by decide, by rw [decodeRequest, ofCode_none (outside.imp_right And.left)]⟩
  | _ => exact comesBack_event rfl

/-! #### Frames -/

/-- The check byte makes the sum a multiple of 256 (R173). -/
theorem byteSum_withCheck (b : List Byte) : byteSum (withCheck b) % 256 = 0 := by
  have sum : byteSum (withCheck b) = byteSum b + (256 - byteSum b % 256) % 256 := by simp [byteSum, withCheck]
  omega

/-- A length byte of 0 or above 250 is a fault of its own (R177). -/
theorem decodeFrame_badLength (l : LinkId) {n : Byte} (rest : List Byte) (bad : n.toNat = 0 ∨ 250 < n.toNat) :
    decodeFrame l (0xC3 :: n :: rest) = some (.lengthByteFault l n.toNat) := by
  rw [decodeFrame, if_neg (not_not_intro rfl), if_pos bad]

/-- Of a complete frame with a good length byte the sum decides (R177). -/
theorem decodeFrame_complete (l : LinkId) {n : Byte} {rest : List Byte} (low : 1 ≤ n.toNat) (high : n.toNat ≤ 250)
    (complete : rest.length = n.toNat + 1) :
    decodeFrame l (0xC3 :: n :: rest) =
      if byteSum (n :: rest) % 256 ≠ 0 then some (.check l)
      else some (decodeRequest l (byteAt rest 0) ((rest.drop 1).take (n.toNat - 1))) := by
  have good : ¬(n.toNat = 0 ∨ Config.maxLength < n.toNat) := by
    rintro (none | long)
    · omega
    · exact Nat.not_lt_of_le high long
  rw [decodeFrame, if_neg (not_not_intro rfl), if_neg good, if_neg (not_not_intro complete)]

/-- A frame that is written of a code and a body is the request of that code with that body. -/
theorem decodeFrame_frameOf (l : LinkId) {code : Nat} {b : List Byte} (byte : code < 256) (short : b.length ≤ 249) :
    decodeFrame l (frameOf code b) = some (decodeRequest l code b) := by
  have count : (BitVec.ofNat 8 (b.length + 1)).toNat = b.length + 1 := Nat.mod_eq_of_lt (by omega)
  have named : (BitVec.ofNat 8 code).toNat = code := Nat.mod_eq_of_lt byte
  have sum := byteSum_withCheck (u8 (b.length + 1) ++ u8 code ++ b)
  obtain ⟨check, shape⟩ : ∃ check, withCheck (u8 (b.length + 1) ++ u8 code ++ b) =
      BitVec.ofNat 8 (b.length + 1) :: BitVec.ofNat 8 code :: (b ++ [check]) := ⟨_, rfl⟩
  rw [shape] at sum
  rw [frameOf, shape]
  refine (decodeFrame_complete l (by omega) (by omega) (by simp [count])).trans ?_
  rw [if_neg (not_not_intro sum), count, byteAt_zero, named, List.drop_one, List.tail_cons, Nat.add_sub_cancel,
    List.take_left' rfl]

/-- Settles O8: every request comes back from its code and body, and they from their frame. -/
theorem decodeOfEncodeIsTheCommand : Obligations.DecodeOfEncodeIsTheCommand := by
  intro i l f wf e
  obtain ⟨⟨l', code, b⟩, written, same⟩ := Option.map_eq_some_iff.mp e
  obtain ⟨rfl, rfl⟩ : l' = l ∧ frameOf code b = f := Prod.mk.inj same
  obtain ⟨byte, short, back⟩ := comesBack i wf l' code b written
  rw [decodeFrame_frameOf l' byte short, back]

/-- Settles O9: the length byte and the byte sum are looked at first; the written-out frames are evaluated. -/
theorem framesDecodeToTheirRows : Obligations.FramesDecodeToTheirRows := by
  refine ⟨fun l n rest low high complete bad => ?_, fun l n rest bad => decodeFrame_badLength l rest bad, rfl, rfl, rfl, rfl⟩
  rw [decodeFrame_complete l low high complete, if_pos bad]

end Sys2Proof.Links

namespace Sys2Proof.Links

open Sys2Proof.Machine Sys2Proof.Safety Sys2Proof.Laws Sys2Proof.Roll Sys2Proof.Settings

/-! ### Answers in bytes (R175, R176) -/

/-! #### Parts of a layout -/

section
variable {parts : List (List Byte)} {sizes : List Nat}

/-- Of parts laid end to end, the part that is named by its place starts after the sizes of those before it. -/
theorem part_flatten (laid : parts.map List.length = sizes) (i : Nat) {part : List Byte} {offset size : Nat}
    (here : parts[i]? = some part) (offset_eq : (sizes.take i).sum = offset) (size_eq : sizes[i]? = some size) :
    (parts.flatten.drop offset).take size = part := by
  obtain rfl : part.length = size := by
    rw [← laid, List.getElem?_map, here] at size_eq
    exact Option.some.inj size_eq
  have before : offset = ((parts.take i).flatten).length := by
    rw [← offset_eq, ← laid, ← List.map_take, List.length_flatten]
  have split : parts.flatten = (parts.take i).flatten ++ (part ++ (parts.drop (i + 1)).flatten) := by
    obtain ⟨inside, rfl⟩ := List.getElem?_eq_some_iff.mp here
    rw [← List.flatten_cons, List.getElem_cons_drop, ← List.flatten_append, List.take_append_drop]
  rw [split, before, List.drop_left, List.take_left]

theorem length_flatten_of_laid (laid : parts.map List.length = sizes) : parts.flatten.length = sizes.sum := by
  rw [List.length_flatten, laid]

/-- A part of a part. -/
theorem part_within {bytes field : List Byte} {offset size : Nat} (whole : (bytes.drop offset).take size = field) {a n : Nat}
    (inside : a + n ≤ size) : (bytes.drop (offset + a)).take n = (field.drop a).take n := by
  rw [← whole, List.drop_take, List.drop_drop, List.take_take, Nat.min_eq_left (by omega)]

end

/-! #### Lengths of the items -/

theorem length_opt {α : Type} {n : Nat} {f : α → List Byte} (long : ∀ a, (f a).length = n) (x : Option α) :
    (opt n f x).length = n := by
  cases x with
  | none => exact List.length_replicate
  | some a => exact long a

theorem length_padRight {n : Nat} {t : Text} (short : t.length ≤ n) : (padRight n t).length = n := by
  rw [padRight, List.length_append, List.length_replicate]
  omega

@[simp] theorem length_opt_byte {α : Type} (g : α → Nat) (x : Option α) : (opt 1 (fun a => u8 (g a)) x).length = 1 :=
  length_opt (by exact fun _ => rfl) x

@[simp] theorem length_opt_u8 (x : Option Nat) : (opt 1 u8 x).length = 1 := length_opt (by exact fun _ => rfl) x

@[simp] theorem length_opt_u16 (x : Option Nat) : (opt 2 u16 x).length = 2 := length_opt (by exact fun _ => rfl) x

@[simp] theorem length_opt_u32 (x : Option Nat) : (opt 4 u32 x).length = 4 := length_opt (by exact fun _ => rfl) x

@[simp] theorem length_opt_i32 (x : Option Int) : (opt 4 i32 x).length = 4 := length_opt (by exact fun _ => rfl) x

@[simp] theorem length_opt_date (x : Option Date) : (opt 3 dateBytes x).length = 3 := length_opt (by exact fun _ => rfl) x

@[simp] theorem length_opt_month (x : Option YearMonth) : (opt 2 monthBytes x).length = 2 := length_opt (by exact fun _ => rfl) x

@[simp] theorem length_opt_weight (x : Option Weight) : (opt 4 weightBytes x).length = 4 := length_opt (by exact fun _ => rfl) x

@[simp] theorem length_opt_ripple (x : Option Ripple) : (opt 6 rippleBytes x).length = 6 := length_opt (by exact fun _ => rfl) x

@[simp] theorem length_reasonAt (rs : List Reason) (i : Nat) : (reasonAt rs i).length = 1 := length_opt_byte _ _

@[simp] theorem length_u32 (n : Nat) : (u32 n).length = 4 := rfl

@[simp] theorem length_finding (f : Finding) : (findingBytes f).length = 4 := by simp [findingBytes]

@[simp] theorem length_opt_proving (x : Option ProvingResult) : (opt 4 provingResultBytes x).length = 4 :=
  length_opt (fun r => by simp [provingResultBytes]) x

theorem length_opt_stamp {x : Option Stamp} (short : ∀ y, x = some y → y.line.length ≤ 12) : (opt 14 stampBytes x).length = 14 := by
  cases x with
  | none => rfl
  | some y =>
    show (padRight 12 y.line ++ monthBytes y.due).length = 14
    rw [List.length_append, length_padRight (short y rfl)]
    rfl

/-- The findings area, four bytes for each of its eight places. -/
def findingParts (fs : List Finding) : List (List Byte) := fs.map findingBytes ++ List.replicate (8 - fs.length) (zeros 4)

theorem findingsBytes_eq (fs : List Finding) : findingsBytes fs = (findingParts fs).flatten := by
  have tail : zeros (32 - 4 * fs.length) = (List.replicate (8 - fs.length) (zeros 4)).flatten := by
    rw [zeros, zeros, List.flatten_replicate_replicate]
    congr 1
    omega
  rw [findingsBytes, findingParts, List.flatten_append, tail]

theorem laid_findings {fs : List Finding} (short : fs.length ≤ 8) :
    (findingParts fs).map List.length = List.replicate 8 4 := by
  have stored : (fs.map findingBytes).map List.length = List.replicate fs.length 4 := by
    rw [List.map_map, List.eq_replicate_iff]
    simp
  rw [findingParts, List.map_append, stored, List.map_replicate, zeros, List.length_replicate, List.replicate_append_replicate,
    Nat.add_sub_of_le short]

/-- Each of the eight places holds its finding, or zeros. -/
theorem findingParts_getElem? {fs : List Finding} {i : Nat} (place : i < 8) :
    (findingParts fs)[i]? = some (opt 4 findingBytes fs[i]?) := by
  rw [findingParts]
  by_cases stored : i < fs.length
  · rw [List.getElem?_append_left (by simpa using stored), List.getElem?_map, List.getElem?_eq_getElem stored]
    rfl
  · rw [List.getElem?_append_right (by simpa using stored), List.getElem?_replicate, if_pos (by simp; omega),
      List.getElem?_eq_none (by omega)]
    rfl

theorem length_findings {fs : List Finding} (short : fs.length ≤ 8) : (findingsBytes fs).length = 32 := by
  rw [findingsBytes_eq, length_flatten_of_laid (laid_findings short)]
  rfl

/-- The parts of a test record (R176). -/
def testParts (t : TestRecord) : List (List Byte) :=
  [u8 (headNumber t.head), u8 t.attempt, u16 t.pa, opt 3 dateBytes t.date, opt 1 (fun o => u8 (testOutcomeByte o)) t.outcome,
    reasonAt t.reasons 0, reasonAt t.reasons 1, u8 (measuredFlags t), opt 2 u16 t.z, opt 4 i32 t.t, opt 4 i32 t.p, opt 2 u16 t.q,
    opt 2 u16 t.e, opt 6 rippleBytes t.ripple]

theorem testBytes_eq (t : TestRecord) : testBytes t = (testParts t).flatten := by
  simp only [testBytes, testParts, List.flatten_cons, List.flatten_nil, List.append_nil, List.append_assoc]

/-- The sizes of a test record's parts (R176). -/
def testSizes : List Nat := [1, 1, 2, 3, 1, 1, 1, 1, 2, 4, 4, 2, 2, 6]

theorem laid_test (t : TestRecord) : (testParts t).map List.length = testSizes := by
  simp [testParts, testSizes]

theorem length_test (t : TestRecord) : (testBytes t).length = 31 := by
  rw [testBytes_eq, length_flatten_of_laid (laid_test t)]
  rfl

theorem length_opt_test (x : Option TestRecord) : (opt 31 testBytes x).length = 31 := length_opt length_test x

/-- The parts of a record (R176). -/
def recordParts (number : Nat) (manual : Bool) (c : CylinderRecord) (closing : Option ClosingRecord) : List (List Byte) :=
  [u32 number, opt 1 (fun r => u8 (outcomeByte r.outcome)) closing,
    u8 (recordFlags manual c (closing.bind ClosingRecord.scrapReason).isSome), padRight 16 c.ident.serial, u8 c.ident.typeIdx.val,
    u8 c.ident.typeRev, padRight 8 c.typeName, u8 c.carrier, opt 3 dateBytes (closing.bind ClosingRecord.closeDate),
    opt 2 monthBytes c.made, opt 2 u16 c.tare, opt 2 u16 c.ree, opt 4 weightBytes c.weight, u8 (severityByte c.worst),
    u8 c.findings.length, findingsBytes c.findings, u8 c.attempts, u8 c.grants, opt 31 testBytes c.test, opt 14 stampBytes c.stamp,
    opt 1 (fun m => u8 (methodByte m)) c.method, opt 1 u8 (closing.bind ClosingRecord.scrapReason),
    opt 4 provingResultBytes (closing.bind ClosingRecord.provingResult)]

theorem recordBytes_eq (number : Nat) (manual : Bool) (c : CylinderRecord) (closing : Option ClosingRecord) :
    recordBytes number manual c closing = (recordParts number manual c closing).flatten := by
  unfold recordBytes recordParts
  simp only [List.flatten_cons, List.flatten_nil, List.append_nil, List.append_assoc]

/-- The sizes of a record's parts (R176). -/
def recordSizes : List Nat := [4, 1, 1, 16, 1, 1, 8, 1, 3, 2, 2, 2, 4, 1, 1, 32, 1, 1, 31, 14, 1, 1, 4]

/-- A cylinder whose texts and findings fit their fields. -/
structure Fits (c : CylinderRecord) : Prop where
  serial : c.ident.serial.length ≤ 16
  name : c.typeName.length ≤ 8
  findings : c.findings.length ≤ 8
  line : ∀ x, c.stamp = some x → x.line.length ≤ 12

theorem laid_record {c : CylinderRecord} (fits : Fits c) (number : Nat) (manual : Bool) (closing : Option ClosingRecord) :
    (recordParts number manual c closing).map List.length = recordSizes := by
  simp [recordParts, recordSizes, length_padRight fits.serial, length_padRight fits.name, length_findings fits.findings,
    length_opt_test, length_opt_stamp fits.line]

/-! #### Where each field of a record lies -/

section
variable {c : CylinderRecord} (fits : Fits c) (number : Nat) (manual : Bool) (closing : Option ClosingRecord)
include fits

theorem length_record : (recordBytes number manual c closing).length = 133 := by
  rw [recordBytes_eq, length_flatten_of_laid (laid_record fits number manual closing)]
  rfl

/-- The part of a record at its place. -/
theorem part_record (i : Nat) {part : List Byte} {offset size : Nat}
    (here : (recordParts number manual c closing)[i]? = some part) (offset_eq : (recordSizes.take i).sum = offset)
    (size_eq : recordSizes[i]? = some size) : ((recordBytes number manual c closing).drop offset).take size = part := by
  rw [recordBytes_eq]
  exact part_flatten (laid_record fits number manual closing) i here offset_eq size_eq

/-- A finding's four bytes are at its place among the eight. -/
theorem part_finding {i : Nat} (place : i < 8) :
    ((recordBytes number manual c closing).drop (48 + 4 * i)).take 4 = opt 4 findingBytes c.findings[i]? := by
  have area := part_record fits number manual closing 15 (offset := 48) rfl rfl rfl
  rw [part_within area (by omega), findingsBytes_eq]
  refine part_flatten (laid_findings fits.findings) i (findingParts_getElem? place) ?_ ?_
  · rw [List.take_replicate, List.sum_replicate, Nat.min_eq_left (by omega), smul_eq_mul, Nat.mul_comm]
  · rw [List.getElem?_replicate, if_pos place]

/-- A field of the test record is at its place after offset 82. -/
theorem part_test {t : TestRecord} (tested : c.test = some t) (i : Nat) {part : List Byte} {start size : Nat}
    (here : (testParts t)[i]? = some part) (start_eq : 82 + (testSizes.take i).sum = start) (size_eq : testSizes[i]? = some size)
    (inside : start + size ≤ 113) : ((recordBytes number manual c closing).drop start).take size = part := by
  have area := part_record fits number manual closing 18 (offset := 82) rfl rfl rfl
  rw [← start_eq, part_within area (by omega), tested, opt, testBytes_eq]
  exact part_flatten (laid_test t) i here rfl size_eq

end

/-! #### The items in the handbook's words -/

/-- The places of R176's lists are the bytes sent. -/
theorem outcome_position (o : Option ClosingRecord) :
    opt 1 (fun r => u8 (outcomeByte r.outcome)) o =
      u8 (toPosition [ClosingOutcome.stamped, .scrapped, .withdrawn, .proving] (o.map ClosingRecord.outcome)) := by
  obtain _ | ⟨outcome, _⟩ := o
  · rfl
  · cases outcome <;> rfl

theorem testOutcome_position (o : Option TestOutcome) :
    opt 1 (fun o => u8 (testOutcomeByte o)) o =
      u8 (toPosition [TestOutcome.pass, .condemn, .invalid, .proved, .notProved] o) := by
  obtain _ | o := o
  · rfl
  · cases o <;> rfl

theorem reason_position (rs : List Reason) (i : Nat) :
    reasonAt rs i = u8 (toPosition
      [Reason.permanent, .elastic, .overpressure, .zeroFault, .zeroTimeout, .rampTimeout, .pressureLoss, .releaseTimeout,
        .settleTimeout, .repressurised, .noExpansion, .sensor, .aborted, .reset] rs[i]?) := by
  rw [reasonAt]
  obtain _ | r := rs[i]?
  · rfl
  · cases r <;> rfl

theorem method_position (m : Option ScrapMethod) :
    opt 1 (fun m => u8 (methodByte m)) m = u8 (toPosition [ScrapMethod.cut, .crush, .punch] m) := by
  cases m <;> rfl

/-- An absent number is sent as 0. -/
theorem opt_u16 (x : Option Nat) : opt 2 u16 x = u16 (x.getD 0) := by cases x <;> rfl

theorem opt_u8 (x : Option Nat) : opt 1 u8 x = u8 (x.getD 0) := by cases x <;> rfl

theorem opt_u32 (x : Option Nat) : opt 4 u32 x = u32 (x.getD 0) := by cases x <;> rfl

theorem opt_i32 (x : Option Int) : opt 4 i32 x = u32 (BitVec.ofInt 32 (x.getD 0)).toNat := by cases x <;> rfl

/-- An item that may be absent, as an option of its bytes. -/
theorem opt_eq_getD {α : Type} (n : Nat) (f : α → List Byte) (x : Option α) : opt n f x = (x.map f).getD (List.replicate n 0) := by
  cases x <;> rfl

/-- An answer frame's own bytes; its check byte closes the sum (R173, R175). -/
theorem answer_layout (a : Answer) :
    ∃ check : Byte,
      a.frame =
        [0xC3, BitVec.ofNat 8 (a.body.length + 3), BitVec.ofNat 8 a.code, BitVec.ofNat 8 (statusByte a.status), flagByte a.flags] ++
          a.body ++ [check] ∧
      byteSum (a.frame.drop 1) % 256 = 0 :=
  ⟨_, by simp [Answer.frame, withCheck, u8]; rfl, byteSum_withCheck _⟩

theorem statusByte_eq (s : Status) :
    statusByte s = [Status.ok, .role, .length, .field, .noCarrier, .state, .notHolder, .held, .full, .duplicate, .bound, .noDate,
      .typeInUse, .noType, .headBusy, .unproved, .notCovered, .spent, .notWeighed, .weighed, .empty, .stale, .condemned,
      .self].idxOf s := by
  cases s <;> rfl

/-- Settles O10: a record is its parts end to end, and each is found at the sizes before it. -/
theorem answerAndRecordLayout : Obligations.AnswerAndRecordLayout := by
  refine ⟨fun a => ?_, fun number manual c closing serial name findings line => ?_⟩
  · rw [← statusByte_eq]
    exact answer_layout a
  intro one two four spaced date month severity source head reason bytes part scrap
  have fits : Fits c := ⟨serial, name, findings, line⟩
  have place (i : Nat) {field : List Byte} {offset size : Nat} :=
    part_record fits number manual closing i (part := field) (offset := offset) (size := size)
  refine ⟨length_record fits number manual closing, (place 0 rfl rfl rfl).trans (u32_eq_sent4 number),
    (place 1 rfl rfl rfl).trans (outcome_position closing), place 2 rfl rfl rfl, place 3 rfl rfl rfl,
    place 4 rfl rfl rfl, place 5 rfl rfl rfl, place 6 rfl rfl rfl, place 7 rfl rfl rfl,
    (place 8 rfl rfl rfl).trans ?date, (place 9 rfl rfl rfl).trans ?made, (place 10 rfl rfl rfl).trans (opt_u16 _),
    (place 11 rfl rfl rfl).trans (opt_u16 _), (place 12 rfl rfl rfl).trans ?weight,
    (place 13 rfl rfl rfl).trans ?worst, place 14 rfl rfl rfl, fun i f stored => ?finding, fun i absent place => ?noFinding,
    place 16 rfl rfl rfl, place 17 rfl rfl rfl, fun untested => (place 18 rfl rfl rfl).trans ?untested,
    fun t tested => ?tested, fun unstamped => (place 19 rfl rfl rfl).trans ?unstamped, fun x stamped => ?stamped,
    (place 20 rfl rfl rfl).trans (method_position _), (place 21 rfl rfl rfl).trans (opt_u8 _),
    (place 22 rfl rfl rfl).trans ?proving, fun s p i => ?page⟩
  case date => rw [opt_eq_getD]; rfl
  case made => rw [opt_eq_getD]; rfl
  case weight => rw [opt_eq_getD]; rfl
  case worst => cases c.worst <;> rfl
  case finding =>
    obtain ⟨inside, -⟩ := List.getElem?_eq_some_iff.mp stored
    refine (part_finding fits number manual closing (by omega)).trans ?_
    rw [stored, opt, findingBytes, opt_u16]
    cases f.severity <;> cases f.source <;> rfl
  case noFinding =>
    refine (part_finding fits number manual closing place).trans ?_
    rw [List.getElem?_eq_none absent]
    rfl
  case untested => rw [untested]; rfl
  case tested =>
    have field (i : Nat) {part : List Byte} {start size : Nat} :=
      part_test fits number manual closing tested i (part := part) (start := start) (size := size)
    have headSent : u8 (headNumber t.head) = one (head t.head) := by cases t.head <;> rfl
    refine ⟨(field 0 rfl rfl rfl (by decide)).trans headSent, field 1 rfl rfl rfl (by decide), field 2 rfl rfl rfl (by decide),
      (field 3 rfl rfl rfl (by decide)).trans ?_, (field 4 rfl rfl rfl (by decide)).trans (testOutcome_position _),
      (field 5 rfl rfl rfl (by decide)).trans (reason_position t.reasons 0), (field 6 rfl rfl rfl (by decide)).trans (reason_position t.reasons 1),
      field 7 rfl rfl rfl (by decide), (field 8 rfl rfl rfl (by decide)).trans (opt_u16 _),
      (field 9 rfl rfl rfl (by decide)).trans ?_, (field 10 rfl rfl rfl (by decide)).trans ?_,
      (field 11 rfl rfl rfl (by decide)).trans (opt_u16 _), (field 12 rfl rfl rfl (by decide)).trans (opt_u16 _),
      (field 13 rfl rfl rfl (by decide)).trans ?_⟩
    · rw [opt_eq_getD]; rfl
    · rw [opt_i32, u32_eq_sent4]; rfl
    · rw [opt_i32, u32_eq_sent4]; rfl
    · rw [opt_eq_getD]; rfl
  case unstamped => rw [unstamped]; rfl
  case stamped =>
    have group := part_record fits number manual closing 19 (offset := 113) rfl rfl rfl
    rw [stamped, opt, stampBytes, lineBytes] at group
    have padded := length_padRight (line x stamped)
    refine ⟨(part_within group (a := 0) (n := 12) (by decide)).trans ?_, (part_within group (a := 12) (n := 2) (by decide)).trans ?_⟩
    · rw [List.drop_zero, List.take_left' padded]; rfl
    · rw [List.drop_left' padded]; rfl
  case proving =>
    rw [opt_eq_getD]
    cases closing.bind ClosingRecord.provingResult with
    | none => rfl
    | some r =>
      obtain ⟨proved, h, pv⟩ := r
      rw [Option.map_some, Option.getD_some, provingResultBytes, opt_u16]
      cases h <;> rfl
  case page =>
    intro items
    have opening : (pageItems s p ++ u8 i).length = 7 := by simp [pageItems]
    refine ⟨?_, ?_, fun closes => ?_⟩
    · show ((pageItems s p ++ u8 i) ++ recordBytes number manual c _).length + 3 = 143
      rw [List.length_append, opening, length_record fits]
    · refine (List.take_left' opening).trans ?_
      rw [pageItems, opt_u32, u32_eq_sent4]
      cases p <;> rfl
    · refine (List.drop_left' opening).trans ?_
      cases closing with
      | none => exact absurd rfl closes
      | some r => rfl

end Sys2Proof.Links

namespace Sys2Proof.Links

open Sys2Proof.Machine Sys2Proof.Safety Sys2Proof.Laws Sys2Proof.Roll Sys2Proof.Settings

/-! ### The requests on a link's own notices and flags (R179, R183, R184) -/

/-- Each named bit of a word is the place of an item of the list with a property. -/
theorem named_iff {α : Type} {n : Nat} (names : BitVec n) (xs : List α) (p : α → Prop) [DecidablePred p] :
    ((List.range n).all fun i => !names.getLsbD i || (xs[i]?.map fun x => decide (p x)).getD false) = true ↔
      ∀ i, names.getLsbD i = true → ∃ x, xs[i]? = some x ∧ p x := by
  have place (i : Nat) : (xs[i]?.map fun x => decide (p x)).getD false = true ↔ ∃ x, xs[i]? = some x ∧ p x := by
    cases xs[i]? <;> simp
  simp only [List.all_eq_true, List.mem_range, Bool.or_eq_true, Bool.not_eq_true', place, ← Bool.not_eq_true]
  exact ⟨fun h i named => (h i (BitVec.lt_of_getLsbD named)).resolve_left (not_not_intro named),
    fun h i _ => or_iff_not_imp_left.mpr fun named => h i (not_not.mp named)⟩

/-- The named bits take their new values, the others stay (R183). -/
theorem getLsbD_replaceBits {n : Nat} (old names values : BitVec n) (i : Nat) :
    (replaceBits old names values).getLsbD i = if names.getLsbD i then values.getLsbD i else old.getLsbD i := by
  by_cases inside : i < n
  · rw [replaceBits, BitVec.getLsbD_or, BitVec.getLsbD_and, BitVec.getLsbD_and, BitVec.getLsbD_not]
    cases names.getLsbD i <;> simp [inside]
  · simp [BitVec.getLsbD_of_ge _ i (Nat.not_lt.mp inside)]

/-- The place of a notice's head or link in the handbook's order. -/
theorem noticeBytes_sent (n : Notice) :
    noticeBytes n =
      sentPlace [NoticeKind.holdDone, .testDone, .headUnproved, .stampReady, .scrapReady, .pageFinished, .linkLost,
        .referralWaiting, .registerFull, .exportBlocked] n.kind ++
      sent1 (match n with
        | .holdDone h | .testDone h | .headUnproved h => [HeadId.H0, .H1, .H2, .H3].idxOf h
        | .linkLost m => [LinkId.L0, .L1, .L2, .L3, .L4, .L5].idxOf m
        | _ => 0) := by
  cases n with
  | holdDone h | testDone h | headUnproved h => cases h <;> rfl
  | linkLost l => cases l <;> rfl
  | _ => rfl

theorem faults_sent (f : PerFault Bool) (k : Link) :
    flagByte f :: countsBytes k.counts = sentFaults { k with flags := f } := by
  obtain ⟨parity, framing, check, fragment, overrun⟩ := f
  cases parity <;> cases framing <;> cases check <;> cases fragment <;> cases overrun <;> rfl

theorem notices_taken {s : State} {l : LinkId} (can : CanTake s l) :
    exec (.notices l (.fields ())) s =
      .next (answered ((heard s l).updLink l fun k => { k with pending := [] }) l 2 .ok (noticesBytes (s.link l).pending)) :=
  request_ok .notices () (takeNotices l) _ can (by cases l <;> rfl) (by rw [takeNotices, heard_link_self])

theorem noticeSetup_taken {s : State} {l : LinkId} (can : CanTake s l) {a : NoticeSetupArgs}
    (named : enablesNamed l a.enableNames = true ∧ edgesNamed l a.edgeNames = true) :
    exec (.noticeSetup l (.fields a)) s =
      .next (answered ((heard s l).updLink l fun k =>
        { k with
          enables := replaceBits (s.link l).enables a.enableNames a.enableValues
          edges := replaceBits (s.link l).edges a.edgeNames a.edgeValues }) l 3 .ok
        (u16 a.enableNames.toNat ++ u16 a.enableValues.toNat ++ [a.edgeNames, a.edgeValues])) := by
  refine request_ok .noticeSetup a (takeNoticeSetup l) _ can (by cases l <;> rfl) ?_
  rw [takeNoticeSetup, if_pos (by rw [named.1, named.2]; rfl)]
  congr 1
  exact updLink_congr (by rw [heard_link_self])

theorem noticeSetup_refused {s : State} {l : LinkId} (can : CanTake s l) {a : NoticeSetupArgs}
    (unnamed : ¬(enablesNamed l a.enableNames = true ∧ edgesNamed l a.edgeNames = true)) :
    exec (.noticeSetup l (.fields a)) s = .next (refusedWith s l 3 .field) :=
  request_refused .noticeSetup a (takeNoticeSetup l) can (by cases l <;> rfl) .field
    (by rw [takeNoticeSetup, if_neg (by rwa [Bool.and_eq_true])])

theorem clearErrors_taken {s : State} {l : LinkId} (can : CanTake s l) (names : BitVec 8) :
    exec (.clearErrors l (.fields names)) s =
      .next (answered ((heard s l).updLink l fun k => { k with flags := clearNamed names (s.link l).flags }) l 4 .ok
        (sentFaults { s.link l with flags := clearNamed names (s.link l).flags })) := by
  refine request_ok .clearErrors names (takeClearErrors l) _ can (by cases l <;> rfl) ?_
  have same : (heard s l).updLink l (fun k => { k with flags := clearNamed names k.flags }) =
      (heard s l).updLink l fun k => { k with flags := clearNamed names (s.link l).flags } :=
    updLink_congr (by rw [heard_link_self])
  rw [takeClearErrors, ← faults_sent (clearNamed names (s.link l).flags) (s.link l), same, heard_link_self]

/-- Settles O11: each block answers from the link as it stood, and changes its own fields of it. -/
theorem linkRequestsAct : Obligations.LinkRequestsAct := by
  intro s l can
  refine ⟨?notices, fun a => ?setup, fun names => clearErrors_taken can names⟩
  case notices =>
    rw [notices_taken can, noticesBytes, show noticeBytes = _ from funext noticeBytes_sent, ← List.flatMap_def]
    rfl
  case setup =>
    intro named
    have iff : named ↔ enablesNamed l a.enableNames = true ∧ edgesNamed l a.edgeNames = true :=
      and_congr (named_iff _ _ _).symm (named_iff _ _ _).symm
    refine ⟨fun h => ⟨_, _, noticeSetup_taken can (iff.mp h), fun i => getLsbD_replaceBits _ _ _ i,
      fun i => getLsbD_replaceBits _ _ _ i⟩, fun h => noticeSetup_refused can (iff.not.mp h)⟩

end Sys2Proof.Links

namespace Sys2Proof.Links

open Sys2Proof.Machine Sys2Proof.Safety Sys2Proof.Laws Sys2Proof.Roll Sys2Proof.Settings

/-! ### Notices, conditions, forced notices, and the line reset (R182 to R185) -/

theorem raise_sameButLinks (n : Notice) (s : State) : SameButLinks s (raise n s) :=
  SameButLinks.foldl (fun s l => .raiseTo n l s) _ s

theorem callLine_iff (k : Link) :
    k.callLine = true ↔ (k.state = .running ∨ k.state = .lost) ∧ ∃ n ∈ k.pending, k.enables.getLsbD (kindBit n.kind) = true := by
  have states : k.state ≠ .stopped ↔ k.state = .running ∨ k.state = .lost := by cases k.state <;> decide
  rw [Link.callLine, Bool.and_eq_true, decide_eq_true_eq, List.any_eq_true, states]

/-- Settles O23: a raise is a fold over the links of its kind, each taking the item into a set. -/
theorem raisedItemReachesItsLinks : Obligations.RaisedItemReachesItsLinks :=
  ⟨by decide, by rintro ⟨⟩ <;> decide, fun n s => ⟨raise_link n s, raise_sameButLinks n s⟩,
    fun n m p => ⟨mem_withNotice n m p, nodup_withNotice n p⟩, callLine_iff⟩

theorem fillingPage_none (s : State) : s.fillingPage = none ↔ s.pageA.state ≠ .filling ∧ s.pageB.state ≠ .filling := by
  unfold State.fillingPage
  split_ifs with a b
  · simp [a]
  · simp [b]
  · simp [a, b]

/-- Settles O24: the report is one fold over the three conditions. -/
theorem conditionChangesAreReported : Obligations.ConditionChangesAreReported :=
  ⟨⟨rfl, by rintro ⟨⟩ <;> rfl, rfl, rfl, rfl⟩, fun s => ⟨lowestFree_none s, fillingPage_none s⟩,
    fun f s => ⟨reporting_link f s, SameButLinks.reporting f s⟩⟩

/-! #### Forced notices -/

/-- A good frame on a link leaves which links are STOPPED. -/
theorem heard_stopped {s : State} {l : LinkId} (can : CanTake s l) (m : LinkId) :
    ((heard s l).link m).state = .stopped ↔ (s.link m).state = .stopped := by
  by_cases same : m = l
  · subst same
    rw [heard_link_self]
    exact iff_of_false (by rintro ⟨⟩) can.running
  · rw [heard_link_other s l m same]

theorem forceNotice_field {s : State} (can : CanTake s .L0) {a : ForceNoticeArgs} (unread : readForced a = none) :
    exec (.forceNotice .L0 (.fields a)) s = .next (refusedWith s .L0 14 .field) :=
  request_refused .forceNotice a takeForceNotice can rfl .field (by rw [takeForceNotice, unread])

/-- What is read as a forced item names a link, a kind and a number of that kind, and is directed to the link. -/
theorem readForced_eq (m : LinkId) (kd : NoticeKind) (num : Nat) :
    readForced ⟨linkNumber m, some kd, num⟩ = (forcedNotice kd num).bind fun n => if m ∈ towards kd then some (m, n) else none := by
  simp [readForced]

/-- A kind that carries a head takes the numbers below 4, LINK_LOST those of L1 to L5 (R184). -/
theorem forcedNotice_none {kd : NoticeKind} {num : Nat}
    (outside : (kd = .holdDone ∨ kd = .testDone ∨ kd = .headUnproved) ∧ 4 ≤ num ∨ kd = .linkLost ∧ (num = 0 ∨ 6 ≤ num)) :
    forcedNotice kd num = none := by
  obtain ⟨rfl | rfl | rfl, above⟩ | ⟨rfl, rfl | above⟩ := outside
  · rw [forcedNotice, headOf_none num above]; rfl
  · rw [forcedNotice, headOf_none num above]; rfl
  · rw [forcedNotice, headOf_none num above]; rfl
  · rfl
  · rw [forcedNotice, linkOf_none num above]; simp

/-- A notice is read back from its kind and its number, which counts only for a kind that carries one. -/
theorem forcedNotice_some {n : Notice} {num : Nat} (notSelf : n ≠ .linkLost .L0)
    (numbered : n.kind = .holdDone ∨ n.kind = .testDone ∨ n.kind = .headUnproved ∨ n.kind = .linkLost → noticeNumber n = num) :
    forcedNotice n.kind num = some n := by
  cases n with
  | holdDone h => obtain rfl := numbered (.inl rfl); simp [forcedNotice, Notice.kind, noticeNumber]
  | testDone h => obtain rfl := numbered (.inr (.inl rfl)); simp [forcedNotice, Notice.kind, noticeNumber]
  | headUnproved h => obtain rfl := numbered (.inr (.inr (.inl rfl))); simp [forcedNotice, Notice.kind, noticeNumber]
  | linkLost l =>
    obtain rfl := numbered (.inr (.inr (.inr rfl)))
    cases l with
    | L0 => exact absurd rfl notSelf
    | _ => rfl
  | _ => rfl

/-- Settles O34: the item is read from link, kind and number, then raised towards the one link. -/
theorem forcedNoticeIsAdded : Obligations.ForcedNoticeIsAdded := by
  intro s can
  refine ⟨fun n kd num above => forceNotice_field can ?_, fun n num => forceNotice_field can ?_,
    fun m kd num elsewhere => forceNotice_field can ?_, fun m kd num outside => forceNotice_field can ?_,
    fun m n num reached notSelf numbered => ?_⟩
  · simp [readForced, linkOf_none n above]
  · simp [readForced]
  · rw [readForced_eq]
    simp [elsewhere]
  · rw [readForced_eq, forcedNotice_none outside]
    rfl
  · have read : readForced ⟨linkNumber m, some n.kind, num⟩ = some (m, n) := by
      rw [readForced_eq, forcedNotice_some notSelf numbered, Option.bind_some, if_pos reached]
    refine ⟨fun stopped => ?_, fun listens => ?_⟩
    · refine request_refused .forceNotice _ takeForceNotice can rfl .state ?_
      rw [takeForceNotice, read]
      exact if_pos ((heard_stopped can m).mpr stopped)
    · have hears : ((heard s .L0).link m).state ≠ .stopped := (heard_stopped can m).not.mpr listens
      refine request_ok .forceNotice _ takeForceNotice _ can rfl ?_
      rw [takeForceNotice, read]
      refine (if_neg hears).trans ?_
      rw [raiseTo, if_neg hears, updLink_congr (g := noted n) (if_neg hears).symm]

/-! #### The line reset -/

/-- Settles O35: LINE_RESET only answers, and the end of its answer is known by code and status. -/
theorem lineResetFollowsItsAnswer : Obligations.LineResetFollowsItsAnswer := by
  intro s
  refine ⟨fun can => request_ok .lineReset () takeLineReset [] can rfl rfl,
    fun powered => ⟨event_powered lineReset powered, fun l => ?_⟩⟩
  intro quiet
  have ended : exec (.answerSent l) s = .next (answerSent l s) := event_powered (answerSent l) powered
  rw [ended]
  refine ⟨fun free => by rw [answerSent, free], fun o sent => ?_⟩
  have reset : o.answer.startsReset = true ↔ o.answer.code = 12 ∧ o.answer.status = .ok :=
    decide_eq_true_iff
  refine ⟨fun asked => ?_, fun other => ?_⟩
  · rw [answerSent, sent]; exact congrArg _ (if_pos (reset.mpr asked))
  · rw [answerSent, sent]; exact congrArg _ (if_neg (reset.not.mpr other))

end Sys2Proof.Links

namespace Sys2Proof.Links

open Sys2Proof.Machine Sys2Proof.Safety Sys2Proof.Laws Sys2Proof.Roll Sys2Proof.Settings Sys2Proof.Heads

/-! ### Reports (R32, R92, R131, R138, R166, R186) -/

/-! #### Enumerated items -/

theorem yesNo_sent {b : Bool} {p : Prop} [Decidable p] (iff : b = true ↔ p) : yesNo b = sentYes p := by
  by_cases holds : p
  · rw [iff.mpr holds, sentYes, if_pos holds]; rfl
  · rw [Bool.eq_false_iff.mpr (iff.not.mpr holds), sentYes, if_neg holds]; rfl

theorem slotState_sent (x : SlotState) :
    u8 (slotStateByte x) = sentPlace [SlotState.free, .admitted, .inspecting, .awaitTest, .testing, .referred, .awaitStamp,
      .stamping, .awaitScrap, .scrapping, .closed] x := by cases x <;> rfl

theorem pageState_sent (x : PageState) : u8 (pageStateByte x) = sentPlace [PageState.empty, .filling, .finished] x := by
  cases x <;> rfl

theorem presented_sent (p : Option PageId) : opt 1 (fun p => u8 (pageByte p)) p = sentOr 1 (sentPlace [PageId.A, .B]) p := by
  obtain _ | p := p
  · rfl
  · cases p <;> rfl

theorem linkState_sent (x : LinkState) : u8 (linkStateByte x) = sentPlace [LinkState.running, .lost, .stopped] x := by
  cases x <;> rfl

theorem holder_sent (x : Option Holder) :
    opt 1 (fun h => u8 (holderByte h)) x = sent1 (match x with
      | some (.link .L1) => 1 | some (.link .L3) => 2 | some (.link .L4) => 3
      | some (.head h) => 4 + [HeadId.H0, .H1, .H2, .H3].idxOf h | _ => 0) := by
  obtain _ | l | h := x
  · rfl
  · cases l <;> rfl
  · cases h <;> rfl

theorem mark_sent (m : LiveMark) : u8 (markByte m) = sent1 (match m with | .good => 1 | .faulted => 2 | .none => 0) := by
  cases m <;> rfl

theorem testOutcome_sent (o : TestOutcome) :
    u8 (testOutcomeByte o) = sentPlace [TestOutcome.pass, .condemn, .invalid, .proved, .notProved] o := by cases o <;> rfl

theorem reason_sent (r : Reason) :
    u8 (reasonByte r) = sentPlace [Reason.permanent, .elastic, .overpressure, .zeroFault, .zeroTimeout, .rampTimeout,
      .pressureLoss, .releaseTimeout, .settleTimeout, .repressurised, .noExpansion, .sensor, .aborted, .reset] r := by
  cases r <;> rfl

/-- The outcome and both reasons of a test. -/
theorem outcome_sent (r : TestRecord) :
    opt 1 (fun o => u8 (testOutcomeByte o)) r.outcome ++ reasonAt r.reasons 0 ++ reasonAt r.reasons 1 = sentOutcome r := by
  simp only [reasonAt, testOutcome_sent, reason_sent, opt_eq_sentOr]
  rfl

/-! #### The items of each report -/

theorem count_sent (s : State) (p : SlotState → Bool) :
    u8 (s.countSlots p) = sent1 ((List.finRange 48).filter fun k => p (s.slot k).state).length := by
  rw [State.countSlots, List.countP_eq_length_filter]
  rfl

theorem isOpen_eq (x : SlotState) : x.isOpen = decide (x ≠ .free ∧ x ≠ .closed) := by cases x <;> rfl

theorem status_roll (s : State) :
    statusRoll s =
      sent1 ((List.finRange 48).filter fun k => decide ((s.slot k).state = .free)).length ++
      sent1 ((List.finRange 48).filter fun k => decide ((s.slot k).state ≠ .free ∧ (s.slot k).state ≠ .closed)).length ++
      sent1 ((List.finRange 48).filter fun k => decide ((s.slot k).state = .closed)).length ++ sent1 s.referral.length ++
      sent1 s.closingQueue.length ++ sentYes (∀ k, (s.slot k).state ≠ .free) := by
  have full : s.lowestFree.isNone = true ↔ ∀ k, (s.slot k).state ≠ .free := by rw [Option.isNone_iff_eq_none, lowestFree_none]
  rw [statusRoll, yesNo_sent full]
  simp only [count_sent, isOpen_eq]
  rfl

theorem status_pages (s : State) :
    let page (p : Page) : List Byte := sentPlace [PageState.empty, .filling, .finished] p.state ++ sent1 p.records.length
    statusPages s =
      page s.pageA ++ page s.pageB ++ sentOr 1 (sentPlace [PageId.A, .B]) s.presented ++
      sentYes (s.pageA.state ≠ .filling ∧ s.pageB.state ≠ .filling) ++ sent4 s.recordCounter := by
  have blocked : s.fillingPage.isNone = true ↔ s.pageA.state ≠ .filling ∧ s.pageB.state ≠ .filling := by
    rw [Option.isNone_iff_eq_none, fillingPage_none]
  rw [statusPages, yesNo_sent blocked, presented_sent, u32_eq_sent4]
  simp only [pageSummary, pageState_sent]
  rfl

theorem status_heads (s : State) :
    statusHeads s =
      ([HeadId.H0, .H1, .H2, .H3].flatMap fun h =>
        sentPlace [Phase.idle, .mounted, .zeroing, .ramp, .hold, .tail, .release, .settle, .done] (s.head h).phase) ++
      ([HeadId.H0, .H1, .H2, .H3].flatMap fun h => sentYes ((s.head h).proving ≠ none)) := by
  have proved (h : HeadId) : yesNo (s.head h).proving.isSome = sentYes ((s.head h).proving ≠ none) :=
    yesNo_sent Option.isSome_iff_ne_none
  simp only [statusHeads, proved, phase_eq_sentPlace, ← List.flatMap_def]
  rfl

theorem status_links (s : State) :
    (allLinks.map fun l => linkSummary (s.link l)).flatten =
      [LinkId.L0, .L1, .L2, .L3, .L4, .L5].flatMap fun l =>
        sentPlace [LinkState.running, .lost, .stopped] (s.link l).state ++ sentFaults (s.link l) := by
  have summary (k : Link) : linkSummary k = sentPlace [LinkState.running, .lost, .stopped] k.state ++ sentFaults k := by
    rw [linkSummary, linkState_sent, List.append_assoc]
    exact congrArg _ (faults_sent k.flags k)
  simp only [summary, ← List.flatMap_def]
  rfl

theorem live_sent (r : Live) :
    liveBytes r = sent2 r.value ++ sent1 (match r.mark with | .good => 1 | .faulted => 2 | .none => 0) := by
  rw [liveBytes, mark_sent]
  rfl

theorem proving_sent (p : Option Proved) :
    provingBytes p = sent1 (if p = none then 1 else 2) ++
      sentOr 8 (fun p => sent2 p.pv ++ sent4 p.provedAt ++ sent2 p.count) p := by
  cases p with
  | none => rfl
  | some p => rw [provingBytes, u32_eq_sent4]; rfl

/-- The attempt number is that of the head's record while the head holds pressures. -/
theorem headAttempt_sent (s : State) (x : Head) :
    opt 1 u8 (headAttempt s x) =
      sentOr 1 (fun r => sent1 r.attempt) (if x.pressures = none then none else x.mount.bind fun m => (s.slot m.slot).test) := by
  rw [headAttempt]
  cases x.pressures with
  | none => rfl
  | some p => cases (x.mount.bind fun m => (s.slot m.slot).test) <;> rfl

theorem headOutcome_sent (s : State) (x : Head) :
    headOutcome s x =
      sentOr 3 sentOutcome (if x.phase = .done then x.mount.bind fun m => (s.slot m.slot).test else none) := by
  rw [headOutcome]
  split_ifs
  · rw [show (fun t : TestRecord => _) = sentOutcome from funext outcome_sent, opt_eq_sentOr]
  · rfl

theorem i32_eq_sentSigned (n : Int) : i32 n = sentSigned n := u32_eq_sent4 _

theorem opt_i32_sent (x : Option Int) : opt 4 i32 x = sentOr 4 sentSigned x := by
  rw [opt_eq_sentOr, show i32 = sentSigned from funext i32_eq_sentSigned]

theorem headStatus_sent (s : State) (h : HeadId) :
    let x := s.head h
    let record := x.mount.bind fun m => (s.slot m.slot).test
    let live (r : Live) : List Byte :=
      sent2 r.value ++ sent1 (match r.mark with | .good => 1 | .faulted => 2 | .none => 0)
    headStatusItems s h =
      sentPlace [Phase.idle, .mounted, .zeroing, .ramp, .hold, .tail, .release, .settle, .done] x.phase ++
      sentOr 2 (fun m => sent1 m.slot.val ++ sent1 m.carrier) x.mount ++
      sentOr 1 (fun r => sent1 r.attempt) (if x.pressures = none then none else record) ++
      sentOr 8 (fun p => sent2 p.pa ++ sent2 p.po ++ sent2 p.pl ++ sent2 p.pr) x.pressures ++
      sent2 x.phaseCount ++ sent1 x.runCount ++ sent2 x.holdCount ++ sent1 x.tailCount ++ sent1 x.lowRun ++
      sent1 x.gather.length ++ sentOr 2 sent2 x.z ++ sentOr 4 sentSigned x.t ++
      sentOr 4 (fun r => sent2 r.max ++ sent2 r.min) x.ripple ++
      sentOr 3 sentOutcome (if x.phase = .done then record else none) ++ live x.livePressure ++ live x.liveJacket ++
      sent1 (if x.permit = true then 1 else 2) ++ sent1 x.lag ++ sent2 x.band ++
      sent1 (if x.proving = none then 1 else 2) ++
      sentOr 8 (fun p => sent2 p.pv ++ sent4 p.provedAt ++ sent2 p.count) x.proving := by
  unfold headStatusItems
  dsimp only
  rw [phase_eq_sentPlace, headAttempt_sent, headOutcome_sent, live_sent, live_sent, proving_sent, opt_i32_sent,
    ← List.append_assoc _ (sent1 (if (s.head h).proving = none then 1 else 2))]
  simp only [opt_eq_sentOr]
  rfl

theorem queue_sent (s : State) (k : SlotId) :
    queueBytes s k =
      if k ∈ s.referral then sent1 1 ++ sent1 (s.referral.idxOf k)
      else if k ∈ s.closingQueue then sent1 2 ++ sent1 (s.closingQueue.idxOf k) else sent1 0 ++ sent1 0 := by
  unfold queueBytes queuePosition
  split_ifs <;> rfl

/-- A slot's type name, its entry's. -/
theorem typeName_eq (s : State) (x : Slot) :
    ((s.typeOfSlot x).map TypeFields.name).getD [] =
      (((x.ident.bind fun i => (s.typeEntry i.typeIdx).loaded).map fun t => t.fields.name)).getD [] := by
  unfold State.typeOfSlot
  cases x.ident with
  | none => rfl
  | some i => cases loaded : (s.typeEntry i.typeIdx).loaded <;> simp [loaded]

/-- LOOKUP's record: none of a FREE slot, the closing record of a CLOSED one, else the slot's as it stands (R186). -/
theorem lookupRecord_sent (s : State) (x : Slot) :
    let name := (((x.ident.bind fun i => (s.typeEntry i.typeIdx).loaded).map fun t => t.fields.name)).getD []
    lookupRecord s x =
      if x.state = .free then []
      else match if x.state = .closed then x.closing else none with
        | some r => recordBytes 0 false r.cylinder (some r)
        | none => sentOr 0
          (fun i => recordBytes 0 false
            { ident := i, typeName := name, carrier := x.carrier.getD 0, made := x.made, tare := x.tare, ree := x.ree,
              weight := x.weight, findings := x.findings, overflow := x.overflow, worst := x.worst,
              attempts := x.attempts, grants := x.grants, test := x.test, stamp := x.stamp, method := x.method } none)
          x.ident := by
  intro name
  have standing : ((s.cylinder x).map fun c => recordBytes 0 false c none).getD [] = sentOr 0
      (fun i => recordBytes 0 false
        { ident := i, typeName := name, carrier := x.carrier.getD 0, made := x.made, tare := x.tare, ree := x.ree,
          weight := x.weight, findings := x.findings, overflow := x.overflow, worst := x.worst,
          attempts := x.attempts, grants := x.grants, test := x.test, stamp := x.stamp, method := x.method } none) x.ident := by
    have named : ((s.typeOfSlot x).map TypeFields.name).getD [] = name := typeName_eq s x
    rw [State.cylinder, named]
    clear_value name
    cases x.ident <;> rfl
  unfold lookupRecord
  cases x.state with
  | free => rfl
  | closed =>
    cases x.closing with
    | none => exact standing
    | some r => rfl
  | _ => exact standing

theorem isProving_sent (x : Slot) : yesNo x.isProving = sentOr 1 (fun i => sentYes (i.proving = true)) x.ident := by
  rw [Slot.isProving]
  cases x.ident with
  | none => rfl
  | some i => exact yesNo_eq_sentYes i.proving

theorem lastTest_sent (r : TestRecord) :
    lastTestBytes r = sentOutcome r ++ sent1 r.attempt ++ sent2 r.pa ++ sentOr 3 sentDate r.date := by
  rw [lastTestBytes, outcome_sent, opt_eq_sentOr]
  rfl

theorem referral_sent (s : State) (k : SlotId) :
    let x := s.slot k
    referralItems s k =
      sent1 s.referral.length ++ sent1 k.val ++ sentOr 1 sent1 x.carrier ++
      sentOr 16 (fun i => sentText 16 i.serial) x.ident ++ sentOr 1 (fun i => sent1 i.typeIdx.val) x.ident ++
      sentOr 1 (fun i => sent1 i.typeRev) x.ident ++ sentOr 1 (fun i => sentYes (i.proving = true)) x.ident ++
      sent1 x.attempts ++ sent1 x.grants ++ sentSeverity x.worst ++ sent1 x.findings.length ++ sentYes (x.overflow = true) ++
      sentOr 9 (fun r => sentOutcome r ++ sent1 r.attempt ++ sent2 r.pa ++ sentOr 3 sentDate r.date) x.test := by
  unfold referralItems
  dsimp only
  rw [isProving_sent, show lastTestBytes = _ from funext lastTest_sent]
  simp only [Slot.serialBytes, Slot.typeBytes, Slot.revBytes, opt_eq_sentOr, yesNo_eq_sentYes, severity_eq_sent]
  rfl

theorem status_sent (s : State) :
    statusItems s = statusRoll s ++ statusPages s ++ statusHeads s ++ statusSettings s ++
      ([LinkId.L0, .L1, .L2, .L3, .L4, .L5].flatMap fun l =>
        sentPlace [LinkState.running, .lost, .stopped] (s.link l).state ++ sentFaults (s.link l)) := by
  rw [statusItems, status_links]

theorem settings_sent (s : State) :
    statusSettings s = sentOr 3 sentDate s.calendar ++ sentYes (s.manualDate = true) ++ sentText 4 s.mark := by
  rw [statusSettings, opt_eq_sentOr, yesNo_eq_sentYes]
  rfl

theorem lookup_sent (s : State) (k : SlotId) :
    lookupItems s k =
      sent1 k.val ++
      sentPlace
        [SlotState.free, .admitted, .inspecting, .awaitTest, .testing, .referred, .awaitStamp, .stamping, .awaitScrap,
          .scrapping, .closed] (s.slot k).state ++
      sent1 (match (s.slot k).holder with
        | some (.link .L1) => 1 | some (.link .L3) => 2 | some (.link .L4) => 3
        | some (.head h) => 4 + [HeadId.H0, .H1, .H2, .H3].idxOf h | _ => 0) ++
      queueBytes s k ++ lookupRecord s (s.slot k) := by
  rw [lookupItems, slotState_sent, holder_sent]
  rfl

theorem type_sent (t : LoadedType) (inUse : Bool) :
    let f := t.fields
    let raised := f.pt + f.pt * f.lr / 1000
    typeItems t inUse =
      sentText 8 f.name ++ sentYes (f.proving = true) ++ sent2 f.pt ++ sent1 f.holdSeconds ++ sent1 f.w ++ sent1 f.lp ++
      sent2 f.ree ++ sent1 f.lo ++ sent1 f.ld ++ sent1 f.lr ++ sent1 f.lw ++ sent1 f.lifeYears ++ sent1 f.interval ++
      sent1 f.ls ++ sent1 f.starInterval ++ sent2 f.rampLimit ++ sent2 f.settleLimit ++ sentOr 2 sent2 f.tn ++
      sentOr 1 sent1 f.lt ++ sent1 t.rev ++ sent2 (raised + raised * f.lo / 1000) ++ sentYes (inUse = true) := by
  unfold typeItems
  dsimp only
  simp only [opt_eq_sentOr, yesNo_eq_sentYes]
  rfl

/-! #### The requests -/

section
variable {s : State}

theorem headStatus_taken (can : CanTake s .L2) (h : HeadId) :
    exec (.headStatus .L2 (.fields (headNumber h))) s = .next (answered (heard s .L2) .L2 28 .ok (headStatusItems s h)) :=
  request_ok .headStatus _ takeHeadStatus _ can rfl (by rw [takeHeadStatus, onHead, headOf_headNumber]; rfl)

theorem headStatus_field (can : CanTake s .L2) {n : Nat} (above : 4 ≤ n) :
    exec (.headStatus .L2 (.fields n)) s = .next (refusedWith s .L2 28 .field) :=
  request_refused .headStatus n takeHeadStatus can rfl .field (by rw [takeHeadStatus, onHead, headOf_none n above])

theorem readType_field (can : CanTake s .L5) {n : Nat} (above : 32 ≤ n) :
    exec (.readType .L5 (.fields n)) s = .next (refusedWith s .L5 35 .field) :=
  request_refused .readType n takeReadType can rfl .field (by rw [takeReadType, typeOf_none n above])

theorem readType_taken (can : CanTake s .L5) (i : TypeId) :
    exec (.readType .L5 (.fields i.val)) s = .next
      (match (s.typeEntry i).loaded with
      | none => answered (heard s .L5) .L5 35 .empty (u8 i.val ++ u8 (s.typeEntry i).lastRev)
      | some t => answered (heard s .L5) .L5 35 .ok (typeItems t (s.locked i))) := by
  refine (request_fields .readType i.val takeReadType can rfl).trans ?_
  rw [takeReadType, typeOf_val]
  cases loaded : (s.typeEntry i).loaded <;> simp [loaded] <;> rfl

/-- A LOOKUP that names no slot is refused. -/
theorem lookup_refused {l : LinkId} (can : CanTake s l) {a : LookupArgs} {st : Status}
    (refuses : takeLookup a (heard s l) = (heard s l, refusal st)) :
    exec (.lookup l (.fields a)) s = .next (refusedWith s l 5 st) :=
  request_refused .lookup a takeLookup can (by cases l <;> rfl) st refuses

/-- A LOOKUP that names a slot reports it. -/
theorem lookup_taken {l : LinkId} (can : CanTake s l) {a : LookupArgs} {k : SlotId}
    (reports : takeLookup a (heard s l) = (heard s l, okWith (lookupItems (heard s l) k))) :
    exec (.lookup l (.fields a)) s = .next (answered (heard s l) l 5 .ok (lookupItems s k)) :=
  request_ok .lookup a takeLookup _ can (by cases l <;> rfl) reports

/-- A carrier that is bound is one of 1 to 255. -/
theorem bound_le {c : Nat} {k : SlotId} (bound : s.bound c = some k) : c ≤ 255 := by
  obtain ⟨i, rfl, -⟩ := bound_some bound
  omega

theorem takeLookup_carrier {n : Nat} (carrier : n ≤ 255) (u : State) :
    takeLookup ⟨some .carrier, n⟩ u = onCarrier n u fun k => (u, okWith (lookupItems u k)) :=
  if_neg (Nat.not_lt_of_le carrier)

theorem readPage_refused (can : CanTake s .L5) {i : Nat} {st : Status}
    (refuses : takeReadPage i (heard s .L5) = (heard s .L5, refusal st)) :
    exec (.readPage .L5 (.fields i)) s = .next (refusedWith s .L5 38 st) :=
  request_refused .readPage i takeReadPage can rfl st refuses

theorem takeReadPage_presented {u : State} {p : PageId} {i : Nat} (low : i ≤ 7) (presented : u.presented = some p) :
    takeReadPage i u = match (u.page p).records[i]? with
      | none => (u, refusal .field)
      | some r => (u, okWith (readPageItems u p i r)) := by
  rw [takeReadPage, if_neg (Nat.not_lt_of_le low), presented] <;> rfl

end

/-- Settles O29: each report is a block that leaves the state, and each of its items is the handbook's. -/
theorem reportsChangeNothing : Obligations.ReportsChangeNothing := by
  refine ⟨fun s => ?items, type_sent, fun s => ⟨fun l can => ?status, fun l permitted can => ?stats, fun can n => ?head,
    fun can n => ?type, fun l can n => ?lookup, fun can => ?referral, fun can i => ?page⟩⟩
  case items =>
    refine ⟨?_, statsItems_eq_sent s, headStatus_sent s, fun k => ⟨?_, referral_sent s k⟩⟩
    · rw [status_sent, status_roll, status_pages, status_heads, settings_sent]
      simp only [List.append_assoc]
    · rw [lookup_sent, queue_sent, lookupRecord_sent] <;> rfl
  case status => exact request_ok .status () takeStatus _ can (by cases l <;> rfl) rfl
  case stats =>
    exact request_ok .readStats () takeReadStats _ can (by obtain rfl | rfl := permitted <;> rfl) rfl
  case head => exact ⟨headStatus_field can, by rintro h rfl; exact headStatus_taken can h⟩
  case type => exact ⟨readType_field can, by rintro i rfl; exact readType_taken can i⟩
  case lookup =>
    refine ⟨lookup_refused can rfl, fun above => lookup_refused can (if_pos above), fun low free => lookup_refused can ?_,
      fun k bound => lookup_taken (k := k) can ?_, fun above => lookup_refused can ?_, fun k place => lookup_taken (k := k) can ?_⟩
    · rw [takeLookup_carrier low, onCarrier_none _ (by rwa [heard_bound])]
    · rw [takeLookup_carrier (bound_le bound), onCarrier_some _ (by rwa [heard_bound])]
    · rw [takeLookup, slotOf_none n above]
    · obtain rfl := place
      rw [takeLookup, slotOf_val]
  case referral =>
    refine ⟨fun none => ?_, fun k rest first => ?_⟩
    · exact request_refused .nextReferral () takeNextReferral can rfl .empty (by rw [takeNextReferral, heard_referral, none])
    · exact request_ok .nextReferral () takeNextReferral _ can rfl (by rw [takeNextReferral, heard_referral, first]; rfl)
  case page =>
    refine ⟨fun above => readPage_refused can (if_pos above), fun low none => readPage_refused can ?_,
      fun p low presented => ⟨fun beyond => readPage_refused can ?_, fun r stored => ?_⟩⟩
    · rw [takeReadPage, if_neg (Nat.not_lt_of_le low), heard_presented, none]
    · rw [takeReadPage_presented low (by rwa [heard_presented]), heard_page, List.getElem?_eq_none beyond]
    · refine request_ok .readPage i takeReadPage _ can rfl ?_
      rw [takeReadPage_presented low (by rwa [heard_presented]), heard_page, stored]
      rfl

end Sys2Proof.Links

namespace Sys2Proof.Links

open Sys2Proof.Machine Sys2Proof.Safety Sys2Proof.Laws Sys2Proof.Roll Sys2Proof.Settings

/-! ### Links stopped and started (R180, R181) -/

/-- The slots that a link holds are in the states of its claims (R16). -/
def ClaimsOf (m : LinkId) (s : State) : Prop :=
  ∀ k, (s.slot k).holder = some (.link m) → holderOf (s.slot k).state = some m

theorem claimsOf_roll {s : State} (L : RollLaw s) (m : LinkId) : ClaimsOf m s := fun k => (L.linkHolder k m).mp

/-- A good frame on a link leaves the roll. -/
theorem rollLaw_heard {s : State} (L : RollLaw s) (l : LinkId) : RollLaw (heard s l) :=
  (rollLaw_iff _).mpr ((rollLaw_iff s).mp L :)

section
variable {m l : LinkId} {s : State}

theorem claimsOf_dropIfHeld (claims : ClaimsOf m s) (a : SlotId) : ClaimsOf m (dropIfHeld m s a) := by
  intro k held
  rw [slot_dropIfHeld] at held ⊢
  split_ifs at held ⊢ with dropped
  · obtain ⟨rfl, owned⟩ := dropped
    rw [givenUp_of_holderOf (claims a owned)] at held
    cases held
  · exact claims k held

/-- The notice of a claim given up goes to the link that gave it up, if to any (R11, R18). -/
theorem link_dropIfHeld (claims : ClaimsOf m s) (other : l ≠ m) (a : SlotId) : (dropIfHeld m s a).link l = s.link l := by
  unfold dropIfHeld
  split_ifs with held
  · have owner := claims a held
    obtain ⟨-, e⟩ | ⟨state, e⟩ | ⟨state, e⟩ | ⟨-, -, -, e⟩ := giveUpClaim_cases a s <;> rw [e]
    · rfl
    · obtain rfl : LinkId.L3 = m := by rw [state] at owner; exact Option.some.inj owner
      rw [raise_link, if_neg (by simpa [Notice.kind, towards] using other)]
      rfl
    · obtain rfl : LinkId.L4 = m := by rw [state] at owner; exact Option.some.inj owner
      rw [raise_link, if_neg (by simpa [Notice.kind, towards] using other)]
      rfl
  · rfl

theorem link_dropClaims (claims : ClaimsOf m s) (other : l ≠ m) : (dropClaims m s).link l = s.link l := by
  unfold dropClaims
  induction allSlots generalizing s with
  | nil => rfl
  | cons a ks ih => rw [List.foldl_cons, ih (claimsOf_dropIfHeld claims a), link_dropIfHeld claims other]

theorem sameButLine_dropClaims (m : LinkId) (s : State) : SameButLine s (dropClaims m s) :=
  .foldl (fun u k => by
    unfold dropIfHeld
    split_ifs
    · exact sameButLine_giveUpClaim k u
    · exact .refl u) _ s

theorem heads_dropClaims (m : LinkId) (s : State) : (dropClaims m s).heads = s.heads :=
  foldl_keeps (fun s => s.heads) _ (fun u k => by
    unfold dropIfHeld
    split_ifs
    · exact heads_giveUpClaim k u
    · rfl) _ s

/-- Claims dropped change slots and links. -/
theorem dropClaims_keeps (m : LinkId) (s : State) :
    dropClaims m s = { s with slots := (dropClaims m s).slots, links := (dropClaims m s).links } := by
  have same : dropClaims m s =
      { s with links := (dropClaims m s).links, heads := (dropClaims m s).heads, slots := (dropClaims m s).slots } :=
    sameButLine_dropClaims m s
  rw [heads_dropClaims] at same
  exact same

theorem updLink_keeps {t : State} (keeps : t = { s with slots := t.slots, links := t.links }) (f : Link → Link) :
    t.updLink m f = { s with slots := (t.updLink m f).slots, links := (t.updLink m f).links } := by
  obtain ⟨slots, links, rfl⟩ : ∃ slots links, t = { s with slots := slots, links := links } := ⟨_, _, keeps⟩
  rfl

/-- A stop clears what was pending, so what the claims dropped added to it is gone. -/
theorem stop_dropClaims (m : LinkId) (s : State) : ((dropClaims m s).link m).stop = (s.link m).stop :=
  (congrArg Link.stop (bare_dropClaims m s m) :)

theorem stop_eq (k : Link) :
    k.stop =
      { k with
        state := .stopped, rx := .hunting, timer := 0, pending := []
        tx := k.tx.bind fun o => if o.stage = .sending then some o else none } := by
  rw [← stop_tx]
  rfl

theorem stopLink_ok {t : State} (can : CanTake s .L0) {n : Nat} (stops : takeStopLink n (heard s .L0) = (t, okWith [])) :
    exec (.stopLink .L0 (.fields n)) s = .next (answered t .L0 10 .ok []) :=
  request_ok .stopLink n takeStopLink [] can rfl stops

theorem stopLink_refused (can : CanTake s .L0) {n : Nat} {st : Status}
    (refuses : takeStopLink n (heard s .L0) = (heard s .L0, refusal st)) :
    exec (.stopLink .L0 (.fields n)) s = .next (refusedWith s .L0 10 st) :=
  request_refused .stopLink n takeStopLink can rfl st refuses

/-- What a stop makes of the unit: the claims dropped, then the link stopped. -/
def stopped (m : LinkId) (s : State) : State := (dropClaims m s).updLink m Link.stop

theorem takeStopLink_named (other : m ≠ .L0) :
    takeStopLink (linkNumber m) s =
      if (s.link m).state = .stopped then (s, okWith []) else (stopped m s, okWith []) := by
  rw [takeStopLink, linkOf_linkNumber]
  exact if_neg other

theorem stopped_slot (L : RollLaw s) (k : SlotId) :
    (stopped m s).slot k =
      if (s.slot k).holder = some (.link m) then { s.slot k with state := (s.slot k).state.returned, holder := none }
      else s.slot k := by
  rw [stopped, State.slot_updLink, slot_dropClaims]
  split_ifs with held
  · rw [givenUp_of_holderOf ((L.linkHolder k m).mp held)]
    rfl
  · rfl

theorem stopped_link_self (m : LinkId) (s : State) : (stopped m s).link m = (s.link m).stop := by
  rw [stopped, State.link_updLink, if_pos rfl, stop_dropClaims]

theorem stopped_link_other (claims : ClaimsOf m s) (other : l ≠ m) : (stopped m s).link l = s.link l := by
  rw [stopped, State.link_updLink, if_neg other, link_dropClaims claims other]

theorem stopped_keeps (m : LinkId) (s : State) :
    stopped m s = { s with slots := (stopped m s).slots, links := (stopped m s).links } :=
  updLink_keeps (dropClaims_keeps m s) Link.stop

end

/-- Settles O33: a stop drops the claims, whose notices stay on the link that is then cleared. -/
theorem linksStopAndStart : Obligations.LinksStopAndStart := by
  refine ⟨⟨rfl, rfl, rfl⟩, fun s can => ⟨fun n above => ⟨stopLink_refused can ?_, ?_⟩, stopLink_refused can rfl,
    fun m other down => stopLink_ok can ?_, fun m L other up => ⟨stopped m (heard s .L0), stopLink_ok can ?_, fun k => ?_, ?_,
    fun l apart => ?_, ?_⟩, fun m => ?_⟩⟩
  · rw [takeStopLink, linkOf_none n above]
  · exact request_refused .startLink n takeStartLink can rfl .field (by rw [takeStartLink, linkOf_none n above])
  · rw [takeStopLink_named other, heard_link_other s .L0 m other, if_pos down]
  · rw [takeStopLink_named other, heard_link_other s .L0 m other, if_neg up]
  · exact stopped_slot (rollLaw_heard L .L0) k
  · rw [stopped_link_self, heard_link_other s .L0 m other, stop_eq]
  · exact stopped_link_other (claimsOf_roll (rollLaw_heard L .L0) m) apart
  · exact stopped_keeps m (heard s .L0)
  · exact request_ok .startLink (linkNumber m) takeStartLink [] can rfl (by rw [takeStartLink, linkOf_linkNumber]; rfl)

end Sys2Proof.Links

namespace Sys2Proof.Links

open Sys2Proof.Machine Sys2Proof.Safety Sys2Proof.Laws Sys2Proof.Roll Sys2Proof.Settings

/-! ### A second of the unit clock (R122, R180) -/

/-- A second later, before anything is made due: the clock and the timers have risen. -/
def ticked (s : State) : State := tickTimers { s with clock := s.clock + 1 }

section
variable (s : State)

theorem link_ticked (l : LinkId) :
    (ticked s).link l =
      { s.link l with
        timer := if l = .L0 ∨ (s.link l).state = .stopped then (s.link l).timer else (s.link l).timer + 1 } := by
  refine (link_tickTimers _ l).trans ?_
  simp only [mem_timedLinks]
  by_cases supervisor : l = .L0
  · rw [if_neg (not_not_intro supervisor), if_pos (.inl supervisor)]
    rfl
  · rw [if_pos supervisor]
    show (s.link l).tick = _
    unfold Link.tick
    by_cases stopped : (s.link l).state = .stopped
    · rw [if_pos stopped, if_pos (.inr stopped)]
    · rw [if_neg stopped, if_neg (not_or.mpr ⟨supervisor, stopped⟩)]

theorem rollLaw_ticked {s : State} (L : RollLaw s) : RollLaw (ticked s) :=
  (rollLaw_iff _).mpr ((rollLaw_iff s).mp L :)

/-- A RUNNING link of L1 to L5 is due when its timer, risen by one, is at a limit that is not 0. -/
theorem linkDue_ticked (l : LinkId) :
    LinkDue (ticked s) l ↔
      l ≠ .L0 ∧ (s.link l).state = .running ∧ s.limits.silence ≠ 0 ∧ s.limits.silence ≤ (s.link l).timer + 1 := by
  refine and_congr_right fun timed => ?_
  rw [silentAt_iff, link_ticked]
  refine and_congr_right fun runs => ?_
  have rises : ¬(l = .L0 ∨ (s.link l).state = .stopped) := by
    rintro (supervisor | stopped)
    · exact timed supervisor
    · exact absurd (runs.symm.trans stopped) (by decide)
  rw [if_neg rises]
  rfl

/-- What the second makes due: links lost, then heads lapsed. -/
def later : State := lapseExpired (loseSilentLinks (ticked s))

theorem sameButLine_later : SameButLine (ticked s) (later s) :=
  (sameButLine_loseSilentLinks _).trans (.foldl sameButLine_lapseIfExpired _ _)

theorem later_keeps :
    later s = { s with clock := (later s).clock, links := (later s).links, heads := (later s).heads, slots := (later s).slots } := by
  have same := sameButLine_later s
  obtain ⟨links, heads, slots, shape⟩ : ∃ links heads slots, later s =
      { ticked s with links := links, heads := heads, slots := slots } := ⟨_, _, _, same⟩
  rw [shape]
  rfl

/-- The links lost leave which heads are due. -/
theorem expired_loseSilentLinks (u : State) (h : HeadId) : (loseSilentLinks u).expired h = u.expired h := by
  have same := sameButLine_loseSilentLinks u
  have head : (loseSilentLinks u).head h = u.head h := by rw [State.head, heads_loseSilentLinks]; rfl
  simp only [State.expired, same.limits, same.clock, head]

theorem expired_ticked (h : HeadId) :
    (ticked s).expired h = true ↔
      ∃ p, (s.head h).proving = some p ∧ p.provedAt + s.limits.validity * 60 ≤ s.clock + 1 := expired_iff (ticked s) h

theorem head_later (h : HeadId) :
    (later s).head h = if (ticked s).expired h = true then unproved (s.head h) else s.head h := by
  have head : (loseSilentLinks (ticked s)).head h = s.head h := by rw [State.head, heads_loseSilentLinks]; rfl
  rw [later, head_lapseExpired, expired_loseSilentLinks, head]

section
open Classical

theorem slot_later (k : SlotId) :
    (later s).slot k =
      if ∃ l, LinkDue (ticked s) l ∧ (s.slot k).holder = some (.link l) then givenUp (s.slot k) else s.slot k := by
  rw [later, slot_lapseExpired, slot_loseSilentLinks]
  rfl

theorem bare_later (l : LinkId) :
    bare ((later s).link l) =
      { bare (s.link l) with
        state := if LinkDue (ticked s) l then .lost else (s.link l).state
        timer := if l = .L0 ∨ (s.link l).state = .stopped then (s.link l).timer else (s.link l).timer + 1 } := by
  rw [later, bare_lapseExpired, bare_loseSilentLinks, link_ticked]
  by_cases due : LinkDue (ticked s) l
  · rw [if_pos due]
    exact if_pos due
  · rw [if_neg due]
    exact if_neg due

theorem state_later (l : LinkId) :
    ((later s).link l).state = if LinkDue (ticked s) l then .lost else (s.link l).state :=
  (congrArg Link.state (bare_later s l) :)

end

theorem timer_later (l : LinkId) :
    ((later s).link l).timer =
      if l = .L0 ∨ (s.link l).state = .stopped then (s.link l).timer else (s.link l).timer + 1 := by
  classical exact (congrArg Link.timer (bare_later s l) :)

/-- Links that are the same but for their state, timer and pending set. -/
theorem link_of_bare_timed {k m : Link} {st : LinkState} {n : Nat} (same : bare m = { bare k with state := st, timer := n }) :
    m = { k with state := m.state, timer := m.timer, pending := m.pending } := by
  obtain ⟨⟩ := k
  obtain ⟨⟩ := m
  simp_all [bare]

/-- The items that the second adds to a link. -/
theorem gains_later (l : LinkId) :
    Gains l (fun n => (∃ m, LinkDue (ticked s) m ∧ LossNotice (ticked s) m l n) ∨
      ((l = .L0 ∨ l = .L2) ∧ ∃ h, (ticked s).expired h = true ∧ n = .headUnproved h)) s (later s) := by
  have rises : Gains l (fun _ => False) s (ticked s) := .nothing (by rw [link_ticked]) (by rw [link_ticked])
  refine ((rises.trans (gains_loseSilentLinks _ l)).trans (gains_lapseExpired _ l)).congr fun n => ?_
  simp only [expired_loseSilentLinks, false_or]
  rfl

theorem advanceClock_runs {s : State} (runs : s.clock < 4294967295) : advanceClock s = later s := if_pos runs

theorem advanceClock_stands {s : State} (last : 4294967295 ≤ s.clock) : advanceClock s = s := if_neg (Nat.not_lt_of_le last)

/-- SILENCE_TIMEOUT of a link that the next second loses is that second. -/
theorem silenceTimeout_due {s : State} (powered : s.powered = true) {l : LinkId} (due : LinkDue (ticked s) l) :
    exec (.silenceTimeout l) s = .next (advanceClock s) := by
  refine (event_powered _ powered).trans (congrArg _ (if_pos ?_))
  obtain ⟨timed, runs, limit, reached⟩ := (linkDue_ticked s l).mp due
  have rises : (s.link l).tick = { s.link l with timer := (s.link l).timer + 1 } := if_neg (by rw [runs]; rintro ⟨⟩)
  rw [silenceDue, rises]
  simp [Link.silent, timed, runs, limit, reached]

/-- LAPSE_BY_TIME of a head that the next second lapses is that second. -/
theorem lapseByTime_due {s : State} (powered : s.powered = true) {h : HeadId} (due : (ticked s).expired h = true) :
    exec (.lapseByTime h) s = .next (advanceClock s) :=
  (event_powered _ powered).trans (congrArg _ (if_pos due))

end

/-- Settles O57: the timers rise first, then the silent links are lost, then the heads lapse; none of the three changes
what another finds. -/
theorem clockAdvances : Obligations.ClockAdvances := by
  intro s powered L
  have second : exec .unitClockAdvance s = .next (advanceClock s) := event_powered advanceClock powered
  refine ⟨fun last => by rw [second, advanceClock_stands last], fun runs => ?_⟩
  refine ⟨later s, by rw [second, advanceClock_runs runs], ?_⟩
  intro lost expired
  have isLost : lost = LinkDue (ticked s) := funext fun l => propext (linkDue_ticked s l).symm
  have isExpired (h : HeadId) : expired h ↔ (ticked s).expired h = true := (expired_ticked s h).symm
  clear_value lost expired
  subst isLost
  refine ⟨(sameButLine_later s).clock, timer_later s, fun l => ⟨fun h => ?_, fun h => ?_⟩, fun l => ?_,
    fun h => ⟨fun due => ?_, fun stands => ?_⟩, fun k => ⟨fun l due held => ?_, fun free => ?_⟩, ?_, later_keeps s,
    fun l due => ?_, fun h due => ?_⟩
  · classical exact (state_later s l).trans (if_pos h)
  · classical exact (state_later s l).trans (if_neg h)
  · classical exact link_of_bare_timed (bare_later s l)
  · exact (head_later s h).trans (if_pos ((isExpired h).mp due))
  · exact (head_later s h).trans (if_neg (mt (isExpired h).mpr stands))
  · classical
    exact ((slot_later s k).trans (if_pos ⟨l, due, held⟩)).trans (givenUp_of_holderOf ((L.linkHolder k l).mp held))
  · classical exact (slot_later s k).trans (if_neg fun ⟨l, due, held⟩ => free l due held)
  · intro raised l n
    refine ((gains_later s l).pends n).trans (or_congr_right (and_congr_right fun _ => ?_))
    rw [exists_lossNotice_iff (rollLaw_ticked L), or_right_comm, or_assoc]
    simp only [raised, isExpired]
    rfl
  · rw [silenceTimeout_due powered due, advanceClock_runs runs]
  · rw [lapseByTime_due powered ((isExpired h).mp due), advanceClock_runs runs]

end Sys2Proof.Links
